-- ==== Sys2Proof/Word.lean ====
section
/-!
DEFINITION. The word types, the small named sets and the data that a command carries.
-/

namespace Sys2Proof

/-- A register or memory word: registers are 32 bits wide (00 R6). -/
abbrev Word := BitVec 32
/-- A byte of memory. -/
abbrev Byte := BitVec 8
/-- A partition number, 0 to 1023 (07 R159). -/
abbrev Part := BitVec 10
/-- An executor: an engine by its number, an alloy triad t as 3t (08 R198). -/
abbrev Exe := Fin 96
/-- A general word register W0 to W31 (05 R107). -/
abbrev WReg := BitVec 5
/-- A float register F0 to F15 (05 R107). -/
abbrev FReg := BitVec 4

/-- The 8-bit status codes of 00 R10. -/
inductive Status where
  | ok | retry | busy | denied | size | keyEmpty | timeout | crc
  | version | full | aborted | cutoff | preempted | stale | mismatch | fault
  deriving DecidableEq, Repr

/-- The code of a status (00 R10). -/
def Status.code : Status → Nat
  | .ok => 0 | .retry => 1 | .busy => 2 | .denied => 3 | .size => 4 | .keyEmpty => 5
  | .timeout => 6 | .crc => 7 | .version => 8 | .full => 9 | .aborted => 10 | .cutoff => 11
  | .preempted => 12 | .stale => 13 | .mismatch => 14 | .fault => 15

/-- Who makes a register access: a partition's job, or the debug port (18 R418). -/
inductive Who where
  | part (p : Part)
  | dbg
  deriving DecidableEq, Repr

/-- The width of an access in bytes: 1, 2, 4 or 8 (00 R6, 16 R370). -/
inductive Size where
  | b1 | b2 | b4 | b8
  deriving DecidableEq, Repr

/-- The number of bytes of an access width. -/
def Size.bytes : Size → Nat
  | .b1 => 1 | .b2 => 2 | .b4 => 4 | .b8 => 8

/-- The units of the subsystem map, in the bit order of SUP.ALMSTAT (18 R408). -/
inductive Unt where
  | sup | clk | tim | fab | sch | mem | arb | she | eth | stn | can | dio | alp | sto | brb | sec
  deriving DecidableEq, Repr

/-- The ALMSTAT bit of a unit (18 R408). -/
def Unt.idx : Unt → Nat
  | .sup => 0 | .clk => 1 | .tim => 2 | .fab => 3 | .sch => 4 | .mem => 5 | .arb => 6 | .she => 7
  | .eth => 8 | .stn => 9 | .can => 10 | .dio => 11 | .alp => 12 | .sto => 13 | .brb => 14 | .sec => 15

/-- The clock domains (03 R51). -/
inductive Domain where
  | engine | fabric | dram | peripheral | network | time | pewter
  deriving DecidableEq, Repr

/-- The lanes of a triad (04 R76). -/
inductive Lane where
  | a | b | c
  deriving DecidableEq, Repr

/-- The number of a lane: A 0, B 1, C 2 (04 R105). -/
def Lane.idx : Lane → Nat
  | .a => 0 | .b => 1 | .c => 2

/-- A whole bus output of a lane: address, data, byte enables and attributes (04 R80). -/
structure BusOut where
  addr : BitVec 40
  data : Word
  be : BitVec 4
  write : Bool
  attr : BitVec 4
  deriving DecidableEq, Repr

/-- A register of a lane, as a debug access names it (04 R97, 05 R107). -/
inductive LaneReg where
  | w (r : WReg)
  | f (r : FReg)
  | pc | sw | la | fl
  /-- An entry of the nesting stack, counted from its bottom. -/
  | nest (k : Fin 16)
  deriving DecidableEq, Repr

/-- What a debug access reaches: the physical space, or a register of a lane of a triad (04 R97, 18 R418). -/
inductive DbgTarget where
  | bus (addr : BitVec 40)
  | lane (t : Fin 32) (r : LaneReg)
  deriving DecidableEq, Repr

/-- The operand bit of a bit instruction: direct (space, byte, bit) or indirect (space, address register,
base register) (06 R137, R148). -/
inductive BitOpd where
  | direct (space : BitVec 2) (byte : BitVec 16) (bit : BitVec 3)
  | indirect (space : BitVec 2) (a : WReg) (base : WReg)
  deriving DecidableEq, Repr

/-- The memory errors of 08 R195 that a line can hold. -/
inductive EccErr where
  | none | single | device | double
  deriving DecidableEq, Repr

/-- The measurement that a loop channel latches at a conversion: the mean of the loop current over the 1 ms
window, in code units of 0.5 uA (14 R331). -/
structure Meas where
  ch : Fin 32
  mean : BitVec 16
  deriving DecidableEq, Repr

/-- An Ethernet frame at a port (09 R216, R218). -/
structure Frame where
  dst : BitVec 48
  src : BitVec 48
  /-- PCP and VID of the one tag, if tagged. -/
  tag : Option (BitVec 3 × BitVec 12)
  /-- A second VLAN tag is present. -/
  tag2 : Bool
  etype : BitVec 16
  payload : List Byte
  fcsOk : Bool
  deriving DecidableEq, Repr

/-- A frame of the CAN bus; err is the error code of 12 R304 that ended it, 0 for a valid frame. -/
structure CanFrame where
  xtd : Bool
  rtr : Bool
  fdf : Bool
  brs : Bool
  esi : Bool
  id : BitVec 29
  dlc : BitVec 4
  data : List Byte
  err : BitVec 3
  /-- The error met a receiver while it sent an active error flag or an overload flag, or just after one (ISO 11898-1). -/
  inFlag : Bool := false
  /-- How long ago the start-of-frame edge was, in ns (12 R291). -/
  age : BitVec 32 := 0
  deriving DecidableEq, Repr

/-- What the bus makes of a transmission: success, lost arbitration, a bit error at a data bit position, or another
error by its code (12 R294, R299, R304). -/
inductive CanResult where
  | ok
  | arbLost
  | bitErr (pos : BitVec 9) (recessive : Bool)
  | error (lec : BitVec 3)
  deriving DecidableEq, Repr

/-- A Stolnet port: a star port or a ring port, ring A 0 and ring B 1 (10 R242). -/
inductive StnPort where
  | star (s : Fin 16)
  | ring (r : Fin 2)
  deriving DecidableEq, Repr

/-- A Stolnet frame (10 R246, R247). late: it was still arriving at the window end. -/
structure StnFrame where
  ver : BitVec 4
  typ : Byte
  len : BitVec 13
  slot : BitVec 12
  station : BitVec 5
  node : BitVec 5
  cycle : Word
  cfgid : BitVec 16
  hops : Byte
  lb : Bool
  payload : List Byte
  crcOk : Bool
  late : Bool
  deriving DecidableEq, Repr

/-- A character received by a HART modem, and whether its parity was wrong (14 R342). -/
structure HartChar where
  ch : Byte
  parityErr : Bool
  deriving DecidableEq, Repr

/-- What an SSD reports while its link is brought up (15 R349, R350). -/
structure SsdInfo where
  block4k : Bool
  ver14 : Bool
  blocks : Nat
  cachePresent : Bool
  cacheRefused : Bool
  otherError : Bool
  deriving DecidableEq, Repr

/-- An error that a lane's caches detect (04 R83): a single-bit L2 error, which is corrected, or any other. -/
structure LaneErr where
  lane : Lane
  corrected : Bool
  deriving DecidableEq, Repr

/-- A transfer as it is presented (08 R198, R199): its beats, and the fabric cycle. -/
structure Burst where
  beats : BitVec 7
  cyc : Nat
  deriving DecidableEq, Repr

/-- The loss of an Ethernet port's link (09 R228, R233), which may cut off a frame in transmission. -/
structure PortLoss where
  port : Fin 14
  cut : Bool
  deriving DecidableEq, Repr

end Sys2Proof
end

