-- ==== Sys2Proof/Syntax.lean ====
section
/-!
DEFINITION. The commands of the block: one constructor per row of the table of operations and events, with the
operands of the row. Each docstring gives the row's name and rule and what the row says.
-/

namespace Sys2Proof

/-- A command. -/
inductive Instr where
  /-- REGISTER_WRITE (R8). A write to a register that has no row of its own sets the field values under the access
  codes, subject to the unit's own write checks. -/
  | registerWrite (w : Who) (addr : BitVec 40) (sz : Size) (v : Word)
  /-- PEWTER_WRITE_ARRIVAL (R61). A posted write to a pewter-domain register reaches the pewter domain and PEWPEND
  clears. -/
  | pewterWriteArrival
  /-- VPEW_POWER_UP (R424). VPEW rises through its monitor threshold and the power-up reset begins. -/
  | vpewPowerUp
  /-- VPEW_BELOW_THRESHOLD (R424). VPEW falls below its monitor threshold and the whole device, pewter domain
  included, is held in reset. -/
  | vpewBelowThreshold
  /-- POWER_UP_RESET_END (R424). VPEW has stayed above its threshold for 1 ms, so the power-up reset ends unless
  PORST_L is still low. -/
  | powerUpResetEnd
  /-- MONITOR_ARM (R34). Every monitored rail has stayed above its threshold for 1 ms, so the brown-out monitors are
  armed and boot step 1 may begin. -/
  | monitorArm
  /-- VCORE_CONNECT (R29). A VCORE group's power-good and voltage have held for 10 ms, so its power switch closes. -/
  | vcoreConnect (groupB : Bool)
  /-- VCORE_DISCONNECT (R29). A VCORE group loses power-good or leaves 0.70-0.80 V, so it is disconnected within 2 us
  with an alarm and a record. -/
  | vcoreDisconnect (groupB : Bool)
  /-- PFAIL_RISE (R423). A rising edge of PFAIL sets PFLAT and, in Run with no flush running, starts the power-fail
  timeline. -/
  | pfailRise
  /-- FLUSH_COMPLETE (R32). The power-fail flush completes and FLUSHDONE is set. -/
  | flushComplete
  /-- PFAIL_FALL (R33). PFAIL falls before any brown-out trip; the device rides through and class N releases and
  update writes resume. -/
  | pfailFall
  /-- BROWN_OUT (R34). A rail stays below its threshold for 1 us; the field die is commanded safe, the logic is held
  in reset and RSTCAUSE.BROWN is set. -/
  | brownOut
  /-- BROWN_OUT_RECOVERY (R34). Every monitored rail has stayed above its threshold for 1 ms after a trip, so the
  boot restarts at step 2. -/
  | brownOutRecovery
  /-- DOZE_REQUEST (R36). The foundry partition writes PSTATE.REQ = 01b; if every other partition is held, doze entry
  starts with the field die commanded safe. -/
  | dozeRequest (w : Who) (v : Word)
  /-- PEWTER_REQUEST (R36). The foundry partition writes PSTATE.REQ = 10b; if every other partition is held, pewter
  entry starts with the field safe state and a recorder flush. -/
  | pewterRequest (w : Who) (v : Word)
  /-- POWER_STATE_ENTRY (R37). Doze or pewter entry reaches its last step and the device either enters the state or
  returns to Run. -/
  | powerStateEntry
  /-- WAKE (R38). An enabled wake source returns the device from doze to Run, or from pewter through the boot from
  step 2. -/
  | wake
  /-- WAKE_PIN (R41). WAKE_L goes low and WAKESRC.WAKEPIN latches. -/
  | wakePin
  /-- WARM_RESET_SW (R43). RSTCTL written with KEY 5Ah and KIND 01b starts a warm reset and sets RSTCAUSE.WARMSW. -/
  | warmResetSw (w : Who) (v : Word)
  /-- COLD_RESET_SW (R43). RSTCTL written with KEY 5Ah and KIND 10b flushes the recorder, then starts a cold reset
  and sets RSTCAUSE.COLDSW. -/
  | coldResetSw (w : Who) (v : Word)
  /-- WRST_L_LOW (R44). WRST_L held low for 100 ns latches a warm reset, which holds while the pin stays low. -/
  | wrstLLow
  /-- WRST_L_RELEASE (R44). WRST_L rises and the warm reset proceeds with the boot from step 3. -/
  | wrstLRelease
  /-- PORST_L_LOW (R44). PORST_L held low for 100 ns resets the whole device, timebase and fuse shadow included, and
  sets PORPIN. -/
  | porstLLow
  /-- PORST_L_RELEASE (R424). PORST_L rises and the boot proceeds from step 1 once the monitors are armed. -/
  | porstLRelease
  /-- TRST_L_LOW (R44). TRST_L low resets the debug port only. -/
  | trstLLow
  /-- DEFERRED_RESET (R45). A cold or warm reset that waited for a running power-fail flush starts when the flush
  completes or 2 ms have passed. -/
  | deferredReset
  /-- FUSE_LOAD (R48). The fuses are sensed into the shadow and checked; a failure enters the fatal halt. -/
  | fuseLoad
  /-- XA_DELAY_EXPIRY (R52). The CLK.XADLY start delay expires after XA was enabled. -/
  | xaDelayExpiry
  /-- XB_DELAY_EXPIRY (R52). The CLK.XBDLY start delay expires and the XB monitor is applied. -/
  | xbDelayExpiry
  /-- XA_CONFIRM_TIMEOUT (R52). XA is not confirmed 65 536 SRC ticks after its delay, so the boot continues on FRC
  fallback with XAFAIL set. -/
  | xaConfirmTimeout
  /-- PLL_LOCK (R57). A PLL locks and its domains switch from FRC to the PLL without a short or lost pulse. -/
  | pllLock (n : Fin 4)
  /-- MEMORY_INIT_DONE (R48). DRAM training and cycle-memory zeroing, or the DRAM exit from self-refresh, complete at
  boot step 4. -/
  | memoryInitDone
  /-- FOUNDRY_IMAGE_DONE (R48). Verification of the selected FND slot completes at boot step 6; on failure the next
  slot is tried. -/
  | foundryImageDone
  /-- MICROCODE_LOADED (R48). The FIO and NET images are verified, checked for compatibility and loaded at boot step
  7. -/
  | microcodeLoaded
  /-- BOOT_STOP_REPEAT (R49). Every 1 s after a boot stop the stop line is written again. -/
  | bootStopRepeat
  /-- XA_MONITOR_WINDOW (R55). An XA monitor window of 1024 XA cycles ends and its FRC count is judged against the
  pass band. -/
  | xaMonitorWindow (cnt : BitVec 16)
  /-- XB_MONITOR_WINDOW (R55). An XB monitor window of 32 XB cycles ends and its SRC count is judged against the pass
  band. -/
  | xbMonitorWindow (cnt : BitVec 16)
  /-- XA_STOP (R55). No XA edge for 200 FRC cycles triggers XA fallback. -/
  | xaStop
  /-- XB_STOP (R55). No XB edge for 32 SRC ticks switches the pewter domain to SRC. -/
  | xbStop
  /-- PLL_UNLOCK (R55). A PLL loses lock; its domains switch to FRC within 100 ns and its UL bit is set. -/
  | pllUnlock (n : Fin 4)
  /-- CLOCK_REQUEST (R57). A clock request opens a domain's gate, starting its PLL on FRC if the PLL is off. -/
  | clockRequest (d : Domain)
  /-- PLL_HOLD_EXPIRY (R57). A PLL unrequested for its HOLD time powers down. -/
  | pllHoldExpiry (n : Fin 4)
  /-- EPLLFREQ_WRITE (R59). A write changing MULT while the scheduler is disabled relocks EPLL with every engine held
  for 20 us. -/
  | epllfreqWrite (w : Who) (v : Word)
  /-- REPLICA_SYNC (R63). Every 4.096 us the master timebase value is sent to each replica; a replica off by more
  than one tick is reloaded with an alarm. -/
  | replicaSync (u : Fin 16) (val : BitVec 64)
  /-- TIMEBASE_HANDOVER (R64). At an XB or SRC edge the timebase hands over between the fast and the pewter counter
  and TBSTAT.SRC changes. -/
  | timebaseHandover
  /-- TBSLEW_WRITE (R65). The foundry partition writes a slew offset that replaces the remainder applied tick by
  tick. -/
  | tbslewWrite (w : Who) (v : Word)
  /-- TIMEBASE_STEP (R65). A write to TBSTEP_HI while the scheduler is disabled applies the signed step at the next
  tick and sets STEPPED. -/
  | timebaseStep (w : Who) (v : Word)
  /-- TBNS_LO_READ (R66). A read of TBNS_LO latches TBNS_HI and TBFRAC from the same tick for the reader. -/
  | tbnsLoRead (w : Who)
  /-- COMPARATOR_ALLOCATE (R69). The foundry partition writes TTn_OWN to allocate or release a comparator. -/
  | comparatorAllocate (w : Who) (n : Fin 32) (v : Word)
  /-- COMPARATOR_CONTROL_WRITE (R71). A TTn_CTL write enables or disables a comparator and its actions, subject to
  the PPS and period checks. -/
  | comparatorControlWrite (w : Who) (n : Fin 32) (v : Word)
  /-- COMPARATOR_PERIOD_WRITE (R166). A TTn_PER_S write is checked against the release groups and admission and sets
  the shadow period. -/
  | comparatorPeriodWrite (w : Who) (n : Fin 32) (v : Word)
  /-- COMPARATOR_FIRE (R68). The timebase reaches a comparator's compare time; it signals its targets, sets FIRED and
  re-arms or disables itself. -/
  | comparatorFire (n : Fin 32) (meas : List Meas)
  /-- TRIG_EDGE (R74). An active edge on TRIG0 or TRIG1 is stamped and latches its wake source. -/
  | trigEdge (n : Fin 2) (rising : Bool)
  /-- TRIG_STAMP_READ (R74). A read of the stamp's low word latches the other words and clears VALID. -/
  | trigStampRead (w : Who) (i : Fin 2)
  /-- PPS_PULSE_END (R75). A PPS pulse's WIDTH elapses and the ball returns to its inactive level. -/
  | ppsPulseEnd (i : Fin 2)
  /-- LANE_OUTPUT (R81). A lane presents a bus output, and the voter issues it once two lanes agree. -/
  | laneOutput (t : Fin 32) (l : Lane) (cyc : Nat) (o : BusOut)
  /-- VOTER_WINDOW_EXPIRY (R81). The 8-cycle window after the agreeing pair or the 16-cycle no-majority window
  expires, giving an odd lane or a fault. -/
  | voterWindowExpiry (t : Fin 32) (cyc : Nat)
  /-- SELF_ERROR (R83). An L1 parity or uncorrectable L2 error makes the lane odd with cause SELF. -/
  | selfError (t : Fin 32) (err : LaneErr)
  /-- VOTER_DISAGREEMENT (R84). The two voter copies disagree and the triad enters FAULTED. -/
  | voterDisagreement (t : Fin 32)
  /-- RESYNC (R88). At a job boundary with a resync due, the triad enters RESYNC and writes back, invalidates and
  writes the ingot. -/
  | resync (t : Fin 32)
  /-- RESYNC_DONE (R88). The lanes load and check the ingot; passing lanes are released in lockstep and the triad
  returns to ALLOY3 or ALLOY2, or faults. -/
  | resyncDone (t : Fin 32) (pass : BitVec 3) (flushOk : Bool)
  /-- RESYNC_DEFER_EXPIRY (R88). RSDEFER elapses since the odd event, making a resync due at the next job boundary.
  -/
  | resyncDeferExpiry (t : Fin 32)
  /-- MODE_REQUEST (R92). A write to TCTLn_S requests split or alloy, putting the triad in QUIESCE, or BIST if it was
  FAULTED. -/
  | modeRequest (w : Who) (t : Fin 32) (v : Word)
  /-- HANDOVER_BOUNDARY (R93). At the hand-over boundary TCTLn_S swaps and the triad enters RESYNC, BIST or HANDOVER.
  -/
  | handoverBoundary (t : Fin 32)
  /-- BIST_COMPLETE (R94). The lane self-test ends; failing lanes are retired and the hand-over proceeds or the triad
  faults. -/
  | bistComplete (t : Fin 32) (pass : BitVec 3)
  /-- SPLIT_COMPLETE (R94). The split ends with each passing lane released as an engine and HOVER set. -/
  | splitComplete (t : Fin 32)
  /-- MERGE_COMPLETE (R95). The merge ends with three lanes released in lockstep in ALLOY3 and HOVER set, or in
  FAULTED. -/
  | mergeComplete (t : Fin 32) (pass : BitVec 3)
  /-- ENGINE_ERROR (R94). A split engine's parity or uncorrectable L2 error stops that engine and abandons its job.
  -/
  | engineError (e : Fin 96)
  /-- HALT_REQUEST (R97). HALTREQ halts all in-service lanes of an alloy triad, or the selected split engine, at an
  instruction boundary. -/
  | haltRequest (w : Who) (t : Fin 32) (v : Word)
  /-- DEBUG_RESUME (R106). HALTREQ written 0 resumes the halted lanes or engine. -/
  | debugResume (w : Who) (t : Fin 32) (v : Word)
  /-- DEBUG_STEP (R97). STEP executes one instruction on the halted lanes and halts them again. -/
  | debugStep (w : Who) (t : Fin 32) (v : Word)
  /-- FAULT_INJECTION (R98). A FAB.INJ write with GO arms an injection of the named kind into a lane of an ALLOY3
  triad. -/
  | faultInjection (w : Who) (v : Word)
  /-- ADD (R142). Wrapping word addition with flags. -/
  | add (e : Exe) (d : WReg) (a : WReg) (b : WReg)
  /-- SUB (R142). Wrapping word subtraction with flags. -/
  | sub (e : Exe) (d : WReg) (a : WReg) (b : WReg)
  /-- ADDS (R142). Saturating word addition. -/
  | adds (e : Exe) (d : WReg) (a : WReg) (b : WReg)
  /-- SUBS (R142). Saturating word subtraction. -/
  | subs (e : Exe) (d : WReg) (a : WReg) (b : WReg)
  /-- NEG (R142). Word negation. -/
  | neg (e : Exe) (d : WReg) (a : WReg)
  /-- MUL (R142). Low 32 bits of the word product. -/
  | mul (e : Exe) (d : WReg) (a : WReg) (b : WReg)
  /-- MULS (R142). Saturating word product. -/
  | muls (e : Exe) (d : WReg) (a : WReg) (b : WReg)
  /-- DIV (R116). Signed division giving quotient and remainder. -/
  | div (e : Exe) (d : WReg) (a : WReg) (b : WReg) (c : WReg)
  /-- DIVU (R116). Unsigned division giving quotient and remainder. -/
  | divu (e : Exe) (d : WReg) (a : WReg) (b : WReg) (c : WReg)
  /-- AND (R142). Bitwise word AND. -/
  | and (e : Exe) (d : WReg) (a : WReg) (b : WReg)
  /-- OR (R142). Bitwise word OR. -/
  | or (e : Exe) (d : WReg) (a : WReg) (b : WReg)
  /-- XOR (R142). Bitwise word XOR. -/
  | xor (e : Exe) (d : WReg) (a : WReg) (b : WReg)
  /-- NOT (R142). Bitwise word NOT. -/
  | not (e : Exe) (d : WReg) (a : WReg)
  /-- SHL (R117). Shift left by a register count. -/
  | shl (e : Exe) (d : WReg) (a : WReg) (b : WReg)
  /-- SHR (R117). Shift right with zero fill. -/
  | shr (e : Exe) (d : WReg) (a : WReg) (b : WReg)
  /-- SAR (R117). Shift right with sign fill. -/
  | sar (e : Exe) (d : WReg) (a : WReg) (b : WReg)
  /-- ROL (R117). Rotate left. -/
  | rol (e : Exe) (d : WReg) (a : WReg) (b : WReg)
  /-- ROR (R117). Rotate right. -/
  | ror (e : Exe) (d : WReg) (a : WReg) (b : WReg)
  /-- MOV (R142). Word register copy. -/
  | mov (e : Exe) (d : WReg) (a : WReg)
  /-- ADDI (R144). Add a sign-extended immediate. -/
  | addi (e : Exe) (d : WReg) (a : WReg) (imm : BitVec 16)
  /-- ANDI (R144). AND with a zero-extended immediate. -/
  | andi (e : Exe) (d : WReg) (a : WReg) (imm : BitVec 16)
  /-- ORI (R144). OR with a zero-extended immediate. -/
  | ori (e : Exe) (d : WReg) (a : WReg) (imm : BitVec 16)
  /-- XORI (R144). XOR with a zero-extended immediate. -/
  | xori (e : Exe) (d : WReg) (a : WReg) (imm : BitVec 16)
  /-- MOVI (R144). Load a sign-extended immediate. -/
  | movi (e : Exe) (d : WReg) (imm : BitVec 16)
  /-- MOVHI (R144). Load an immediate into the upper half. -/
  | movhi (e : Exe) (d : WReg) (imm : BitVec 16)
  /-- SHI (R144). Shift or rotate by an immediate count of the encoded kind. -/
  | shi (e : Exe) (d : WReg) (a : WReg) (kind : BitVec 3) (cnt : BitVec 8)
  /-- LDW (R145). Load a word from the effective address. -/
  | ldw (e : Exe) (d : WReg) (a : WReg) (imm : BitVec 16)
  /-- LDH (R145). Load a sign-extended halfword. -/
  | ldh (e : Exe) (d : WReg) (a : WReg) (imm : BitVec 16)
  /-- LDHU (R145). Load a zero-extended halfword. -/
  | ldhu (e : Exe) (d : WReg) (a : WReg) (imm : BitVec 16)
  /-- LDB (R145). Load a sign-extended byte. -/
  | ldb (e : Exe) (d : WReg) (a : WReg) (imm : BitVec 16)
  /-- LDBU (R145). Load a zero-extended byte. -/
  | ldbu (e : Exe) (d : WReg) (a : WReg) (imm : BitVec 16)
  /-- LDF (R145). Load a word into a float register. -/
  | ldf (e : Exe) (d : FReg) (a : WReg) (imm : BitVec 16)
  /-- STW (R145). Store a word. -/
  | stw (e : Exe) (d : WReg) (a : WReg) (imm : BitVec 16)
  /-- STH (R145). Store a halfword. -/
  | sth (e : Exe) (d : WReg) (a : WReg) (imm : BitVec 16)
  /-- STB (R145). Store a byte. -/
  | stb (e : Exe) (d : WReg) (a : WReg) (imm : BitVec 16)
  /-- STF (R145). Store a float register. -/
  | stf (e : Exe) (d : FReg) (a : WReg) (imm : BitVec 16)
  /-- CMP_EQ (R146). LA := signed W[a] = W[b]. -/
  | cmpEq (e : Exe) (a : WReg) (b : WReg)
  /-- CMP_NE (R146). LA := W[a] not equal to W[b]. -/
  | cmpNe (e : Exe) (a : WReg) (b : WReg)
  /-- CMP_LT (R146). LA := signed W[a] < W[b]. -/
  | cmpLt (e : Exe) (a : WReg) (b : WReg)
  /-- CMP_LE (R146). LA := signed W[a] <= W[b]. -/
  | cmpLe (e : Exe) (a : WReg) (b : WReg)
  /-- CMP_GT (R146). LA := signed W[a] > W[b]. -/
  | cmpGt (e : Exe) (a : WReg) (b : WReg)
  /-- CMP_GE (R146). LA := signed W[a] >= W[b]. -/
  | cmpGe (e : Exe) (a : WReg) (b : WReg)
  /-- CMP_LTU (R146). LA := unsigned W[a] < W[b]. -/
  | cmpLtu (e : Exe) (a : WReg) (b : WReg)
  /-- CMP_LEU (R146). LA := unsigned W[a] <= W[b]. -/
  | cmpLeu (e : Exe) (a : WReg) (b : WReg)
  /-- CMP_GTU (R146). LA := unsigned W[a] > W[b]. -/
  | cmpGtu (e : Exe) (a : WReg) (b : WReg)
  /-- CMP_GEU (R146). LA := unsigned W[a] >= W[b]. -/
  | cmpGeu (e : Exe) (a : WReg) (b : WReg)
  /-- FCMP_EQ (R146). LA := F[a] = F[b] under the NaN rules. -/
  | fcmpEq (e : Exe) (a : FReg) (b : FReg)
  /-- FCMP_NE (R146). LA := F[a] not equal to F[b] under the NaN rules. -/
  | fcmpNe (e : Exe) (a : FReg) (b : FReg)
  /-- FCMP_LT (R146). LA := F[a] < F[b]. -/
  | fcmpLt (e : Exe) (a : FReg) (b : FReg)
  /-- FCMP_LE (R146). LA := F[a] <= F[b]. -/
  | fcmpLe (e : Exe) (a : FReg) (b : FReg)
  /-- FCMP_GT (R146). LA := F[a] > F[b]. -/
  | fcmpGt (e : Exe) (a : FReg) (b : FReg)
  /-- FCMP_GE (R146). LA := F[a] >= F[b]. -/
  | fcmpGe (e : Exe) (a : FReg) (b : FReg)
  /-- ADDF (R147). Float addition. -/
  | addf (e : Exe) (d : FReg) (a : FReg) (b : FReg)
  /-- SUBF (R147). Float subtraction. -/
  | subf (e : Exe) (d : FReg) (a : FReg) (b : FReg)
  /-- MULF (R147). Float multiplication. -/
  | mulf (e : Exe) (d : FReg) (a : FReg) (b : FReg)
  /-- DIVF (R147). Float division. -/
  | divf (e : Exe) (d : FReg) (a : FReg) (b : FReg)
  /-- SQRTF (R147). Float square root. -/
  | sqrtf (e : Exe) (d : FReg) (a : FReg)
  /-- ABSF (R147). Float absolute value. -/
  | absf (e : Exe) (d : FReg) (a : FReg)
  /-- NEGF (R147). Float negation. -/
  | negf (e : Exe) (d : FReg) (a : FReg)
  /-- MOVF (R147). Float register copy. -/
  | movf (e : Exe) (d : FReg) (a : FReg)
  /-- CVTFW (R120). Float to word conversion, rounding toward zero. -/
  | cvtfw (e : Exe) (d : WReg) (a : FReg)
  /-- CVTWF (R120). Signed word to float conversion. -/
  | cvtwf (e : Exe) (d : FReg) (a : WReg)
  /-- MOVFW (R147). Copy float bits to a word register. -/
  | movfw (e : Exe) (d : WReg) (a : FReg)
  /-- MOVWF (R147). Copy word bits to a float register. -/
  | movwf (e : Exe) (d : FReg) (a : WReg)
  /-- BLD (R148). LA := bit. -/
  | bld (e : Exe) (o : BitOpd)
  /-- BLDN (R148). LA := not bit. -/
  | bldn (e : Exe) (o : BitOpd)
  /-- BAND (R148). LA := LA and bit. -/
  | band (e : Exe) (o : BitOpd)
  /-- BANDN (R148). LA := LA and not bit. -/
  | bandn (e : Exe) (o : BitOpd)
  /-- BOR (R148). LA := LA or bit. -/
  | bor (e : Exe) (o : BitOpd)
  /-- BORN (R148). LA := LA or not bit. -/
  | born (e : Exe) (o : BitOpd)
  /-- BXOR (R148). LA := LA xor bit. -/
  | bxor (e : Exe) (o : BitOpd)
  /-- BXORN (R148). LA := LA xor not bit. -/
  | bxorn (e : Exe) (o : BitOpd)
  /-- BSET (R148). Set the bit if LA = 1. -/
  | bset (e : Exe) (o : BitOpd)
  /-- BCLR (R148). Clear the bit if LA = 1. -/
  | bclr (e : Exe) (o : BitOpd)
  /-- BASG (R148). Assign LA to the bit. -/
  | basg (e : Exe) (o : BitOpd)
  /-- BRISE (R113). Rising-edge detection against a memory bit. -/
  | brise (e : Exe) (o : BitOpd)
  /-- BFALL (R113). Falling-edge detection against a memory bit. -/
  | bfall (e : Exe) (o : BitOpd)
  /-- LA_NOT (R149). The LOGIC NOT inverts LA. -/
  | laNot (e : Exe)
  /-- GOPEN_LD (R114). Bracket open with pending load. -/
  | gopenLd (e : Exe)
  /-- GOPEN_AND (R114). Bracket open with pending AND. -/
  | gopenAnd (e : Exe)
  /-- GOPEN_OR (R114). Bracket open with pending OR. -/
  | gopenOr (e : Exe)
  /-- GOPEN_XOR (R114). Bracket open with pending XOR. -/
  | gopenXor (e : Exe)
  /-- GOPEN_ANDN (R114). Bracket open with pending AND NOT. -/
  | gopenAndn (e : Exe)
  /-- GOPEN_ORN (R114). Bracket open with pending OR NOT. -/
  | gopenOrn (e : Exe)
  /-- GOPEN_XORN (R114). Bracket open with pending XOR NOT. -/
  | gopenXorn (e : Exe)
  /-- GCLOSE (R114). Bracket close: pops the top entry and combines the saved LA with LA. -/
  | gclose (e : Exe)
  /-- RDLA (R149). Copy LA into a word register. -/
  | rdla (e : Exe) (d : WReg)
  /-- WRLA (R149). Load LA from a word register being nonzero. -/
  | wrla (e : Exe) (a : WReg)
  /-- TON_US (R125). On-delay timer in 1 us units. -/
  | tonUs (e : Exe) (a : WReg) (b : WReg)
  /-- TON_MS (R125). On-delay timer in 1 ms units. -/
  | tonMs (e : Exe) (a : WReg) (b : WReg)
  /-- TOF_US (R125). Off-delay timer in 1 us units. -/
  | tofUs (e : Exe) (a : WReg) (b : WReg)
  /-- TOF_MS (R125). Off-delay timer in 1 ms units. -/
  | tofMs (e : Exe) (a : WReg) (b : WReg)
  /-- TP_US (R125). Pulse timer in 1 us units. -/
  | tpUs (e : Exe) (a : WReg) (b : WReg)
  /-- TP_MS (R125). Pulse timer in 1 ms units. -/
  | tpMs (e : Exe) (a : WReg) (b : WReg)
  /-- CTU (R126). Count up on a rising input. -/
  | ctu (e : Exe) (a : WReg) (b : WReg)
  /-- CTD (R126). Count down on a rising input. -/
  | ctd (e : Exe) (a : WReg) (b : WReg)
  /-- CRST (R126). Reset the count while LA = 1. -/
  | crst (e : Exe) (a : WReg)
  /-- CLD (R126). Load PV into the count while LA = 1. -/
  | cld (e : Exe) (a : WReg) (b : WReg)
  /-- SWAP (R152). Atomic swap on a shared word. -/
  | swap (e : Exe) (d : WReg) (a : WReg) (b : WReg)
  /-- CAS (R152). Atomic compare-and-swap loading LA. -/
  | cas (e : Exe) (d : WReg) (a : WReg) (b : WReg) (c : WReg)
  /-- FADD (R152). Atomic fetch-and-add. -/
  | fadd (e : Exe) (d : WReg) (a : WReg) (b : WReg)
  /-- NOP (R153). No operation. -/
  | nop (e : Exe)
  /-- FENCE (R133). Waits until every earlier access of the job has completed. -/
  | fence (e : Exe)
  /-- CYEND (R136). Fences, writes back and invalidates the image and private lines, and reports the job's end to the
  scheduler. -/
  | cyend (e : Exe)
  /-- ERET (R122). Return from an exception, restoring state from the frame. -/
  | eret (e : Exe)
  /-- MFSW (R153). Read the status word into a register. -/
  | mfsw (e : Exe) (d : WReg)
  /-- MTSW (R153). Write the RW fields of the status word. -/
  | mtsw (e : Exe) (a : WReg)
  /-- JR (R151). Jump to a register address. -/
  | jr (e : Exe) (a : WReg)
  /-- CALLR (R151). Call a register address, saving the return in W31. -/
  | callr (e : Exe) (a : WReg)
  /-- SVC (R129). Places a service request in one of the partition's four slots and returns status and sequence
  number. -/
  | svc (e : Exe) (n : BitVec 12)
  /-- J (R151). Relative jump. -/
  | j (e : Exe) (off : BitVec 26)
  /-- CALL (R151). Relative call saving the return in W31. -/
  | call (e : Exe) (off : BitVec 26)
  /-- JC (R151). Jump if LA = 1. -/
  | jc (e : Exe) (off : BitVec 26)
  /-- JCN (R151). Jump if LA = 0. -/
  | jcn (e : Exe) (off : BitVec 26)
  /-- ILLEGAL_INSTRUCTION (R138). An illegal encoding raises ILLEGAL and changes no state. -/
  | illegalInstruction (e : Exe) (iw : Word)
  /-- RETRY_REISSUE (R154). 100 ns after a RETRY the engine re-issues the same access. -/
  | retryReissue (e : Exe)
  /-- DESCRIPTOR_WRITE (R162). A write to a partition descriptor's _S register sets its shadow, running admission
  where it affects an admitted partition. -/
  | descriptorWrite (w : Who) (n : Part) (k : Fin 8) (v : Word)
  /-- RELEASE_GROUP_WRITE (R165). A write to SCH.RGg binds a release group to a foundry-owned comparator and resets
  its count when VALID rises. -/
  | releaseGroupWrite (w : Who) (g : Fin 16) (v : Word)
  /-- RELEASE (R166). At T, each partition whose DIV and OFS match the group count is released and its snapshot
  starts. -/
  | release (g : Fin 16)
  /-- SNAPSHOT_COMPLETE (R167). A partition's snapshot copy completes and its job becomes dispatchable. -/
  | snapshotComplete (n : Part)
  /-- DISPATCH (R168). An idle executor starts the first dispatchable job in its queue. -/
  | dispatch (e : Exe)
  /-- STEAL (R169). An idle executor with nothing dispatchable takes an unpinned job from another queue in its steal
  group. -/
  | steal (e : Exe)
  /-- BUDGET_EXPIRY (R173). A running job's budget expires and it is ended at an instruction boundary as a miss. -/
  | budgetExpiry (e : Exe)
  /-- COMMIT_MARGIN_EXPIRY (R173). A job without CYEND at B - 3 us is a miss, whether queued, running or never
  started. -/
  | commitMarginExpiry (n : Part)
  /-- BOUNDARY (R172). At B the scheduler decides jobs, switches safe images, swaps buffers, swaps _S registers and
  force entries, then snapshots. -/
  | boundary (t : BitVec 64)
  /-- STOP (R177). The STOP command ends the job within 1 us, switches in the safe image and makes the partition
  STOPPED. -/
  | stop (w : Who) (n : Part)
  /-- RESTART (R177). The RESTART command readmits a STOPPED or SHED partition for its next qualifying fire. -/
  | restart (w : Who) (n : Part)
  /-- RESET (R177). The RESET command ends the job, switches in the safe image and starts a partition reset. -/
  | reset (w : Who) (n : Part)
  /-- PARTITION_RESET_COMPLETE (R44). The partition reset completes within 20 us, with the partition's state reset
  and MK cleared. -/
  | partitionResetComplete (n : Part)
  /-- FORCE_ENTRY_WRITE (R178). A write to a force entry shadow is checked against the class-S fuse and the image
  size. -/
  | forceEntryWrite (w : Who) (i : BitVec 8) (k : Fin 3) (v : Word)
  /-- FORCEIND_WRITE (R180). A write to SCH.FORCEIND enables the force lamp on a scheduler-owned DO channel. -/
  | forceindWrite (w : Who) (v : Word)
  /-- SCHEDULER_ENABLE (R187). SCH.CTL.EN written 1 runs admission, swaps admitted partitions' registers, sends the
  start message and releases from the next fires. -/
  | schedulerEnable (w : Who)
  /-- SCHEDULER_DISABLE (R187). SCH.CTL.EN written 0 switches partitions to safe images, makes them HELD and returns
  the foundry to continuous running. -/
  | schedulerDisable (w : Who)
  /-- SHEDDING (R185). Within 20 us of a capacity drop the checks are recomputed and partitions of lowest rank are
  shed until they pass. -/
  | shedding
  /-- TAKE_REQUEST (R131). A read of SCH.SVCREQ0 takes the earliest service request and latches its words. -/
  | takeRequest (w : Who)
  /-- REPLY_PUBLISH (R131). A write of 1 to SCH.RPLGO publishes the reply to the named slot of the named partition.
  -/
  | replyPublish (w : Who) (v : Word)
  /-- REGION_ATTR_WRITE (R193). A write to a region entry's ATTR is checked for bounds, overlap, physical range and
  ingot protection. -/
  | regionAttrWrite (w : Who) (k : Fin 16) (v : Word)
  /-- SCRUB (R196). The scrubber reads, corrects and rewrites one line as one background transfer. -/
  | scrub (line : BitVec 40) (err : EccErr)
  /-- TRANSFER_REQUEST (R198). A requester presents a transfer to a target in the band of its current work. -/
  | transferRequest (addr : BitVec 40) (req : BitVec 8) (burst : Burst)
  /-- TARGET_GRANT (R199). During the last beat of a transfer the target grants the oldest pending transfer of the
  highest band. -/
  | targetGrant (tgt : Fin 14)
  /-- HOLD_LIMIT_CUTOFF (R202). A grant exceeding its band's hold limit is cut off with CUTOFF, recorded and alarmed.
  -/
  | holdLimitCutoff (tgt : Fin 14)
  /-- BACKGROUND_AGE_EXPIRY (R199). A background transfer waiting longer than ARB.AGE counts as normal. -/
  | backgroundAgeExpiry (tgt : Fin 14) (req : BitVec 8)
  /-- SUBMIT (R205). A read of SHE.SUBMIT copies the descriptor and queues the job or returns FULL, DENIED or SIZE.
  -/
  | submit (w : Who)
  /-- JOB_START (R208). A free engine takes the head of the urgent queue, or of the normal queue, and starts its
  first segment. -/
  | jobStart (k : Fin 28)
  /-- SEGMENT_BOUNDARY (R207). A 4 KiB segment ends and the next segment's ranges are checked against the region
  table. -/
  | segmentBoundary (k : Fin 28)
  /-- JOB_COMPLETION (R207). A job ends and the device writes the result word and then the completion word with DONE.
  -/
  | jobCompletion (k : Fin 28)
  /-- DMA_COPY (R204). Job kind 0h copies memory. -/
  | dmaCopy (k : Fin 28)
  /-- DMA_FILL (R204). Job kind 1h fills memory with a 32-bit pattern. -/
  | dmaFill (k : Fin 28)
  /-- ENVELOPE_BUILD (R279). Job kind 2h builds a safety envelope from the sender context and advances its SEQ. -/
  | envelopeBuild (k : Fin 28)
  /-- ENVELOPE_CHECK (R280). Job kind 3h checks a received envelope against the receiver context in order. -/
  | envelopeCheck (k : Fin 28)
  /-- SHA_256 (R204). Job kind 4h computes a SHA-256 hash. -/
  | sha256 (k : Fin 28)
  /-- ED25519_VERIFICATION (R204). Job kind 5h verifies an Ed25519 signature. -/
  | ed25519Verification (k : Fin 28)
  /-- AES_CTR (R204). Job kind 6h runs AES-CTR. -/
  | aesCtr (k : Fin 28)
  /-- AES_CBC_ENCRYPT (R204). Job kind 7h runs AES-CBC encryption. -/
  | aesCbcEncrypt (k : Fin 28)
  /-- AES_CBC_DECRYPT (R204). Job kind 8h runs AES-CBC decryption. -/
  | aesCbcDecrypt (k : Fin 28)
  /-- CMAC_GENERATE (R204). Job kind 9h generates a CMAC. -/
  | cmacGenerate (k : Fin 28)
  /-- CMAC_VERIFY (R204). Job kind Ah verifies a CMAC. -/
  | cmacVerify (k : Fin 28)
  /-- KEY_WRITE (R210). A write to a key slot's key words loads the key and sets FULL on the last word of its type.
  -/
  | keyWrite (w : Who) (slot : Fin 32) (i : Fin 8) (v : Word)
  /-- KEY_ERASE (R210). ERASE in KSk_CTL empties the key slot. -/
  | keyErase (w : Who) (slot : Fin 32)
  /-- FRAME_RECEIVE (R218). A frame arriving at a switch port is checked, classified, filtered and queued for
  forwarding or delivered to a channel. -/
  | frameReceive (p : Fin 14) (f : Frame)
  /-- FRAME_TRANSMIT (R218). An egress queue is served and a frame leaves its port, completing the channel entry if
  any. -/
  | frameTransmit (p : Fin 14)
  /-- FOLLOW_UP_EXPIRY (R226). A Follow_Up table entry expires 1 s after its event message left. -/
  | followUpExpiry (p : Fin 14)
  /-- FORWARDING_AGE_EXPIRY (R237). A learned forwarding entry ages out after ETH.AGE seconds. -/
  | forwardingAgeExpiry (vid : BitVec 12) (mac : BitVec 48)
  /-- RXTAIL_WRITE (R221). A partition returns receive entries to the switch by writing RXTAIL. -/
  | rxtailWrite (w : Who) (v : Word)
  /-- TXTAIL_WRITE (R222). A partition marks transmit entries ready, taken at once or at its commit under TXCOMMIT.
  -/
  | txtailWrite (w : Who) (v : Word)
  /-- CHANNEL_ENABLE (R222). An enabling write to CHn_CTL_S is checked for ring sizes and class S snapshot and commit
  bits. -/
  | channelEnable (w : Who) (n : Part) (v : Word)
  /-- PAIR_CFG_WRITE (R241). A write setting a pair VALID is checked for port speed, order, membership and a
  multicast check address. -/
  | pairCfgWrite (w : Who) (k : Fin 7) (v : Word)
  /-- CHECK_FRAME (R231). Every CHKINT each port of a valid pair sends a check frame. -/
  | checkFrame (k : Fin 7)
  /-- CHECK_LOSS (R233). A port receives no foreign check frame within CHKINT x CHKMULT and enters NOCHK. -/
  | checkLoss (p : Fin 14)
  /-- LINK_LOSS (R233). An Ethernet port's link drops and the port enters DOWN. -/
  | linkLoss (loss : PortLoss)
  /-- LEARNING_FRAMES (R233). After a role change the new active port sends one learning frame per enabled channel of
  the pair within 1 ms. -/
  | learningFrames (k : Fin 7)
  /-- LINK_UP (R235). A pair port leaves DOWN or NOCHK and enters HOLD, or turns ACTIVE in a down pair. -/
  | linkUp (p : Fin 14)
  /-- SCHEDULED_SWAP (R234). At SWAPINT the pair exchanges ACTIVE and STANDBY and opens a verification window. -/
  | scheduledSwap (k : Fin 7)
  /-- PAIR_SWAP (R234). CMD.SWAP exchanges ACTIVE and STANDBY, or returns DENIED if the standby is not STANDBY. -/
  | pairSwap (w : Who) (k : Fin 7)
  /-- VERIFY_EXPIRY (R234). The verification window ends; on failure the roles change back and the new port becomes
  HIDDEN. -/
  | verifyExpiry (k : Fin 7)
  /-- HOLDOFF_EXPIRY (R235). A port in HOLD becomes STANDBY after HOLDOFF. -/
  | holdoffExpiry (p : Fin 14)
  /-- CLRFAIL (R235). CMD.CLRFAIL moves a HIDDEN port to HOLD. -/
  | clrfail (w : Who) (k : Fin 7)
  /-- PAYLOAD_READ (R256). 4 us before a transmit window the controller reads the payload from the committed, staging
  or safe block. -/
  | payloadRead (k : BitVec 12)
  /-- TRANSMIT_WINDOW (R256). At a transmit window start the controller sends the frame, or leaves the window silent
  and counts TXMISS. -/
  | transmitWindow (k : BitVec 12)
  /-- STOLNET_FRAME_RECEIVE (R250). A Stolnet frame arriving on a star or ring port is checked against its window and
  slot entry. -/
  | stolnetFrameReceive (p : StnPort) (f : StnFrame) (atUnit : BitVec 24)
  /-- RECEIVE_WINDOW_END (R255). A receive window ends and its status is decided. -/
  | receiveWindowEnd (k : BitVec 12)
  /-- STAR_PORT_EXCLUSION (R260). At the end of the cycle of its third violation in 16 cycles a star port is excluded
  with an alarm and record. -/
  | starPortExclusion (s : Fin 16)
  /-- LOSS_OF_SIGNAL (R263). A ring port's link drops or receives no valid symbols for 4 us. -/
  | lossOfSignal (r : Fin 2)
  /-- LOOP_END (R264). The loop ends at the first cycle start after the link has stayed up for 16 cycles. -/
  | loopEnd (r : Fin 2)
  /-- ARM (R253). STN.TARM ARM starts the shadow-table check for a swap at cycle C. -/
  | arm (w : Who)
  /-- TABLE_CHECK (R253). The shadow-table check completes within 100 us and sets ARMED or reports DENIED with the
  first offending entry. -/
  | tableCheck
  /-- DISARM (R253). STN.TARM DISARM withdraws the arming. -/
  | disarm (w : Who)
  /-- STAR_READMIT (R260). READMIT ends a star port's exclusion and clears its violation history. -/
  | starReadmit (w : Who) (s : Fin 16)
  /-- RING_READMIT (R262). READMIT ends a ring port's isolation. -/
  | ringReadmit (w : Who) (r : Fin 2)
  /-- STOLNET_ENABLE (R267). STN.CTL_S.EN written 1 is checked and the station enters JOINING. -/
  | stolnetEnable (w : Who) (v : Word)
  /-- STOLNET_DISABLE (R273). EN written 0 stops all transmission at the next cycle boundary with the links kept up.
  -/
  | stolnetDisable (w : Who) (v : Word)
  /-- JOIN (R267). A JOINING station sends JOIN in the join window of an even cycle. -/
  | join
  /-- GRANT (R267). The acting master sends GRANT in the next cycle for the first valid JOIN, or announces the ring
  version. -/
  | grant
  /-- JOIN_ACTIVATION (R267). At cycle A a granted joiner becomes LIVE and any version change takes effect. -/
  | joinActivation
  /-- JOIN_RETRY (R267). After its backoff of 0-15 even cycles a joiner without a grant sends JOIN again. -/
  | joinRetry
  /-- BACKUP_MASTER_TAKEOVER (R266). The backup master acts as master after 16 cycles without a valid frame from the
  master. -/
  | backupMasterTakeover
  /-- SPARE_GRANT_RELEASE (R270). The acting master releases a spare grant after 64 cycles without a valid frame from
  the grantee. -/
  | spareGrantRelease (k : BitVec 12)
  /-- MASTER_SILENCE (R270). A LIVE station without a valid frame from any acting master for 64 cycles stops its
  spare entries and rejoins. -/
  | masterSilence
  /-- CAN_ENABLE (R288). A write setting CAN CTL.EN is checked for pin ownership, RAM layout, class S bits and
  rate-detection candidates. -/
  | canEnable (w : Who) (n : Fin 20) (v : Word)
  /-- CAN_FRAME_RECEIVE (R293). A CAN frame received on the bus is filtered and stored in the receive FIFO within 1
  us. -/
  | canFrameReceive (n : Fin 20) (f : CanFrame)
  /-- CAN_TRANSMIT (R294). The controller transmits the head element of the transmit queue. -/
  | canTransmit (n : Fin 20) (r : CanResult)
  /-- RXGET_WRITE (R294). The owner writes RXGET to free received elements. -/
  | rxgetWrite (w : Who) (n : Fin 20) (v : Word)
  /-- TXPUT_WRITE (R294). The owner writes TXPUT to queue an element, or gets FULL. -/
  | txputWrite (w : Who) (n : Fin 20) (v : Word)
  /-- BUS_OFF_RECOVERY_COMPLETE (R297). After 128 occurrences of 11 recessive bits the controller returns to error
  active with TEC and REC at 0. -/
  | busOffRecoveryComplete (n : Fin 20)
  /-- RECOVER (R297). The RECOVER command starts bus-off recovery. -/
  | recover (w : Who) (n : Fin 20)
  /-- STUCK_DOMINANT (R298). RX dominant for SDTIME puts the controller in STUCK, aborting queued elements with an
  alarm. -/
  | stuckDominant (n : Fin 20)
  /-- STUCK_RELEASE (R298). After 11 recessive bits the controller returns to its previous error state. -/
  | stuckRelease (n : Fin 20)
  /-- ARD_DWELL_EXPIRY (R300). No valid frame within ARDDWELL rejects the candidate and moves to the next. -/
  | ardDwellExpiry (n : Fin 20)
  /-- TIMING_APPLY (R289). A swapped bit timing is applied at the first bus-idle condition. -/
  | timingApply (n : Fin 20)
  /-- LINK_FRAME (R305). A logic-field link frame arrives and is checked for CRC and sequence. -/
  | linkFrame (toLogic : Bool) (seq : BitVec 16) (crcOk : Bool)
  /-- LINK_LOST (R307). No valid link frame for 64 us on the logic side: mapped DI values become 0, diagnostics 1,
  LINKERR is set. -/
  | linkLost
  /-- FIELD_LINK_LOSS (R322). No valid link frame for 64 us on the field side enters the field safe state with cause
  2h. -/
  | fieldLinkLoss
  /-- COMMIT_MESSAGE (R306). A commit message with DO bits and ALP codes reaches the field die, restarts the watchdog
  and commands the outputs. -/
  | commitMessage (n : Part)
  /-- START_MESSAGE (R324). The start message reaches the field die, clears cause 3h and starts the field watchdog.
  -/
  | startMessage
  /-- FILTER_ACCEPT (R311). A raw DI level held for FILT us becomes the filtered value and is written to staging
  without TTEN. -/
  | filterAccept (c : Fin 96)
  /-- TSPOP (R313). A read of TSPOP0 pops a stamp FIFO entry and latches its other words. -/
  | tspop (w : Who)
  /-- TEST_PULSE (R314). A test-pulse source turns off for TPW at its offset in each test period and back on. -/
  | testPulse (k : Fin 8) (start : Bool)
  /-- TEST_PULSE_CHECK (R315). 50 us before a pulse ends, inputs are checked for NOPULSE and FOREIGN and latch
  faults. -/
  | testPulseCheck (k : Fin 8)
  /-- DIACK (R315). DIO.DIACK clears a latched test fault if the last own-pulse check passed. -/
  | diack (w : Who) (v : Word)
  /-- PULSE_END (R318). A PULSEW on-pulse ends. -/
  | pulseEnd (c : Fin 64)
  /-- MINIMUM_INTERVAL_EXPIRY (R318). A 20 us minimum interval ends and a waiting edge is applied. -/
  | minimumIntervalExpiry (c : Fin 64)
  /-- CURRENT_LIMIT (R319). DO current above the limit is held at the limit. -/
  | currentLimit (c : Fin 64)
  /-- OVERLOAD (R319). Current held at the limit for (OVT + 1) ms turns the set off with OVLD. -/
  | overload (c : Fin 64)
  /-- THERMAL (R319). Channel temperature at 145 C turns the set off with THERM. -/
  | thermal (c : Fin 64)
  /-- GROUP_OVERCURRENT (R319). Group current above 3 A for 1 ms turns the group off with GRP. -/
  | groupOvercurrent (g : Fin 8)
  /-- READBACK_FAULT (R319). A DO commanded on below VFLDn - 3 V for 50 us turns off with RBK. -/
  | readbackFault (c : Fin 64)
  /-- OPEN_LOAD (R319). A DO commanded on with OLEN under 3 mA for 100 ms sets OPEN. -/
  | openLoad (c : Fin 64)
  /-- EXTERNAL_VOLTAGE (R319). A DO commanded off above 8 V for 100 us sets EXTV. -/
  | externalVoltage (c : Fin 64)
  /-- VFLD_LOW (R319). VFLDn below 16 V turns its group off with SUPLY. -/
  | vfldLow (g : Fin 8)
  /-- VFDI_LOW (R319). VFDI below 18 V turns every DO off and stops ALP output current. -/
  | vfdiLow
  /-- SUPPLY_RESTORE (R319). A field supply back in range for 10 ms reapplies the committed values. -/
  | supplyRestore (g : Fin 9)
  /-- FAULT_RECOVERY (R319). After RTIME a DO turned off by a fault turns on again if still commanded on. -/
  | faultRecovery (c : Fin 64)
  /-- WATCHDOG_EXPIRY (R321). The field watchdog expires without a commit message. -/
  | watchdogExpiry
  /-- FIELD_CLOCK_ERROR (R322). The field RC clock off the reference by 15 % for 1 ms enters the field safe state
  with cause 4h. -/
  | fieldClockError
  /-- REARM (R323). DIO.WDG.REARM with no cause present lets channels leave the field safe state at their next
  commit. -/
  | rearm (w : Who)
  /-- MODE_SETTLE_EXPIRY (R330). 1 ms after a loop channel MODE swap the channel resumes sourcing and normal
  diagnostics. -/
  | modeSettleExpiry (c : Fin 32)
  /-- LIMITING (R334). Input loop current above 28 mA is limited to 30 mA. -/
  | limiting (c : Fin 32)
  /-- LIMITER_OPEN (R334). Current limited for 1 ms opens the limiter with OPEN, MISWIRE and an alarm. -/
  | limiterOpen (c : Fin 32)
  /-- LIMITER_RETRY (R334). 1 s after opening the limiter closes for a retry. -/
  | limiterRetry (c : Fin 32)
  /-- MISWIRE_CLEAR (R334). 1 s after a retry without limiting MISWIRE clears. -/
  | miswireClear (c : Fin 32)
  /-- COMPL_RAISE (R336). Output headroom below 2.5 V for 5 ms raises COMPL with an alarm. -/
  | complRaise (c : Fin 32)
  /-- COMPL_CLEAR (R336). Headroom at 3 V or more for 100 ms clears COMPL. -/
  | complClear (c : Fin 32)
  /-- OUTERR_RAISE (R337). Readback off by more than 480 codes for 20 ms sets OUTERR with an alarm and record. -/
  | outerrRaise (c : Fin 32)
  /-- OUTERR_CLEAR (R337). Readback within limit for 20 ms clears OUTERR. -/
  | outerrClear (c : Fin 32)
  /-- VLOOP_LOW (R338). VLOOP below 16 V stops output current and sets VLOOPLO. -/
  | vloopLow (mv : BitVec 16)
  /-- VLOOP_RESTORE (R338). VLOOP at 17 V for 10 ms reapplies committed output codes. -/
  | vloopRestore (mv : BitVec 16)
  /-- SERVICE_MODE (R341). A TRIMCFG_S write with SVC puts an input channel in service mode with two DI buttons. -/
  | serviceMode (w : Who) (v : Word)
  /-- BUTTON_PRESS (R341). A trim button held on for 3 s starts a 500 ms average. -/
  | buttonPress (span : Bool)
  /-- TRIM_COMPLETE (R341). The average completes and ZERO or GAIN is set or DENIED reported, with a record. -/
  | trimComplete (mean : BitVec 16)
  /-- HART_GO (R343). GO in Hc_CTL reads the transmit bytes and starts a HART transaction. -/
  | hartGo (w : Who) (c : Fin 32) (v : Word)
  /-- HART_LISTEN (R343). GO with LISTEN starts a transaction that sends nothing and waits for a carrier. -/
  | hartListen (w : Who) (c : Fin 32) (v : Word)
  /-- HART_TRANSMIT (R343). With no carrier present, the modem sends its characters and stops its carrier. -/
  | hartTransmit (c : Fin 32)
  /-- HART_RXTO_EXPIRY (R343). RXTO passes with a persistent or absent carrier, ending the transaction with BUSY or
  TIMEOUT. -/
  | hartRxtoExpiry (c : Fin 32)
  /-- HART_REPLY_END (R343). Reception ends at carrier loss or a gap, and RXLEN and the status are written. -/
  | hartReplyEnd (c : Fin 32) (chars : List HartChar)
  /-- LINK_ENABLE (R350). A storage link's EN written 1 starts TRAIN. -/
  | linkEnable (w : Who) (l : Fin 4) (v : Word)
  /-- PCIE_LINK_UP (R350). The PCIe link trains and the link enters INIT. -/
  | pcieLinkUp (l : Fin 4) (gen : BitVec 4) (width : BitVec 4)
  /-- TRAIN_TIMEOUT (R350). A link not up within 100 ms enters FAILED with TIMEOUT. -/
  | trainTimeout (l : Fin 4)
  /-- SSD_READY (R350). The SSD reports ready, is identified and configured, and the link becomes ONLINE. -/
  | ssdReady (l : Fin 4) (i : SsdInfo)
  /-- READY_TIMEOUT (R350). An SSD not ready within its timeout puts the link in FAILED with TIMEOUT. -/
  | readyTimeout (l : Fin 4)
  /-- COMMAND_TIMEOUT (R351). An NVMe command not complete in 2 s resets the controller once, and a second timeout
  fails the link. -/
  | commandTimeout (l : Fin 4)
  /-- NVME_COMPLETION (R362). An NVMe write or read command completes. -/
  | nvmeCompletion (l : Fin 4) (us : Word)
  /-- PCIE_LINK_DOWN (R351). A link-down event or controller fatal status puts the link in FAILED with an alarm and
  record. -/
  | pcieLinkDown (l : Fin 4) (fatal : Bool)
  /-- FORMAT (R354). The FORMAT command writes a new header to every ONLINE link and mounts. -/
  | format (w : Who) (v : Word)
  /-- MOUNT (R354). The MOUNT command checks the headers, scans for the log end and loads the stream table. -/
  | mount (w : Who) (v : Word)
  /-- UNMOUNT (R354). The UNMOUNT command writes buffered data and headers and detaches. -/
  | unmount (w : Who) (v : Word)
  /-- VOLUME_COMMAND_COMPLETE (R354). A volume command ends with its status in VSTAT. -/
  | volumeCommandComplete
  /-- POST (R355). A read of STO.POST copies the descriptor and payload and stores, repeats or refuses a record. -/
  | post (w : Who)
  /-- READ_JOB (R360). A read of STO.RD submits a range or record read job. -/
  | readJob (w : Who)
  /-- READ_COMPLETION (R360). A recorder read job ends and writes its completion word. -/
  | readCompletion
  /-- FLUSHINT_EXPIRY (R362). At each FLUSHINT a changed partial end block is rewritten. -/
  | flushintExpiry
  /-- HDRINT_EXPIRY (R362). At each HDRINT changed headers are rewritten on every member. -/
  | hdrintExpiry
  /-- POSTED_WRITE (R374). A rack write finding room in the queue is accepted and returns OK, or returns RETRY. -/
  | postedWrite (r : BitVec 8) (n : Part) (addr : BitVec 24) (sz : Size) (v : Word)
  /-- DELAYED_READ (R376). The first issue of a rack read allocates an entry and returns RETRY while the bridge
  fetches. -/
  | delayedRead (r : BitVec 8) (n : Part) (addr : BitVec 24) (sz : Size)
  /-- BUS_CYCLE (R372). The bridge starts a backplane cycle for the next queued write or fetch. -/
  | busCycle
  /-- ACK (R372). A board pulls ACK_L low and the cycle ends with its data. -/
  | ack (data : BitVec 16)
  /-- ERR (R372). A board pulls ERR_L low and the cycle ends with FAULT. -/
  | err
  /-- CYCLE_TIMEOUT (R372). No ACK_L or ERR_L within TMO ends the cycle with TIMEOUT. -/
  | cycleTimeout
  /-- UNCLAIMED_ENTRY_EXPIRY (R376). A fetched read entry unclaimed for 10 us is freed and RDISC set. -/
  | unclaimedEntryExpiry (i : Fin 8)
  /-- SEMAPHORE_TAKE (R377). A read of BRB.SEMk takes the bridge semaphore for slot k or returns BUSY. -/
  | semaphoreTake (r : BitVec 8) (n : Part) (k : Fin 8)
  /-- SEMAPHORE_RELEASE (R377). A write to BRB.SEMk by the holder releases the semaphore. -/
  | semaphoreRelease (r : BitVec 8) (n : Part) (k : Fin 8)
  /-- IRQ_CHANGE (R379). A filtered rack interrupt level change is written to the owner's staging and the first
  assertion stamped. -/
  | irqChange (k : Fin 8) (asserted : Bool)
  /-- IRQ_STAMP_READ (R379). A read of IRQk_TS_LO latches TS_HI and clears VALID. -/
  | irqStampRead (w : Who) (k : Fin 8)
  /-- BRIDGE_ENABLE (R373). BRB.CTL.EN written 1 enables the bridge and releases BRST_L. -/
  | bridgeEnable (w : Who) (v : Word)
  /-- BUS_RESET (R382). BRB.CTL.RST holds BRST_L low for 10 us. -/
  | busReset (w : Who) (v : Word)
  /-- BUS_RESET_END (R373). The 10 us BRST_L pulse ends. -/
  | busResetEnd
  /-- FUSE_PROGRAM (R386). SEC.FPROG with KEY 96h starts programming the bits of FPDATA into a fuse word. -/
  | fuseProgram (w : Who) (v : Word)
  /-- FUSE_PROGRAM_DONE (R386). Programming ends, cells are read back, verified bits enter the shadow and a record is
  written. -/
  | fuseProgramDone (took : Word)
  /-- KEY_LOAD (R387). SEC.KLOAD unwraps a key blob under KWK into a key slot. -/
  | keyLoad (w : Who) (v : Word)
  /-- MANIFEST (R398). Checks a manifest and sets the slot to STAGING. -/
  | manifest (w : Who) (key : BitVec 8)
  /-- BILLET (R398). Hashes and writes one billet and sets its bitmap bit. -/
  | billet (w : Who) (key : BitVec 8)
  /-- SEAL (R398). Sets a complete slot to VALID. -/
  | sealImage (w : Who) (key : BitVec 8)
  /-- ERASE (R398). Sets an image slot to EMPTY. -/
  | erase (w : Who) (key : BitVec 8)
  /-- MIRROR (R389). Copies each filled slot to ONLINE links that lack it. -/
  | mirror (w : Who) (key : BitVec 8)
  /-- ACTIVATE (R400). Stores a pending activation of a VALID slot at a TAI instant. -/
  | activate (w : Who) (key : BitVec 8)
  /-- CANCEL (R398). Withdraws the pending activation. -/
  | cancel (w : Who) (key : BitVec 8)
  /-- CONFIRM (R401). Makes the TRIAL slot ACTIVE and raises the security counter if ADVSVN. -/
  | confirm (w : Who) (key : BitVec 8)
  /-- SLOAD (R397). Copies a component's settings area to UADDR. -/
  | sload (w : Who) (key : BitVec 8)
  /-- SSTORE (R397). Writes a component's settings area from UADDR. -/
  | sstore (w : Who) (key : BitVec 8)
  /-- ACTIVATION_INSTANT (R400). At the activation time the slots change and a warm reset follows, or the activation
  is abandoned. -/
  | activationInstant
  /-- CONFIRMATION_TIMEOUT (R401). CONFTO expires without CONFIRM; the device reverts, sets REVERT and performs a
  cold reset. -/
  | confirmationTimeout
  /-- TEMPERATURE_SAMPLE (R409). Each die temperature is sampled every 1 ms, raising the warning or the thermal fatal
  halt. -/
  | temperatureSample (logic : BitVec 16) (field : BitVec 16)
  /-- FABRIC_CHECK_DISAGREEMENT (R409). The checking copies of the memory controllers or interconnect disagree and
  the device enters the fatal halt. -/
  | fabricCheckDisagreement
  /-- TEST_EN_HIGH (R15). TEST_EN high drives FAULT_L low, holds every partition and sets FATAL.TESTEN. -/
  | testEnHigh
  /-- KICK (R411). KICK restarts the foundry watchdog's KTO count. -/
  | kick (w : Who) (v : Word)
  /-- FOUNDRY_WATCHDOG_EXPIRY (R411). KTO passes without KICK, or the foundry miss count reaches LIM, giving an
  alarm, record and warm reset. -/
  | foundryWatchdogExpiry
  /-- DEBUG_ACCESS (R418). A debug-port access is allowed or refused under the debug level, with REFUSED and a record
  on refusal. -/
  | debugAccess (tgt : DbgTarget) (sz : Size) (wr : Option Word)
  /-- MDIO_GO (R420). GO in MNT_MDIO starts a PHY management read or write. -/
  | mdioGo (w : Who) (v : Word)
  /-- MAINTENANCE_TRANSMIT (R420). A write to MNT_TXTAIL hands transmit entries to the maintenance MAC at once. -/
  | maintenanceTransmit (w : Who) (v : Word)
  /-- MAINTENANCE_RECEIVE (R420). A frame received on the maintenance port fills a receive entry. -/
  | maintenanceReceive (f : List Byte)
  /-- UART_TRANSMIT (R420). A write to SUP.UDATA queues a byte, or returns FULL. -/
  | uartTransmit (w : Who) (v : Word)
  /-- UART_READ (R420). A read of SUP.UDATA takes a received byte and clears RXLOST. -/
  | uartRead (w : Who)
  /-- UART_RECEIVE (R420). A byte arrives on URX and enters the receive FIFO or is discarded with RXLOST. -/
  | uartReceive (b : Byte)
  /-- PIN_OWNERSHIP_WRITE (R421). A write to SUP.PINOWNi assigns or releases a resource, subject to kind, S-map and
  in-use checks. -/
  | pinOwnershipWrite (w : Who) (i : BitVec 8) (v : Word)
  /-- STAR_LINK_LOSS (R271). A Stolnet star port's link drops or its PHY signals a fault; LINK clears, its STARRX
  windows report TIMEOUT and its STARTX frames are not sent. -/
  | starLinkLoss (s : Fin 16)
  /-- STOLNET_LINK_UP (R264). A Stolnet ring or star port's link comes up again; a looped ring port resumes receiving
  and forwarding and sets RESTORE, and a star port resumes its windows. -/
  | stolnetLinkUp (p : StnPort)
  /-- RAW_INPUT_CHANGE (R311). The raw level of a DI input changes, restarting the FILT hold interval and marking the
  edge that a later stamp refers to. -/
  | rawInputChange (c : Fin 96) (level : Bool)
  /-- CURRENT_LIMIT_END (R319). DO current falls back below the limit, so limiting ends and the overload count stops.
  -/
  | currentLimitEnd (c : Fin 64)
  /-- OPEN_LOAD_CLEAR (R319). The current of a DO with OPEN set reaches 3 mA or more and OPEN clears. -/
  | openLoadClear (c : Fin 64)
  /-- EXTV_CLEAR (R319). A DO ball with EXTV set stays below 6 V for 100 us and EXTV clears. -/
  | extvClear (c : Fin 64)
  /-- LIMITING_END (R334). Input loop current falls to 28 mA or below and the limiter stops limiting before it opens.
  -/
  | limitingEnd (c : Fin 32)
  /-- CARRIER_DETECT (R343). A HART carrier appears on a channel, setting carrier detected and, during a
  transaction's wait, starting reception and stamping the first start bit. -/
  | carrierDetect (c : Fin 32)
  /-- MDIO_COMPLETE (R420). A PHY management operation ends, GO reads 0 and read data appears in MNT_MDIO. -/
  | mdioComplete (data : BitVec 16)
  /-- UART_BYTE_SENT (R420). The console UART finishes sending a byte, freeing a transmit FIFO place so that TXFULL
  can clear. -/
  | uartByteSent
  deriving DecidableEq, Repr

end Sys2Proof
end

