-- ==== Sys2Proof/Decode.lean ====
section
/-!
DEFINITION. Words and commands. The table of operations and events gives its rows no bits, so no word spells a command
of the table (decodeTableWord). The instructions that engines fetch are words of 06 R137 to R158: gleigWord writes an
instruction's word and gleigDecode reads one, refusing every illegal encoding.
-/

namespace Sys2Proof

/-- The command that a word spells by the table's bits: the table gives none. -/
def decodeTableWord (_nbits _w : Nat) : Option Instr := none

/-- Format R of 06 R137. -/
def wordR (major : BitVec 6) (d a b c : BitVec 5) (func : BitVec 6) : Word := major ++ d ++ a ++ b ++ c ++ func

/-- Format I of 06 R137. -/
def wordI (major : BitVec 6) (d a : BitVec 5) (imm : BitVec 16) : Word := major ++ d ++ a ++ imm

/-- Formats BD and BI of 06 R137. -/
def wordBit (op : BitVec 5) : BitOpd → Word
  | .direct space byte bit => 0x10#6 ++ op ++ space ++ byte ++ bit
  | .indirect space a base => 0x11#6 ++ op ++ space ++ a ++ base ++ 0#9

/-- The field that names a float register: bit 4 is 0 (06 R138). -/
def fieldF (f : FReg) : BitVec 5 := 0#1 ++ f

/-- The field names a float register (06 R138). -/
def isF (x : BitVec 5) : Bool := x.extractLsb' 4 1 = 0

/-- The float register that a field names. -/
def regF (x : BitVec 5) : FReg := x.extractLsb' 0 4

/-- The word of an instruction (06 R137, R142 to R153); none for a command that is no instruction. -/
def gleigWord : Instr → Option Word
  | .add _ d a b => some (wordR 1 d a b 0 0)
  | .sub _ d a b => some (wordR 1 d a b 0 1)
  | .adds _ d a b => some (wordR 1 d a b 0 2)
  | .subs _ d a b => some (wordR 1 d a b 0 3)
  | .neg _ d a => some (wordR 1 d a 0 0 4)
  | .mul _ d a b => some (wordR 1 d a b 0 5)
  | .muls _ d a b => some (wordR 1 d a b 0 6)
  | .div _ d a b c => some (wordR 1 d a b c 7)
  | .divu _ d a b c => some (wordR 1 d a b c 8)
  | .and _ d a b => some (wordR 1 d a b 0 9)
  | .or _ d a b => some (wordR 1 d a b 0 10)
  | .xor _ d a b => some (wordR 1 d a b 0 11)
  | .not _ d a => some (wordR 1 d a 0 0 12)
  | .shl _ d a b => some (wordR 1 d a b 0 13)
  | .shr _ d a b => some (wordR 1 d a b 0 14)
  | .sar _ d a b => some (wordR 1 d a b 0 15)
  | .rol _ d a b => some (wordR 1 d a b 0 16)
  | .ror _ d a b => some (wordR 1 d a b 0 17)
  | .mov _ d a => some (wordR 1 d a 0 0 18)
  | .addf _ d a b => some (wordR 2 (fieldF d) (fieldF a) (fieldF b) 0 0)
  | .subf _ d a b => some (wordR 2 (fieldF d) (fieldF a) (fieldF b) 0 1)
  | .mulf _ d a b => some (wordR 2 (fieldF d) (fieldF a) (fieldF b) 0 2)
  | .divf _ d a b => some (wordR 2 (fieldF d) (fieldF a) (fieldF b) 0 3)
  | .sqrtf _ d a => some (wordR 2 (fieldF d) (fieldF a) 0 0 4)
  | .absf _ d a => some (wordR 2 (fieldF d) (fieldF a) 0 0 5)
  | .negf _ d a => some (wordR 2 (fieldF d) (fieldF a) 0 0 6)
  | .movf _ d a => some (wordR 2 (fieldF d) (fieldF a) 0 0 7)
  | .cvtfw _ d a => some (wordR 2 d (fieldF a) 0 0 8)
  | .cvtwf _ d a => some (wordR 2 (fieldF d) a 0 0 9)
  | .movfw _ d a => some (wordR 2 d (fieldF a) 0 0 10)
  | .movwf _ d a => some (wordR 2 (fieldF d) a 0 0 11)
  | .cmpEq _ a b => some (wordR 3 0 a b 0 0)
  | .cmpNe _ a b => some (wordR 3 0 a b 0 1)
  | .cmpLt _ a b => some (wordR 3 0 a b 0 2)
  | .cmpLe _ a b => some (wordR 3 0 a b 0 3)
  | .cmpGt _ a b => some (wordR 3 0 a b 0 4)
  | .cmpGe _ a b => some (wordR 3 0 a b 0 5)
  | .cmpLtu _ a b => some (wordR 3 0 a b 0 6)
  | .cmpLeu _ a b => some (wordR 3 0 a b 0 7)
  | .cmpGtu _ a b => some (wordR 3 0 a b 0 8)
  | .cmpGeu _ a b => some (wordR 3 0 a b 0 9)
  | .fcmpEq _ a b => some (wordR 3 0 (fieldF a) (fieldF b) 0 16)
  | .fcmpNe _ a b => some (wordR 3 0 (fieldF a) (fieldF b) 0 17)
  | .fcmpLt _ a b => some (wordR 3 0 (fieldF a) (fieldF b) 0 18)
  | .fcmpLe _ a b => some (wordR 3 0 (fieldF a) (fieldF b) 0 19)
  | .fcmpGt _ a b => some (wordR 3 0 (fieldF a) (fieldF b) 0 20)
  | .fcmpGe _ a b => some (wordR 3 0 (fieldF a) (fieldF b) 0 21)
  | .nop _ => some (wordR 4 0 0 0 0 0)
  | .fence _ => some (wordR 4 0 0 0 0 1)
  | .cyend _ => some (wordR 4 0 0 0 0 2)
  | .eret _ => some (wordR 4 0 0 0 0 3)
  | .mfsw _ d => some (wordR 4 d 0 0 0 4)
  | .mtsw _ a => some (wordR 4 0 a 0 0 5)
  | .jr _ a => some (wordR 4 0 a 0 0 6)
  | .callr _ a => some (wordR 4 0 a 0 0 7)
  | .svc _ n => some (5#6 ++ 0#14 ++ n)
  | .laNot _ => some (wordR 6 0 0 0 0 0)
  | .gopenLd _ => some (wordR 6 0 0 0 0 1)
  | .gopenAnd _ => some (wordR 6 0 0 0 1 1)
  | .gopenOr _ => some (wordR 6 0 0 0 2 1)
  | .gopenXor _ => some (wordR 6 0 0 0 3 1)
  | .gopenAndn _ => some (wordR 6 0 0 0 5 1)
  | .gopenOrn _ => some (wordR 6 0 0 0 6 1)
  | .gopenXorn _ => some (wordR 6 0 0 0 7 1)
  | .gclose _ => some (wordR 6 0 0 0 0 2)
  | .rdla _ d => some (wordR 6 d 0 0 0 3)
  | .wrla _ a => some (wordR 6 0 a 0 0 4)
  | .tonUs _ a b => some (wordR 7 0 a b 0 0)
  | .tonMs _ a b => some (wordR 7 0 a b 0 1)
  | .tofUs _ a b => some (wordR 7 0 a b 0 2)
  | .tofMs _ a b => some (wordR 7 0 a b 0 3)
  | .tpUs _ a b => some (wordR 7 0 a b 0 4)
  | .tpMs _ a b => some (wordR 7 0 a b 0 5)
  | .ctu _ a b => some (wordR 7 0 a b 0 8)
  | .ctd _ a b => some (wordR 7 0 a b 0 9)
  | .crst _ a => some (wordR 7 0 a 0 0 10)
  | .cld _ a b => some (wordR 7 0 a b 0 11)
  | .swap _ d a b => some (wordR 8 d a b 0 0)
  | .cas _ d a b c => some (wordR 8 d a b c 1)
  | .fadd _ d a b => some (wordR 8 d a b 0 2)
  | .bld _ o => some (wordBit 0 o)
  | .bldn _ o => some (wordBit 1 o)
  | .band _ o => some (wordBit 2 o)
  | .bandn _ o => some (wordBit 3 o)
  | .bor _ o => some (wordBit 4 o)
  | .born _ o => some (wordBit 5 o)
  | .bxor _ o => some (wordBit 6 o)
  | .bxorn _ o => some (wordBit 7 o)
  | .bset _ o => some (wordBit 8 o)
  | .bclr _ o => some (wordBit 9 o)
  | .basg _ o => some (wordBit 10 o)
  | .brise _ o => some (wordBit 11 o)
  | .bfall _ o => some (wordBit 12 o)
  | .addi _ d a imm => some (wordI 24 d a imm)
  | .andi _ d a imm => some (wordI 25 d a imm)
  | .ori _ d a imm => some (wordI 26 d a imm)
  | .xori _ d a imm => some (wordI 27 d a imm)
  | .movi _ d imm => some (wordI 28 d 0 imm)
  | .movhi _ d imm => some (wordI 29 d 0 imm)
  | .shi _ d a kind cnt => some (wordI 30 d a (0#5 ++ kind ++ cnt))
  | .ldw _ d a imm => some (wordI 32 d a imm)
  | .ldh _ d a imm => some (wordI 33 d a imm)
  | .ldhu _ d a imm => some (wordI 34 d a imm)
  | .ldb _ d a imm => some (wordI 35 d a imm)
  | .ldbu _ d a imm => some (wordI 36 d a imm)
  | .ldf _ d a imm => some (wordI 37 (fieldF d) a imm)
  | .stw _ d a imm => some (wordI 40 d a imm)
  | .sth _ d a imm => some (wordI 41 d a imm)
  | .stb _ d a imm => some (wordI 42 d a imm)
  | .stf _ d a imm => some (wordI 43 (fieldF d) a imm)
  | .j _ off => some (48#6 ++ off)
  | .call _ off => some (49#6 ++ off)
  | .jc _ off => some (50#6 ++ off)
  | .jcn _ off => some (51#6 ++ off)
  | _ => none

/-- An instruction whose zero fields are zero; else the word is illegal (06 R138). -/
def need (b : Bool) (i : Instr) : Option Instr := if b then some i else none

/-- The ALU group (06 R142). -/
def decodeAlu (e : Exe) (func : Nat) (d a b c : BitVec 5) : Option Instr :=
  match func with
  | 0 => need (c = 0) (.add e d a b)
  | 1 => need (c = 0) (.sub e d a b)
  | 2 => need (c = 0) (.adds e d a b)
  | 3 => need (c = 0) (.subs e d a b)
  | 4 => need (b = 0 && c = 0) (.neg e d a)
  | 5 => need (c = 0) (.mul e d a b)
  | 6 => need (c = 0) (.muls e d a b)
  | 7 => some (.div e d a b c)
  | 8 => some (.divu e d a b c)
  | 9 => need (c = 0) (.and e d a b)
  | 10 => need (c = 0) (.or e d a b)
  | 11 => need (c = 0) (.xor e d a b)
  | 12 => need (b = 0 && c = 0) (.not e d a)
  | 13 => need (c = 0) (.shl e d a b)
  | 14 => need (c = 0) (.shr e d a b)
  | 15 => need (c = 0) (.sar e d a b)
  | 16 => need (c = 0) (.rol e d a b)
  | 17 => need (c = 0) (.ror e d a b)
  | 18 => need (b = 0 && c = 0) (.mov e d a)
  | _ => none

/-- The FPU group (06 R147). -/
def decodeFpu (e : Exe) (func : Nat) (d a b c : BitVec 5) : Option Instr :=
  match func with
  | 0 => need (isF d && isF a && isF b && c = 0) (.addf e (regF d) (regF a) (regF b))
  | 1 => need (isF d && isF a && isF b && c = 0) (.subf e (regF d) (regF a) (regF b))
  | 2 => need (isF d && isF a && isF b && c = 0) (.mulf e (regF d) (regF a) (regF b))
  | 3 => need (isF d && isF a && isF b && c = 0) (.divf e (regF d) (regF a) (regF b))
  | 4 => need (isF d && isF a && b = 0 && c = 0) (.sqrtf e (regF d) (regF a))
  | 5 => need (isF d && isF a && b = 0 && c = 0) (.absf e (regF d) (regF a))
  | 6 => need (isF d && isF a && b = 0 && c = 0) (.negf e (regF d) (regF a))
  | 7 => need (isF d && isF a && b = 0 && c = 0) (.movf e (regF d) (regF a))
  | 8 => need (isF a && b = 0 && c = 0) (.cvtfw e d (regF a))
  | 9 => need (isF d && b = 0 && c = 0) (.cvtwf e (regF d) a)
  | 10 => need (isF a && b = 0 && c = 0) (.movfw e d (regF a))
  | 11 => need (isF d && b = 0 && c = 0) (.movwf e (regF d) a)
  | _ => none

/-- The CMP group (06 R146). -/
def decodeCmp (e : Exe) (func : Nat) (d a b c : BitVec 5) : Option Instr :=
  match func with
  | 0 => need (d = 0 && c = 0) (.cmpEq e a b)
  | 1 => need (d = 0 && c = 0) (.cmpNe e a b)
  | 2 => need (d = 0 && c = 0) (.cmpLt e a b)
  | 3 => need (d = 0 && c = 0) (.cmpLe e a b)
  | 4 => need (d = 0 && c = 0) (.cmpGt e a b)
  | 5 => need (d = 0 && c = 0) (.cmpGe e a b)
  | 6 => need (d = 0 && c = 0) (.cmpLtu e a b)
  | 7 => need (d = 0 && c = 0) (.cmpLeu e a b)
  | 8 => need (d = 0 && c = 0) (.cmpGtu e a b)
  | 9 => need (d = 0 && c = 0) (.cmpGeu e a b)
  | 16 => need (d = 0 && c = 0 && isF a && isF b) (.fcmpEq e (regF a) (regF b))
  | 17 => need (d = 0 && c = 0 && isF a && isF b) (.fcmpNe e (regF a) (regF b))
  | 18 => need (d = 0 && c = 0 && isF a && isF b) (.fcmpLt e (regF a) (regF b))
  | 19 => need (d = 0 && c = 0 && isF a && isF b) (.fcmpLe e (regF a) (regF b))
  | 20 => need (d = 0 && c = 0 && isF a && isF b) (.fcmpGt e (regF a) (regF b))
  | 21 => need (d = 0 && c = 0 && isF a && isF b) (.fcmpGe e (regF a) (regF b))
  | _ => none

/-- The SYS group (06 R153). -/
def decodeSys (e : Exe) (func : Nat) (d a b c : BitVec 5) : Option Instr :=
  match func with
  | 0 => need (d = 0 && a = 0 && b = 0 && c = 0) (.nop e)
  | 1 => need (d = 0 && a = 0 && b = 0 && c = 0) (.fence e)
  | 2 => need (d = 0 && a = 0 && b = 0 && c = 0) (.cyend e)
  | 3 => need (d = 0 && a = 0 && b = 0 && c = 0) (.eret e)
  | 4 => need (a = 0 && b = 0 && c = 0) (.mfsw e d)
  | 5 => need (d = 0 && b = 0 && c = 0) (.mtsw e a)
  | 6 => need (d = 0 && b = 0 && c = 0) (.jr e a)
  | 7 => need (d = 0 && b = 0 && c = 0) (.callr e a)
  | _ => none

/-- A bracket open: the operation in bits 8:6, never 100b (06 R149). -/
def decodeOpen (e : Exe) (c : BitVec 5) : Option Instr :=
  match c.toNat with
  | 0 => some (.gopenLd e)
  | 1 => some (.gopenAnd e)
  | 2 => some (.gopenOr e)
  | 3 => some (.gopenXor e)
  | 5 => some (.gopenAndn e)
  | 6 => some (.gopenOrn e)
  | 7 => some (.gopenXorn e)
  | _ => none

/-- The LOGIC group (06 R149). -/
def decodeLogic (e : Exe) (func : Nat) (d a b c : BitVec 5) : Option Instr :=
  match func with
  | 0 => need (d = 0 && a = 0 && b = 0 && c = 0) (.laNot e)
  | 1 => if d = 0 && a = 0 && b = 0 then decodeOpen e c else none
  | 2 => need (d = 0 && a = 0 && b = 0 && c = 0) (.gclose e)
  | 3 => need (a = 0 && b = 0 && c = 0) (.rdla e d)
  | 4 => need (d = 0 && b = 0 && c = 0) (.wrla e a)
  | _ => none

/-- The TMR group (06 R150). -/
def decodeTmr (e : Exe) (func : Nat) (d a b c : BitVec 5) : Option Instr :=
  match func with
  | 0 => need (d = 0 && c = 0) (.tonUs e a b)
  | 1 => need (d = 0 && c = 0) (.tonMs e a b)
  | 2 => need (d = 0 && c = 0) (.tofUs e a b)
  | 3 => need (d = 0 && c = 0) (.tofMs e a b)
  | 4 => need (d = 0 && c = 0) (.tpUs e a b)
  | 5 => need (d = 0 && c = 0) (.tpMs e a b)
  | 8 => need (d = 0 && c = 0) (.ctu e a b)
  | 9 => need (d = 0 && c = 0) (.ctd e a b)
  | 10 => need (d = 0 && b = 0 && c = 0) (.crst e a)
  | 11 => need (d = 0 && c = 0) (.cld e a b)
  | _ => none

/-- The ATOM group (06 R152). -/
def decodeAtom (e : Exe) (func : Nat) (d a b c : BitVec 5) : Option Instr :=
  match func with
  | 0 => need (c = 0) (.swap e d a b)
  | 1 => some (.cas e d a b c)
  | 2 => need (c = 0) (.fadd e d a b)
  | _ => none

/-- Immediates, loads and stores (06 R144, R145). -/
def decodeImm (e : Exe) (func : Nat) (d a : BitVec 5) (imm : BitVec 16) : Option Instr :=
  match func with
  | 24 => some (.addi e d a imm)
  | 25 => some (.andi e d a imm)
  | 26 => some (.ori e d a imm)
  | 27 => some (.xori e d a imm)
  | 28 => need (a = 0) (.movi e d imm)
  | 29 => need (a = 0) (.movhi e d imm)
  | 30 => need (imm.extractLsb' 11 5 = 0 && imm.extractLsb' 8 3 ≤ 4) (.shi e d a (imm.extractLsb' 8 3) (imm.extractLsb' 0 8))
  | 32 => some (.ldw e d a imm)
  | 33 => some (.ldh e d a imm)
  | 34 => some (.ldhu e d a imm)
  | 35 => some (.ldb e d a imm)
  | 36 => some (.ldbu e d a imm)
  | 37 => need (isF d) (.ldf e (regF d) a imm)
  | 40 => some (.stw e d a imm)
  | 41 => some (.sth e d a imm)
  | 42 => some (.stb e d a imm)
  | 43 => need (isF d) (.stf e (regF d) a imm)
  | _ => none

/-- The operand of a bit instruction is legal (06 R148): no direct data space, base zero for an image space, and an edge
bit (BRISE, BFALL) in MK or data. -/
def bitLegal (edge : Bool) : BitOpd → Bool
  | .direct space _ _ => space ≠ 3 && (!edge || space = 2)
  | .indirect space _ base => (space = 3 || base = 0) && (!edge || space.getLsbD 1)

/-- A bit instruction by its op field (06 R148). -/
def decodeBitOp (e : Exe) (op : Nat) (o : BitOpd) : Option Instr :=
  match op with
  | 0 => need (bitLegal false o) (.bld e o)
  | 1 => need (bitLegal false o) (.bldn e o)
  | 2 => need (bitLegal false o) (.band e o)
  | 3 => need (bitLegal false o) (.bandn e o)
  | 4 => need (bitLegal false o) (.bor e o)
  | 5 => need (bitLegal false o) (.born e o)
  | 6 => need (bitLegal false o) (.bxor e o)
  | 7 => need (bitLegal false o) (.bxorn e o)
  | 8 => need (bitLegal false o) (.bset e o)
  | 9 => need (bitLegal false o) (.bclr e o)
  | 10 => need (bitLegal false o) (.basg e o)
  | 11 => need (bitLegal true o) (.brise e o)
  | 12 => need (bitLegal true o) (.bfall e o)
  | _ => none

/-- The instruction that executor e reads in a word; none where the word is illegal (06 R138, R139, R158). -/
def gleigDecode (e : Exe) (w : Word) : Option Instr :=
  let major := (w.extractLsb' 26 6).toNat
  let func := (w.extractLsb' 0 6).toNat
  let d := w.extractLsb' 21 5
  let a := w.extractLsb' 16 5
  let b := w.extractLsb' 11 5
  let c := w.extractLsb' 6 5
  match major with
  | 0x01 => decodeAlu e func d a b c
  | 0x02 => decodeFpu e func d a b c
  | 0x03 => decodeCmp e func d a b c
  | 0x04 => decodeSys e func d a b c
  | 0x05 => need (w.extractLsb' 12 14 = 0) (.svc e (w.extractLsb' 0 12))
  | 0x06 => decodeLogic e func d a b c
  | 0x07 => decodeTmr e func d a b c
  | 0x08 => decodeAtom e func d a b c
  | 0x10 => decodeBitOp e d.toNat (.direct (w.extractLsb' 19 2) (w.extractLsb' 3 16) (w.extractLsb' 0 3))
  | 0x11 =>
    if w.extractLsb' 0 9 = 0 then
      decodeBitOp e d.toNat (.indirect (w.extractLsb' 19 2) (w.extractLsb' 14 5) (w.extractLsb' 9 5))
    else none
  | 48 => some (.j e (w.extractLsb' 0 26))
  | 49 => some (.call e (w.extractLsb' 0 26))
  | 50 => some (.jc e (w.extractLsb' 0 26))
  | 51 => some (.jcn e (w.extractLsb' 0 26))
  | m => decodeImm e m d a (w.extractLsb' 0 16)

end Sys2Proof
end

