-- ==== Sys2Proof/Machine/Crc.lean ====
section
/-!
DEFINITION. The cyclic redundancy checks: CRC-32C (04 R87) and the CRC-32 of Ethernet and Stolnet frames.
-/

namespace Sys2Proof.Machine

/-- One bit of a reflected 32-bit CRC with polynomial p. -/
def crcBit (p : Word) (c : Word) : Word := if c.getLsbD 0 then (c >>> 1) ^^^ p else c >>> 1

/-- One byte of a reflected 32-bit CRC. -/
def crcByte (p : Word) (c : Word) (b : Byte) : Word :=
  let x := c ^^^ b.setWidth 32
  crcBit p (crcBit p (crcBit p (crcBit p (crcBit p (crcBit p (crcBit p (crcBit p x)))))))

/-- A reflected 32-bit CRC with initial value and final inversion of all ones. -/
def crcReflected (p : Word) (bs : List Byte) : Word := ~~~ (bs.foldl (crcByte p) 0xFFFFFFFF)

/-- CRC-32C, polynomial 1EDC6F41h, as 04 R87 uses it (PRESUMED log 15). -/
def crc32c (bs : List Byte) : Word := crcReflected 0x82F63B78 bs

/-- The CRC-32 of IEEE 802.3, polynomial 04C11DB7h. -/
def crc32 (bs : List Byte) : Word := crcReflected 0xEDB88320 bs

end Sys2Proof.Machine
end

