-- ==== Sys2Proof/Config.lean ====
section
/-!
DEFINITION. What an implementation fixes and the spec leaves open: opaque constants with no body. Nothing can prove a
value of one, so a claim that holds of this model holds for every value of them. Each is named in a log entry.
-/

namespace Sys2Proof.Config

/-- The event code of a device record, bits 30:0, by the number of the event (15 R355; DESIGN CHOICE log 10). -/
opaque eventCode : Nat → BitVec 31

/-- The sequence number that POSTSEQ reports for a record posted while no volume is mounted (15 R355, R357; DESIGN CHOICE log 11). -/
opaque earlySeq : Nat → BitVec 64

/-- A byte of an SSD's blocks that no record of the log covers (15 R360; DESIGN CHOICE log 12). -/
opaque staleByte : Nat → Byte

/-- How far above 119 a receive error count above 127 falls at a valid reception (ISO 11898-1; PRESUMED log 19). -/
opaque canRec : Nat → Fin 9

/-- Which multiple of 12.5 ns a CAN start-of-frame stamp takes within its accuracy of 25 ns each way, from the second below
(12 R291; DESIGN CHOICE log 171). -/
opaque canStamp : Nat → Fin 5

/-- A trimmed current whose exact value lies outside 0 to 65 535 (14 R340; DESIGN CHOICE log 21). -/
opaque trimRange : Int → BitVec 16

/-- Which of the read entries that wait the bridge fetches next (16 R376; DESIGN CHOICE log 26). -/
opaque fetchPick : Nat → Nat

/-- The halfword that a read cycle without ACK_L leaves (16 R370, R372; DESIGN CHOICE log 27). -/
opaque rackData : Nat → BitVec 16

/-- A float result is tiny if it is tiny after rounding, not before (05 R119; DESIGN CHOICE log 30). -/
opaque tinyAfter : Bool

/-- The recovery count of a connection wraps past 255 instead of staying there (11 R278, R281; DESIGN CHOICE log 142). -/
opaque recoveryWraps : Bool

/-- Ed25519 verification multiplies its equation by the cofactor (RFC 8032; DESIGN CHOICE log 31). -/
opaque edCofactor : Bool

/-- The result word of a completed hash or CMAC job is its output length, not the bytes processed (08 R206; DESIGN CHOICE log 32). -/
opaque resultIsOutput : Nat → Bool

/-- A dirty line of an engine's caches has reached memory before its job ended without CYEND (05 R136; DESIGN CHOICE log 33). -/
opaque evicted : Nat → Nat → Bool

/-- The error of an Ethernet stamp within its accuracy (09 R223, R224; DESIGN CHOICE log 38). -/
opaque stampError : Nat → Nat

/-- A byte of the state of an odd lane as it stands in the diagnostic half of an ingot slot (04 R87, R88; DESIGN CHOICE log 45). -/
opaque oddLane : Nat → Nat → Byte

/-- The scheduler's dispatch entry, the PC of an idle ingot (04 R87, R95; DESIGN CHOICE log 46). -/
opaque dispatchEntry : Word

/-- The error that a handover of the timebase adds, at most 10 ns each way, in units of 2^-28 ns from -10 ns
(03 R64; DESIGN CHOICE log 47). -/
opaque handoverError : Nat → Fin 5368709121

/-- The error of a trigger stamp in fast mode, at most 8 ns each way, in units of 2^-16 ns from -8 ns
(03 R74; DESIGN CHOICE log 48). -/
opaque trigError : Nat → Fin 1048577

/-- The level of a VCORE group's power-good ball after its disconnection, whose cause the command does not tell
(02 R29, R39; DESIGN CHOICE log 50). -/
opaque pgLevel : Nat → Bool

/-- A byte of a settings area's 64-byte header, whose layout the spec does not give, by format version, data length and
place (17 R397; DESIGN CHOICE log 51). -/
opaque settingsHead : Nat → Nat → Nat → Byte

/-- The current sum that a DO group reports, bits 15:0 of DIO.GSTAT (13 R326; DESIGN CHOICE log 52). -/
opaque groupCurrent : Nat → BitVec 16

/-- The address in the exception frame of an executor whose transfer was cut off at the hold limit (08 R202, 05 R122; DESIGN CHOICE log
53). -/
opaque cutAddr : Nat → Word

/-- A domain that has asked for its clock asks still (03 R57, R58; no command ends a request, DEDUCED log 143). -/
opaque stillAsks : Nat → Bool

/-- A private line that another unit has overwritten still stands in an engine's caches as it was (05 R134, 08 R205;
DESIGN CHOICE log 161). -/
opaque stillCached : Nat → Bool

/-- The error of a stamp of a unit at a time of the master counter, before it is cut to the stamping point's uncertainty
(18 R416; DESIGN CHOICE log 177). -/
opaque stampOff : Nat → Nat → Nat

/-- How many words of an exception frame are written when its entry is cut off (05 R124; DESIGN CHOICE log 162). -/
opaque frameWords : Nat → Fin 9

/-- The even cycles that a joiner with a DEVID waits after an attempt without a grant: a term of a sequence that the spec does
not give (10 R267; DESIGN CHOICE log 170). -/
opaque joinWait : Nat → Nat → Fin 16

end Sys2Proof.Config
end

