-- ==== Sys2Proof/Machine/Bits.lean ====
section
/-!
DEFINITION. Bit fields of words, sparse tables, and byte order: the small operations that every unit uses.
-/

namespace Sys2Proof.Machine

/-- A sparse table: keys strictly rising, a key that is not listed holds the table's default. -/
abbrev Tab (α : Type) := List (Nat × α)

/-- The entry of a key, the default where none is listed. -/
def Tab.get {α : Type} (d : α) : Tab α → Nat → α
  | [], _ => d
  | (k, v) :: t, i => if i = k then v else Tab.get d t i

/-- Takes a key out of a table. -/
def Tab.erase {α : Type} : Tab α → Nat → Tab α
  | [], _ => []
  | (k, v) :: t, i => if i = k then Tab.erase t i else (k, v) :: Tab.erase t i

/-- Puts a key with its value at its place in the order. -/
def Tab.insert {α : Type} : Tab α → Nat → α → Tab α
  | [], i, v => [(i, v)]
  | (k, w) :: t, i, v => if i < k then (i, v) :: (k, w) :: t else (k, w) :: Tab.insert t i v

/-- Sets the entry of a key; an entry equal to the default is not listed. -/
def Tab.set {α : Type} [DecidableEq α] (d : α) (t : Tab α) (i : Nat) (v : α) : Tab α :=
  if v = d then Tab.erase t i else Tab.insert (Tab.erase t i) i v

/-- The keys rise strictly from a bound. -/
def Tab.rising {α : Type} : Nat → Tab α → Bool
  | _, [] => true
  | b, (k, _) :: t => decide (b ≤ k) && Tab.rising (k + 1) t

/-- The canonical form: keys strictly rising, no entry equal to the default. -/
def Tab.wf {α : Type} [DecidableEq α] (d : α) (t : Tab α) : Bool :=
  Tab.rising 0 t && t.all (fun p => !decide (p.2 = d))

/-- The n bits of a word from bit lo up, as a number. -/
def fld (w : Word) (lo n : Nat) : Nat := (w.toNat >>> lo) % 2 ^ n

/-- A word that holds v in its n bits from bit lo up, and 0 elsewhere. -/
def fput (v lo n : Nat) : Word := BitVec.ofNat 32 ((v % 2 ^ n) <<< lo)

/-- The mask of n bits from bit lo up. -/
def fmask (lo n : Nat) : Word := BitVec.ofNat 32 ((2 ^ n - 1) <<< lo)

/-- A word with its n bits from bit lo up replaced by v. -/
def fset (w : Word) (lo n v : Nat) : Word := (w &&& ~~~ fmask lo n) ||| fput v lo n

/-- A one-bit word. -/
def bit (i : Nat) : Word := BitVec.ofNat 32 (1 <<< i)

/-- A bit of a word as a number. -/
def b2n (b : Bool) : Nat := if b then 1 else 0

/-- A number as a word. -/
abbrev wd (n : Nat) : Word := BitVec.ofNat 32 n

/-- The low and the high word of a number of 64 bits. -/
def lo32 (n : Nat) : Word := BitVec.ofNat 32 n

/-- The high word of a number of 64 bits. -/
def hi32 (n : Nat) : Word := BitVec.ofNat 32 (n >>> 32)

/-- The n bytes of a number, least significant first (00 R6). -/
def leBytes : Nat → Nat → List Byte
  | 0, _ => []
  | n + 1, v => BitVec.ofNat 8 v :: leBytes n (v / 256)

/-- The number that bytes spell, least significant first. -/
def leNat : List Byte → Nat
  | [] => 0
  | b :: bs => b.toNat + 256 * leNat bs

/-- The number that bytes spell, most significant first. -/
def beNat (bs : List Byte) : Nat := bs.foldl (fun a b => a * 256 + b.toNat) 0

/-- The n bytes of a number, most significant first. -/
def beBytes (n v : Nat) : List Byte := (leBytes n v).reverse

/-- Bytes of a list of words, each little-endian. -/
def wordBytes (ws : List Word) : List Byte := ws.flatMap (fun w => leBytes 4 w.toNat)

/-- A list cut to n entries, filled with d. -/
def padTo {α : Type} (d : α) : Nat → List α → List α
  | 0, _ => []
  | n + 1, [] => d :: padTo d n []
  | n + 1, x :: xs => x :: padTo d n xs

/-- The entries of a list at index i for n places. -/
def slice {α : Type} (l : List α) (i n : Nat) : List α := (l.drop i).take n

end Sys2Proof.Machine
end

