-- ==== Sys2Proof/Machine/RegMap.lean ====
section
/-!
DEFINITION. The register map: one name per register (or array of registers) of the units, and its row: base
address, strides and counts, reset value, writable bits, write-1-to-clear bits, what resets it, and the offset of
its active copy.
-/

namespace Sys2Proof.Machine

/-- The registers of the device, in the order of the register space (00, Register space). -/
inductive Reg where
  /-- SUP.PWRSTAT (02 R39): PFLAT bit 9 lies in the pewter domain (kept apart as pwr.pflat). -/
  | supPwrstat
  /-- SUP.PSTATE (02 R40): KEY and REQ are WO. -/
  | supPstate
  /-- SUP.WAKEEN (02 R41): pewter domain. -/
  | supWakeen
  /-- SUP.WAKESRC (02 R41): pewter domain. -/
  | supWakesrc
  /-- SUP.RSTCAUSE (02 R42): pewter domain. -/
  | supRstcause
  /-- SUP.RSTCTL (02 R43): WO. -/
  | supRstctl
  /-- SUP.ALMSTAT (18 R408). -/
  | supAlmstat
  /-- SUP.ALMFLT (18 R408). -/
  | supAlmflt
  /-- SUP.ALMT_LO (18 R408). -/
  | supAlmtLo
  /-- SUP.ALMT_HI (18 R408). -/
  | supAlmtHi
  /-- SUP.TEMP (18 R410). -/
  | supTemp
  /-- SUP.TLIM (18 R410). -/
  | supTlim
  /-- SUP.FWDG (18 R412): KICK is WO. -/
  | supFwdg
  /-- SUP.FWDGCNT (18 R412): write of 0 clears. -/
  | supFwdgcnt
  /-- SUP.DBGSTAT (18 R419): LEVEL comes from the fuses. -/
  | supDbgstat
  /-- SUP.FATAL (18 R413): pewter domain. -/
  | supFatal
  /-- SUP.MNT_CTL (18 R420). -/
  | supMntCtl
  /-- SUP.MNT_RXBASE (18 R420). -/
  | supMntRxbase
  /-- SUP.MNT_TXBASE (18 R420). -/
  | supMntTxbase
  /-- SUP.MNT_MAC_LO (18 R420). -/
  | supMntMacLo
  /-- SUP.MNT_MAC_HI (18 R420). -/
  | supMntMacHi
  /-- SUP.MNT_RXHEAD (18 R420). -/
  | supMntRxhead
  /-- SUP.MNT_RXTAIL (18 R420). -/
  | supMntRxtail
  /-- SUP.MNT_TXTAIL (18 R420). -/
  | supMntTxtail
  /-- SUP.MNT_TXHEAD (18 R420). -/
  | supMntTxhead
  /-- SUP.MNT_MDIO (18 R420). -/
  | supMntMdio
  /-- SUP.UDATA (18 R420): FIFO window. -/
  | supUdata
  /-- SUP.USTAT (18 R420): computed from the FIFOs. -/
  | supUstat
  /-- SUP.PINOWN (18 R421): entries 220-255 reserved: read 0, write DENIED. -/
  | supPinown
  /-- SUP.PINOWNR (18 R421): reserved entries of the table. -/
  | supPinownr
  /-- CLK.XADLY (03 R53): RWL, pewter domain. -/
  | clkXadly
  /-- CLK.XBDLY (03 R54): RWL, pewter domain. -/
  | clkXbdly
  /-- CLK.MONSTAT (03 R56). -/
  | clkMonstat
  /-- CLK.PLLCTL (03 R58). -/
  | clkPllctl
  /-- CLK.EPLLFREQ (03 R59). -/
  | clkEpllfreq
  /-- TIM.TBNS_LO (03 R66): computed from the timebase. -/
  | timTbnsLo
  /-- TIM.TBNS_HI (03 R66): latched per initiator. -/
  | timTbnsHi
  /-- TIM.TBFRAC (03 R66): latched per initiator. -/
  | timTbfrac
  /-- TIM.TBINC (03 R66). -/
  | timTbinc
  /-- TIM.TBSLEW (03 R66): reads the remainder. -/
  | timTbslew
  /-- TIM.TBSTEP_LO (03 R66): WO, the held half is tb.stepLo. -/
  | timTbstepLo
  /-- TIM.TBSTEP_HI (03 R66): WO. -/
  | timTbstepHi
  /-- TIM.TBSTAT (03 R67). -/
  | timTbstat
  /-- TIM.TRIG_CTL (03 R74). -/
  | timTrigCtl
  /-- TIM.TRIG_LO (03 R74). -/
  | timTrigLo
  /-- TIM.TRIG_HI (03 R74): latched. -/
  | timTrigHi
  /-- TIM.TRIG_FRAC (03 R74): latched. -/
  | timTrigFrac
  /-- TIM.PPS_CTL (03 R75). -/
  | timPpsCtl
  /-- TIM.TT_CTL (03 R71). -/
  | timTtCtl
  /-- TIM.TT_CMP_LO (03 R70). -/
  | timTtCmpLo
  /-- TIM.TT_CMP_HI (03 R70). -/
  | timTtCmpHi
  /-- TIM.TT_PER_S (03 R70). -/
  | timTtPerS
  /-- TIM.TT_STAT (03 R70). -/
  | timTtStat
  /-- TIM.TT_OWN (03 R69). -/
  | timTtOwn
  /-- TIM.TT_PER_A (03 R70). -/
  | timTtPerA
  /-- FAB.INFO (04 R99). -/
  | fabInfo
  /-- FAB.ALLOYMAP (04 R99): computed from the triad states. -/
  | fabAlloymap
  /-- FAB.DEGMAP (04 R99): computed. -/
  | fabDegmap
  /-- FAB.SPLITMAP (04 R99): computed. -/
  | fabSplitmap
  /-- FAB.FAULTMAP (04 R99): computed. -/
  | fabFaultmap
  /-- FAB.RETMAP (04 R99): computed. -/
  | fabRetmap
  /-- FAB.HALTMAP (04 R99): computed. -/
  | fabHaltmap
  /-- FAB.LANECFG (04 R100). -/
  | fabLanecfg
  /-- FAB.INJ (04 R101): WO. -/
  | fabInj
  /-- FAB.TCTL_S (04 R103). -/
  | fabTctlS
  /-- FAB.TCTL_A (04 R102). -/
  | fabTctlA
  /-- FAB.TSTAT (04 R104): computed from the triad record (reset 0000_0400h). -/
  | fabTstat
  /-- FAB.TEV (04 R105): ODDLANE and JOB computed. -/
  | fabTev
  /-- FAB.TODD (04 R102). -/
  | fabTodd
  /-- FAB.TLAST_LO (04 R102). -/
  | fabTlastLo
  /-- FAB.TLAST_HI (04 R102). -/
  | fabTlastHi
  /-- FAB.TDBG (04 R106): HALTED computed, STEP WO. -/
  | fabTdbg
  /-- FAB.TRSYN (04 R102). -/
  | fabTrsyn
  /-- SCH.CTL (07 R187). -/
  | schCtl
  /-- SCH.STAT (07 R186). -/
  | schStat
  /-- SCH.CAP (07 R186): computed. -/
  | schCap
  /-- SCH.USES (07 R186): computed. -/
  | schUses
  /-- SCH.USET (07 R186): computed. -/
  | schUset
  /-- SCH.PCMD (07 R177): WO. -/
  | schPcmd
  /-- SCH.FORCEIND (07 R180). -/
  | schForceind
  /-- SCH.FORCESTAT (07 R180): computed. -/
  | schForcestat
  /-- SCH.SVCPEND (05 R131): computed. -/
  | schSvcpend
  /-- SCH.SVCREQ (05 R131): a read of SVCREQ0 takes. -/
  | schSvcreq
  /-- SCH.RPLSEL (05 R131). -/
  | schRplsel
  /-- SCH.RPLGO (05 R131): WO. -/
  | schRplgo
  /-- SCH.RPL0 (05 R131). -/
  | schRpl0
  /-- SCH.RPL1 (05 R131). -/
  | schRpl1
  /-- SCH.RPL (05 R131): RPL2-RPL7. -/
  | schRpl
  /-- SCH.RG (07 R165). -/
  | schRg
  /-- SCH.RG_CNT (07 R165). -/
  | schRgCnt
  /-- SCH.PD_CTL_S (07 R162): RANK of partition 0 reads FFh. -/
  | schPdCtlS
  /-- SCH.PD_REL_S (07 R161). -/
  | schPdRelS
  /-- SCH.PD_BUDGET_S (07 R161). -/
  | schPdBudgetS
  /-- SCH.PD_ENTRY_S (07 R161). -/
  | schPdEntryS
  /-- SCH.PD_VEC_S (07 R161). -/
  | schPdVecS
  /-- SCH.PD_AREA_S (07 R161). -/
  | schPdAreaS
  /-- SCH.PD_SIZE_S (07 R161). -/
  | schPdSizeS
  /-- SCH.PD_TRAP_S (07 R161). -/
  | schPdTrapS
  /-- SCH.PD_STAT (07 R163): computed from the partition record. -/
  | schPdStat
  /-- SCH.PD_ADM (07 R161). -/
  | schPdAdm
  /-- SCH.PD_LASTDUR (07 R161). -/
  | schPdLastdur
  /-- SCH.PD_MAXDUR (07 R161): write of 0 clears. -/
  | schPdMaxdur
  /-- SCH.PD_MISS (07 R161). -/
  | schPdMiss
  /-- SCH.PD_RSV (07 R161): reserved. -/
  | schPdRsv
  /-- SCH.FRC_S (07 R178). -/
  | schFrcS
  /-- SCH.FRC_OFS_S (07 R178). -/
  | schFrcOfsS
  /-- SCH.FRC_VAL_S (07 R178). -/
  | schFrcValS
  /-- SCH.FRC_RSV (07 R178): reserved. -/
  | schFrcRsv
  /-- MEM.INFO (08 R197). -/
  | memInfo
  /-- MEM.ECCSTAT (08 R197). -/
  | memEccstat
  /-- MEM.CECNT (08 R197): write of 0 clears. -/
  | memCecnt
  /-- MEM.UEADDR_LO (08 R197). -/
  | memUeaddrLo
  /-- MEM.UEADDR_HI (08 R197). -/
  | memUeaddrHi
  /-- MEM.SCRUB (08 R197). -/
  | memScrub
  /-- MEM.RTSEL (08 R191). -/
  | memRtsel
  /-- MEM.RGN_VBASE_S (08 R191). -/
  | memRgnVbaseS
  /-- MEM.RGN_SIZE_S (08 R191). -/
  | memRgnSizeS
  /-- MEM.RGN_PBASE_S (08 R191). -/
  | memRgnPbaseS
  /-- MEM.RGN_ATTR_S (08 R192). -/
  | memRgnAttrS
  /-- ARB.HOLDU (08 R203). -/
  | arbHoldu
  /-- ARB.HOLDN (08 R203). -/
  | arbHoldn
  /-- ARB.HOLDB (08 R203). -/
  | arbHoldb
  /-- ARB.AGE (08 R203). -/
  | arbAge
  /-- ARB.STAT (08 R203). -/
  | arbStat
  /-- ARB.CUTCNT (08 R203): write of 0 clears. -/
  | arbCutcnt
  /-- ARB.PROMOCNT (08 R203): write of 0 clears. -/
  | arbPromocnt
  /-- ARB.LASTCUT (08 R203). -/
  | arbLastcut
  /-- SHE.INFO (08 R212). -/
  | sheInfo
  /-- SHE.STAT (08 R212). -/
  | sheStat
  /-- SHE.SUBMIT_ADDR (08 R212): WO, one per partition. -/
  | sheSubmitAddr
  /-- SHE.SUBMIT (08 R212): a read submits. -/
  | sheSubmit
  /-- SHE.QDEPTH (08 R212): computed. -/
  | sheQdepth
  /-- SHE.ENVLAST (11 R286). -/
  | sheEnvlast
  /-- SHE.ENVCNT (11 R286): write of 0 clears. -/
  | sheEnvcnt
  /-- SHE.ENVVER (11 R286). -/
  | sheEnvver
  /-- SHE.KS_CTL (08 R210): ERASE is an action. -/
  | sheKsCtl
  /-- SHE.KS_STAT (08 R210). -/
  | sheKsStat
  /-- SHE.KS_KEY (08 R210): WO, the words are she.keys. -/
  | sheKsKey
  /-- ETH.INFO (09 R237). -/
  | ethInfo
  /-- ETH.CTL_S (09 R237). -/
  | ethCtlS
  /-- ETH.AGE_S (09 R237). -/
  | ethAgeS
  /-- ETH.PCPMAP_S (09 R237). -/
  | ethPcpmapS
  /-- ETH.PTPCTL_S (09 R237). -/
  | ethPtpctlS
  /-- ETH.PTPCH_S (09 R237). -/
  | ethPtpchS
  /-- ETH.STAT (09 R237). -/
  | ethStat
  /-- ETH.QLIM_S (09 R237). -/
  | ethQlimS
  /-- ETH.VIDSEL (09 R237). -/
  | ethVidsel
  /-- ETH.VMEM_S (09 R237). -/
  | ethVmemS
  /-- ETH.VUNT_S (09 R237). -/
  | ethVuntS
  /-- ETH.VOWN_S (09 R237). -/
  | ethVownS
  /-- ETH.CHKDA_LO_S (09 R237). -/
  | ethChkdaLoS
  /-- ETH.CHKDA_HI_S (09 R237). -/
  | ethChkdaHiS
  /-- ETH.PCFG_S (09 R239). -/
  | ethPcfgS
  /-- ETH.PSTAT (09 R238). -/
  | ethPstat
  /-- ETH.PRXTRIM_S (09 R238). -/
  | ethPrxtrimS
  /-- ETH.PTXTRIM_S (09 R238). -/
  | ethPtxtrimS
  /-- ETH.PLDLY (09 R238). -/
  | ethPldly
  /-- ETH.PSTORM_S (09 R238). -/
  | ethPstormS
  /-- ETH.PQSHP_S (09 R238). -/
  | ethPqshpS
  /-- ETH.PCNT (09 R238): RXOK RXFCS RXLEN RXFILT TXOK TXDROP STORM FUMISS, write of 0 clears. -/
  | ethPcnt
  /-- ETH.PR_CFG_S (09 R241). -/
  | ethPrCfgS
  /-- ETH.PR_TIM_S (09 R241). -/
  | ethPrTimS
  /-- ETH.PR_SWAP_S (09 R241). -/
  | ethPrSwapS
  /-- ETH.PR_STAT (09 R241): computed. -/
  | ethPrStat
  /-- ETH.PR_CMD (09 R241): WO. -/
  | ethPrCmd
  /-- ETH.PR_CNT (09 R241): write of 0 clears. -/
  | ethPrCnt
  /-- ETH.CH_CTL_S (09 R240). -/
  | ethChCtlS
  /-- ETH.CH_RXBASE_S (09 R240). -/
  | ethChRxbaseS
  /-- ETH.CH_TXBASE_S (09 R240). -/
  | ethChTxbaseS
  /-- ETH.CH_MAC_LO_S (09 R240). -/
  | ethChMacLoS
  /-- ETH.CH_MAC_HI_S (09 R240). -/
  | ethChMacHiS
  /-- ETH.CH_STAT (09 R240). -/
  | ethChStat
  /-- ETH.RXHEAD (09 R221). -/
  | ethRxhead
  /-- ETH.RXTAIL (09 R221). -/
  | ethRxtail
  /-- ETH.TXTAIL (09 R221). -/
  | ethTxtail
  /-- ETH.TXHEAD (09 R221). -/
  | ethTxhead
  /-- STN.INFO (10 R272). -/
  | stnInfo
  /-- STN.CTL_S (10 R273). -/
  | stnCtlS
  /-- STN.CYC_S (10 R272). -/
  | stnCycS
  /-- STN.STAT (10 R272). -/
  | stnStat
  /-- STN.RINGSTAT (10 R272). -/
  | stnRingstat
  /-- STN.TSWAP (10 R272). -/
  | stnTswap
  /-- STN.TARM (10 R272): WO. -/
  | stnTarm
  /-- STN.TSTAT (10 R272). -/
  | stnTstat
  /-- STN.TCFGID_S (10 R272): swaps with the table. -/
  | stnTcfgidS
  /-- STN.VER (10 R272). -/
  | stnVer
  /-- STN.CYCNT (10 R272). -/
  | stnCycnt
  /-- STN.CNT (10 R272): RXOK RXCRC RXVER RXCFG RXSTALE RINGVIOL TXMISS LOST, write of 0 clears. -/
  | stnCnt
  /-- STN.RP_CTL_S (10 R274). -/
  | stnRpCtlS
  /-- STN.RP_STAT (10 R274). -/
  | stnRpStat
  /-- STN.RP_CMD (10 R274): WO. -/
  | stnRpCmd
  /-- STN.RP_CNT (10 R274): write of 0 clears. -/
  | stnRpCnt
  /-- STN.SP_CTL_S (10 R274). -/
  | stnSpCtlS
  /-- STN.SP_STAT (10 R274). -/
  | stnSpStat
  /-- STN.SP_CMD (10 R274): WO. -/
  | stnSpCmd
  /-- STN.SP_CNT (10 R274): write of 0 clears. -/
  | stnSpCnt
  /-- STN.SL_START_S (10 R251). -/
  | stnSlStartS
  /-- STN.SL_DUR_S (10 R251). -/
  | stnSlDurS
  /-- STN.SL_SRC_S (10 R251). -/
  | stnSlSrcS
  /-- STN.SL_MAP_S (10 R251). -/
  | stnSlMapS
  /-- CAN.INFO (12 R302). -/
  | canInfo
  /-- CAN.CTL_S (12 R303): reset of the fields of R303; the register table prints 0. -/
  | canCtlS
  /-- CAN.NBT_S (12 R302). -/
  | canNbtS
  /-- CAN.DBT_S (12 R302). -/
  | canDbtS
  /-- CAN.RAM_S (12 R302). -/
  | canRamS
  /-- CAN.OWN (12 R302). -/
  | canOwn
  /-- CAN.STAT (12 R302). -/
  | canStat
  /-- CAN.ERR (12 R304): computed. -/
  | canErr
  /-- CAN.SDTIME_S (12 R302). -/
  | canSdtimeS
  /-- CAN.BOCFG_S (12 R302). -/
  | canBocfgS
  /-- CAN.CLASH (12 R302). -/
  | canClash
  /-- CAN.CLASHPOS (12 R302). -/
  | canClashpos
  /-- CAN.ARDSTAT (12 R302). -/
  | canArdstat
  /-- CAN.ARDDWELL (12 R302). -/
  | canArddwell
  /-- CAN.CMD (12 R302): WO. -/
  | canCmd
  /-- CAN.TXSTAT (12 R302). -/
  | canTxstat
  /-- CAN.CNT (12 R302): RXOK RXLOST RXFILT RXSIZE TXOK BUSOFF STUCK ARD, write of 0 clears. -/
  | canCnt
  /-- CAN.ARD_NBT (12 R302). -/
  | canArdNbt
  /-- CAN.ARD_DBT (12 R302). -/
  | canArdDbt
  /-- CAN.RXGET (12 R302). -/
  | canRxget
  /-- CAN.RXPUT (12 R302). -/
  | canRxput
  /-- CAN.TXPUT (12 R302). -/
  | canTxput
  /-- CAN.TXHEAD (12 R302). -/
  | canTxhead
  /-- CAN.FLTSEL (12 R302). -/
  | canFltsel
  /-- CAN.FLT_ID1_S (12 R302). -/
  | canFltId1S
  /-- CAN.FLT_ID2_S (12 R302). -/
  | canFltId2S
  /-- CAN.RXWIN (12 R302): receive window. -/
  | canRxwin
  /-- CAN.TXWIN (12 R302): transmit window, WO. -/
  | canTxwin
  /-- DIO.INFO (13 R326). -/
  | dioInfo
  /-- DIO.CTL_S (13 R326). -/
  | dioCtlS
  /-- DIO.STAT (13 R326). -/
  | dioStat
  /-- DIO.WDG (13 R326): computed (FSAFE, CAUSE). -/
  | dioWdg
  /-- DIO.TSPOP0 (13 R313): a read pops. -/
  | dioTspop0
  /-- DIO.TSPOP (13 R313): TSPOP1-3, latched per initiator. -/
  | dioTspop
  /-- DIO.TSCNT (13 R326): computed. -/
  | dioTscnt
  /-- DIO.TPCFG_S (13 R326). -/
  | dioTpcfgS
  /-- DIO.DIACK (13 R326): WO. -/
  | dioDiack
  /-- DIO.SMAPDI (13 R326): fuse words 5-7. -/
  | dioSmapdi
  /-- DIO.SMAPDO (13 R326): fuse words 8-9. -/
  | dioSmapdo
  /-- DIO.DI_CFG_S (13 R327). -/
  | dioDiCfgS
  /-- DIO.DI_MAP_S (13 R327). -/
  | dioDiMapS
  /-- DIO.DI_VPOS_S (13 R327). -/
  | dioDiVposS
  /-- DIO.DI_DPOS_S (13 R327). -/
  | dioDiDposS
  /-- DIO.DI_SPOS_S (13 R327). -/
  | dioDiSposS
  /-- DIO.DI_STAT (13 R327): computed. -/
  | dioDiStat
  /-- DIO.DO_CFG_S (13 R328). -/
  | dioDoCfgS
  /-- DIO.DO_MAP_S (13 R328). -/
  | dioDoMapS
  /-- DIO.DO_VPOS_S (13 R328). -/
  | dioDoVposS
  /-- DIO.DO_DPOS_S (13 R328). -/
  | dioDoDposS
  /-- DIO.DO_PULSE_S (13 R328). -/
  | dioDoPulseS
  /-- DIO.DO_STAT (13 R328): computed. -/
  | dioDoStat
  /-- DIO.GSTAT (13 R328). -/
  | dioGstat
  /-- ALP.INFO (14 R345). -/
  | alpInfo
  /-- ALP.STAT (14 R345). -/
  | alpStat
  /-- ALP.TRIMCFG_S (14 R345). -/
  | alpTrimcfgS
  /-- ALP.TRIMSTAT (14 R345). -/
  | alpTrimstat
  /-- ALP.SMAP (14 R345): fuse word 10. -/
  | alpSmap
  /-- ALP.VLOOP (14 R345). -/
  | alpVloop
  /-- ALP.C_CFG_S (14 R346). -/
  | alpCCfgS
  /-- ALP.C_MAP_S (14 R346). -/
  | alpCMapS
  /-- ALP.C_VPOS_S (14 R346). -/
  | alpCVposS
  /-- ALP.C_DPOS_S (14 R346). -/
  | alpCDposS
  /-- ALP.C_RBPOS_S (14 R346). -/
  | alpCRbposS
  /-- ALP.C_RBUR_S (14 R346). -/
  | alpCRburS
  /-- ALP.C_ZERO_S (14 R346): trim, reset by cold reset and wider (R341). -/
  | alpCZeroS
  /-- ALP.C_GAIN_S (14 R346): trim, reset by cold reset and wider (R341). -/
  | alpCGainS
  /-- ALP.C_LIM_S (14 R346). -/
  | alpCLimS
  /-- ALP.C_SAFE_S (14 R346). -/
  | alpCSafeS
  /-- ALP.C_STAT (14 R346): computed. -/
  | alpCStat
  /-- ALP.C_RAW (14 R346). -/
  | alpCRaw
  /-- ALP.H_TXADDR (14 R347). -/
  | alpHTxaddr
  /-- ALP.H_TXLEN (14 R347). -/
  | alpHTxlen
  /-- ALP.H_RXADDR (14 R347). -/
  | alpHRxaddr
  /-- ALP.H_RXMAX (14 R347). -/
  | alpHRxmax
  /-- ALP.H_CTL (14 R347): GO is an action and reads BUSY. -/
  | alpHCtl
  /-- ALP.H_STAT (14 R347). -/
  | alpHStat
  /-- ALP.H_TS_LO (14 R347). -/
  | alpHTsLo
  /-- ALP.H_TS_HI (14 R347). -/
  | alpHTsHi
  /-- STO.INFO (15 R366). -/
  | stoInfo
  /-- STO.CTL (15 R366). -/
  | stoCtl
  /-- STO.WORKBASE (15 R366). -/
  | stoWorkbase
  /-- STO.VCMD (15 R366): WO. -/
  | stoVcmd
  /-- STO.VSTAT (15 R366): computed. -/
  | stoVstat
  /-- STO.VOLID_LO (15 R366): computed. -/
  | stoVolidLo
  /-- STO.VOLID_HI (15 R366): computed. -/
  | stoVolidHi
  /-- STO.END_LO (15 R366): computed. -/
  | stoEndLo
  /-- STO.END_HI (15 R366): computed. -/
  | stoEndHi
  /-- STO.STAT (15 R366). -/
  | stoStat
  /-- STO.DIRTY (15 R366): computed. -/
  | stoDirty
  /-- STO.POST_ADDR (15 R366): WO, one per partition. -/
  | stoPostAddr
  /-- STO.POST (15 R366): a read posts. -/
  | stoPost
  /-- STO.POSTSEQ (15 R366): LO, HI. -/
  | stoPostseq
  /-- STO.RD_ADDR (15 R366): WO, one per partition. -/
  | stoRdAddr
  /-- STO.RD (15 R366): a read submits. -/
  | stoRd
  /-- STO.L_CTL (15 R367). -/
  | stoLCtl
  /-- STO.L_STAT (15 R367): computed. -/
  | stoLStat
  /-- STO.L_CAP (15 R367): computed, LO and HI. -/
  | stoLCap
  /-- STO.L_WLAT (15 R367): write of 0 clears. -/
  | stoLWlat
  /-- STO.L_CNT (15 R367): blocks written, blocks read, timeouts, controller resets, write of 0 clears. -/
  | stoLCnt
  /-- STO.S_CTL (15 R368): reset C000_0000h for stream 0. -/
  | stoSCtl
  /-- STO.S_STAT (15 R368): computed. -/
  | stoSStat
  /-- STO.S_SEQ (15 R368): computed, LO and HI. -/
  | stoSSeq
  /-- STO.S_LAST (15 R368): computed, LO and HI. -/
  | stoSLast
  /-- STO.S_REF (15 R368): computed, REFFULL and REFBUSY. -/
  | stoSRef
  /-- BRB.INFO (16 R381). -/
  | brbInfo
  /-- BRB.CTL (16 R382). -/
  | brbCtl
  /-- BRB.STAT (16 R381). -/
  | brbStat
  /-- BRB.LASTERR (16 R381). -/
  | brbLasterr
  /-- BRB.LASTERRP (16 R381). -/
  | brbLasterrp
  /-- BRB.QSTAT (16 R381): computed. -/
  | brbQstat
  /-- BRB.SEMSTAT (16 R381): computed. -/
  | brbSemstat
  /-- BRB.SEM (16 R381): a read takes, a write releases. -/
  | brbSem
  /-- BRB.SLOT_OWN (16 R381). -/
  | brbSlotOwn
  /-- BRB.IRQ_CTL_S (16 R381). -/
  | brbIrqCtlS
  /-- BRB.IRQ_TS_LO (16 R381). -/
  | brbIrqTsLo
  /-- BRB.IRQ_TS_HI (16 R381). -/
  | brbIrqTsHi
  /-- BRB.IRQ_STAT (16 R381). -/
  | brbIrqStat
  /-- SEC.INFO (17 R405). -/
  | secInfo
  /-- SEC.FSTAT (17 R405). -/
  | secFstat
  /-- SEC.FPROG (17 R405): WO. -/
  | secFprog
  /-- SEC.FPDATA (17 R405). -/
  | secFpdata
  /-- SEC.FRSEL (17 R405). -/
  | secFrsel
  /-- SEC.FREAD (17 R405): computed. -/
  | secFread
  /-- SEC.KLOAD (17 R405): WO. -/
  | secKload
  /-- SEC.KLADDR (17 R405). -/
  | secKladdr
  /-- SEC.KLSTAT (17 R405). -/
  | secKlstat
  /-- SEC.UCMD (17 R405): WO. -/
  | secUcmd
  /-- SEC.UARG (17 R405). -/
  | secUarg
  /-- SEC.UADDR (17 R405). -/
  | secUaddr
  /-- SEC.USTAT (17 R405). -/
  | secUstat
  /-- SEC.UMISS (17 R405). -/
  | secUmiss
  /-- SEC.ACTT (17 R405): LO and HI. -/
  | secActt
  /-- SEC.CONFTO (17 R405). -/
  | secConfto
  /-- SEC.CSTAT (17 R405): computed. -/
  | secCstat
  /-- SEC.SVN (17 R405): computed from the fuse shadow. -/
  | secSvn
  deriving DecidableEq, Repr

/-- Which resets leave a register alone (02 R44): none of them; warm (RWS, 00 R8); warm, cold and brown-out (the
pewter domain and the timebase); all but VPEW power-up. -/
inductive Keep where
  | never | warm | pewter | vpew
  deriving DecidableEq, Repr

/-- A row of a register map. -/
structure RegRow where
  /-- Physical address of the first register. -/
  base : Nat
  /-- Stride and count of the first index; stride 0 means one register. -/
  s1 : Nat := 0
  n1 : Nat := 1
  /-- Stride and count of the second index. -/
  s2 : Nat := 0
  n2 : Nat := 1
  /-- Reset value. -/
  reset : Word := 0
  /-- Bits a write sets. -/
  rw : Word := 0
  /-- Bits a 1 clears. -/
  w1c : Word := 0
  /-- The resets that leave it alone. -/
  keep : Keep := .never
  /-- Offset of the read-only active copy of a shadowed register, 0 if it is not shadowed (00 R9). -/
  aoff : Nat := 0
  deriving DecidableEq, Repr

/-- The row of a register. -/
def Reg.row : Reg → RegRow
  | .supPwrstat => { base := 0x6000000100, w1c := 0x201 }
  | .supPstate => { base := 0x6000000104, w1c := 8 }
  | .supWakeen => { base := 0x6000000108, reset := 1, rw := 0x3F, keep := .pewter }
  | .supWakesrc => { base := 0x600000010C, w1c := 0x3F, keep := .pewter }
  | .supRstcause => { base := 0x6000000110, reset := 1, w1c := 0x1FF, keep := .vpew }
  | .supRstctl => { base := 0x6000000114 }
  | .supAlmstat => { base := 0x6000000200, w1c := 0xFFFF }
  | .supAlmflt => { base := 0x6000000204, reset := 0x38, rw := 0xFFFF }
  | .supAlmtLo => { base := 0x6000000208 }
  | .supAlmtHi => { base := 0x600000020C }
  | .supTemp => { base := 0x6000000210 }
  | .supTlim => { base := 0x6000000214, reset := 0x73, rw := 0xFF }
  | .supFwdg => { base := 0x6000000220, reset := 0x303E8, rw := 0xFFFFFF }
  | .supFwdgcnt => { base := 0x6000000224, rw := 0xFFFFFFFF, keep := .warm }
  | .supDbgstat => { base := 0x6000000230, w1c := 4 }
  | .supFatal => { base := 0x6000000240, keep := .vpew }
  | .supMntCtl => { base := 0x6000000300, rw := 0x80000FF3 }
  | .supMntRxbase => { base := 0x6000000304, rw := 0xFFFFFFFF }
  | .supMntTxbase => { base := 0x6000000308, rw := 0xFFFFFFFF }
  | .supMntMacLo => { base := 0x600000030C, rw := 0xFFFFFFFF }
  | .supMntMacHi => { base := 0x6000000310, rw := 0xFFFF }
  | .supMntRxhead => { base := 0x6000000314 }
  | .supMntRxtail => { base := 0x6000000318, rw := 0xFFFFFFFF }
  | .supMntTxtail => { base := 0x600000031C, rw := 0xFFFFFFFF }
  | .supMntTxhead => { base := 0x6000000320 }
  | .supMntMdio => { base := 0x6000000324, rw := 0xC3FFFFFF }
  | .supUdata => { base := 0x6000000330 }
  | .supUstat => { base := 0x6000000334 }
  | .supPinown => { base := 0x6000001000, s1 := 4, n1 := 220, rw := 0x800033FF }
  | .supPinownr => { base := 0x6000001370, s1 := 4, n1 := 36 }
  | .clkXadly => { base := 0x6000010000, reset := 0x1000, rw := 0x1FFFF, keep := .pewter }
  | .clkXbdly => { base := 0x6000010004, reset := 0x10800, rw := 0x1FFFF, keep := .pewter }
  | .clkMonstat => { base := 0x6000010010, w1c := 0x6F }
  | .clkPllctl => { base := 0x6000010020, s1 := 4, n1 := 4, reset := 0xFFFF0000, rw := 0xFFFF0002 }
  | .clkEpllfreq => { base := 0x6000010030, reset := 0x28, rw := 0x3F }
  | .timTbnsLo => { base := 0x6000020000, keep := .pewter }
  | .timTbnsHi => { base := 0x6000020004, keep := .pewter }
  | .timTbfrac => { base := 0x6000020008, keep := .pewter }
  | .timTbinc => { base := 0x6000020010, reset := 0x40000000, rw := 0xFFFFFFFF, keep := .pewter }
  | .timTbslew => { base := 0x6000020014, keep := .pewter }
  | .timTbstepLo => { base := 0x6000020018, keep := .pewter }
  | .timTbstepHi => { base := 0x600002001C, keep := .pewter }
  | .timTbstat => { base := 0x6000020020, reset := 2, w1c := 8, keep := .pewter }
  | .timTrigCtl => { base := 0x6000020040, s1 := 0x10, n1 := 2, rw := 3, w1c := 4, keep := .pewter }
  | .timTrigLo => { base := 0x6000020044, s1 := 0x10, n1 := 2, keep := .pewter }
  | .timTrigHi => { base := 0x6000020048, s1 := 0x10, n1 := 2, keep := .pewter }
  | .timTrigFrac => { base := 0x600002004C, s1 := 0x10, n1 := 2, keep := .pewter }
  | .timPpsCtl => { base := 0x6000020060, s1 := 4, n1 := 2, reset := 0x186A0000, rw := 0xFFFFF002, keep := .pewter }
  | .timTtCtl => { base := 0x6000021000, s1 := 0x20, n1 := 32, rw := 0x7F07, keep := .pewter }
  | .timTtCmpLo => { base := 0x6000021004, s1 := 0x20, n1 := 32, rw := 0xFFFFFFFF, keep := .pewter }
  | .timTtCmpHi => { base := 0x6000021008, s1 := 0x20, n1 := 32, rw := 0xFFFFFFFF, keep := .pewter }
  | .timTtPerS => { base := 0x600002100C, s1 := 0x20, n1 := 32, rw := 0xFFFFFFFF, keep := .pewter }
  | .timTtStat => { base := 0x6000021010, s1 := 0x20, n1 := 32, w1c := 7, keep := .pewter }
  | .timTtOwn => { base := 0x6000021014, s1 := 0x20, n1 := 32, rw := 0x800003FF, keep := .pewter }
  | .timTtPerA => { base := 0x6000021018, s1 := 0x20, n1 := 32, keep := .pewter }
  | .fabInfo => { base := 0x6000100000, reset := 0x1080320 }
  | .fabAlloymap => { base := 0x6000100004 }
  | .fabDegmap => { base := 0x6000100008 }
  | .fabSplitmap => { base := 0x600010000C }
  | .fabFaultmap => { base := 0x6000100010 }
  | .fabRetmap => { base := 0x6000100014 }
  | .fabHaltmap => { base := 0x6000100018 }
  | .fabLanecfg => { base := 0x6000100020, reset := 0x1803, rw := 0xFFFF0F }
  | .fabInj => { base := 0x6000100030 }
  | .fabTctlS => { base := 0x6000101000, s1 := 0x40, n1 := 32, rw := 7 }
  | .fabTctlA => { base := 0x6000101004, s1 := 0x40, n1 := 32 }
  | .fabTstat => { base := 0x6000101008, s1 := 0x40, n1 := 32 }
  | .fabTev => { base := 0x600010100C, s1 := 0x40, n1 := 32, w1c := 0x1F }
  | .fabTodd => { base := 0x6000101010, s1 := 0x40, n1 := 32, rw := 0xFFFFFF, keep := .warm }
  | .fabTlastLo => { base := 0x6000101014, s1 := 0x40, n1 := 32 }
  | .fabTlastHi => { base := 0x6000101018, s1 := 0x40, n1 := 32 }
  | .fabTdbg => { base := 0x600010101C, s1 := 0x40, n1 := 32, rw := 0x31 }
  | .fabTrsyn => { base := 0x6000101020, s1 := 0x40, n1 := 32, rw := 0xFFFFFFFF, keep := .warm }
  | .schCtl => { base := 0x6000200000, rw := 1 }
  | .schStat => { base := 0x6000200004, w1c := 7 }
  | .schCap => { base := 0x6000200008 }
  | .schUses => { base := 0x600020000C }
  | .schUset => { base := 0x6000200010 }
  | .schPcmd => { base := 0x6000200014 }
  | .schForceind => { base := 0x6000200018, rw := 0x8000003F }
  | .schForcestat => { base := 0x600020001C }
  | .schSvcpend => { base := 0x6000200030 }
  | .schSvcreq => { base := 0x6000200040, s1 := 4, n1 := 8 }
  | .schRplsel => { base := 0x6000200060, rw := 0x303FF }
  | .schRplgo => { base := 0x6000200064 }
  | .schRpl0 => { base := 0x6000200070, rw := 0xFFFFFFFF }
  | .schRpl1 => { base := 0x6000200074, rw := 0xFF }
  | .schRpl => { base := 0x6000200078, s1 := 4, n1 := 6, rw := 0xFFFFFFFF }
  | .schRg => { base := 0x6000200100, s1 := 4, n1 := 16, rw := 0x8000001F }
  | .schRgCnt => { base := 0x6000200140, s1 := 4, n1 := 16 }
  | .schPdCtlS => { base := 0x6000210000, s1 := 0x40, n1 := 1024, rw := 0xFFFFFF00, aoff := 0x10000 }
  | .schPdRelS => { base := 0x6000210004, s1 := 0x40, n1 := 1024, rw := 0xFFF, aoff := 0x10000 }
  | .schPdBudgetS => { base := 0x6000210008, s1 := 0x40, n1 := 1024, rw := 0xFFFFFFFF, aoff := 0x10000 }
  | .schPdEntryS => { base := 0x600021000C, s1 := 0x40, n1 := 1024, rw := 0xFFFFFFFF, aoff := 0x10000 }
  | .schPdVecS => { base := 0x6000210010, s1 := 0x40, n1 := 1024, rw := 0xFFFFFFFF, aoff := 0x10000 }
  | .schPdAreaS => { base := 0x6000210014, s1 := 0x40, n1 := 1024, rw := 0xFFFFFFF, aoff := 0x10000 }
  | .schPdSizeS => { base := 0x6000210018, s1 := 0x40, n1 := 1024, rw := 0xFFFFFF, aoff := 0x10000 }
  | .schPdTrapS => { base := 0x600021001C, s1 := 0x40, n1 := 1024, rw := 0xF8, aoff := 0x10000 }
  | .schPdStat => { base := 0x6000210020, s1 := 0x40, n1 := 1024 }
  | .schPdAdm => { base := 0x6000210024, s1 := 0x40, n1 := 1024 }
  | .schPdLastdur => { base := 0x6000210028, s1 := 0x40, n1 := 1024 }
  | .schPdMaxdur => { base := 0x600021002C, s1 := 0x40, n1 := 1024, rw := 0xFFFFFFFF }
  | .schPdMiss => { base := 0x6000210030, s1 := 0x40, n1 := 1024, rw := 0xFFFFFFFF, keep := .warm }
  | .schPdRsv => { base := 0x6000210034, s1 := 0x40, n1 := 1024, s2 := 4, n2 := 3 }
  | .schFrcS => { base := 0x6000230000, s1 := 0x10, n1 := 256, rw := 0xC00003FF, aoff := 0x1000 }
  | .schFrcOfsS => { base := 0x6000230004, s1 := 0x10, n1 := 256, rw := 0xFFFF, aoff := 0x1000 }
  | .schFrcValS => { base := 0x6000230008, s1 := 0x10, n1 := 256, rw := 0xFFFF, aoff := 0x1000 }
  | .schFrcRsv => { base := 0x600023000C, s1 := 0x10, n1 := 256 }
  | .memInfo => { base := 0x6000300000, reset := 0x1101040 }
  | .memEccstat => { base := 0x6000300004, w1c := 0xF }
  | .memCecnt => { base := 0x6000300008, rw := 0xFFFFFFFF, keep := .warm }
  | .memUeaddrLo => { base := 0x600030000C }
  | .memUeaddrHi => { base := 0x6000300010 }
  | .memScrub => { base := 0x6000300014, reset := 0x180101, rw := 0xFFFF01 }
  | .memRtsel => { base := 0x6000300018, rw := 0x3FF }
  | .memRgnVbaseS => { base := 0x6000301000, s1 := 0x10, n1 := 16, rw := 0xFFFFF000, aoff := 0x100 }
  | .memRgnSizeS => { base := 0x6000301004, s1 := 0x10, n1 := 16, rw := 0xFFFFF, aoff := 0x100 }
  | .memRgnPbaseS => { base := 0x6000301008, s1 := 0x10, n1 := 16, rw := 0xFFFFFFF, aoff := 0x100 }
  | .memRgnAttrS => { base := 0x600030100C, s1 := 0x10, n1 := 16, rw := 0x8000001E, aoff := 0x100 }
  | .arbHoldu => { base := 0x6000310000, reset := 0x50, rw := 0xFFFF }
  | .arbHoldn => { base := 0x6000310004, reset := 0x50, rw := 0xFFFF }
  | .arbHoldb => { base := 0x6000310008, reset := 0x50, rw := 0xFFFF }
  | .arbAge => { base := 0x600031000C, reset := 0x3E8, rw := 0xFFFF }
  | .arbStat => { base := 0x6000310010, w1c := 3 }
  | .arbCutcnt => { base := 0x6000310014, rw := 0xFFFFFFFF, keep := .warm }
  | .arbPromocnt => { base := 0x6000310018, rw := 0xFFFFFFFF, keep := .warm }
  | .arbLastcut => { base := 0x600031001C }
  | .sheInfo => { base := 0x6000400000, reset := 0x1201048 }
  | .sheStat => { base := 0x6000400004, w1c := 7 }
  | .sheSubmitAddr => { base := 0x6000400010 }
  | .sheSubmit => { base := 0x6000400014 }
  | .sheQdepth => { base := 0x6000400018 }
  | .sheEnvlast => { base := 0x6000400020 }
  | .sheEnvcnt => { base := 0x6000400024, rw := 0xFFFFFFFF, keep := .warm }
  | .sheEnvver => { base := 0x6000400028, reset := 0x11 }
  | .sheKsCtl => { base := 0x6000401000, s1 := 0x40, n1 := 32, rw := 0x430003FF }
  | .sheKsStat => { base := 0x6000401004, s1 := 0x40, n1 := 32 }
  | .sheKsKey => { base := 0x6000401020, s1 := 0x40, n1 := 32, s2 := 4, n2 := 8 }
  | .ethInfo => { base := 0x6000500000, reset := 0x10E0F08 }
  | .ethCtlS => { base := 0x6000500004, reset := 2, rw := 3, aoff := 0x8000 }
  | .ethAgeS => { base := 0x6000500008, reset := 0x12C, rw := 0xFFFF, aoff := 0x8000 }
  | .ethPcpmapS => { base := 0x600050000C, reset := 0xFAC688, rw := 0xFFFFFF, aoff := 0x8000 }
  | .ethPtpctlS => { base := 0x6000500010, rw := 0xF, aoff := 0x8000 }
  | .ethPtpchS => { base := 0x6000500014, rw := 0x800003FF, aoff := 0x8000 }
  | .ethStat => { base := 0x6000500018, w1c := 0xF }
  | .ethQlimS => { base := 0x600050001C, reset := 0x40000, rw := 0xFFFFFFFF, aoff := 0x8000 }
  | .ethVidsel => { base := 0x6000500020, rw := 0xFFF }
  | .ethVmemS => { base := 0x6000500024, rw := 0x80007FFF, aoff := 0x8000 }
  | .ethVuntS => { base := 0x6000500028, rw := 0x3FFF, aoff := 0x8000 }
  | .ethVownS => { base := 0x600050002C, rw := 0x800003FF, aoff := 0x8000 }
  | .ethChkdaLoS => { base := 0x6000500030, rw := 0xFFFFFFFF, aoff := 0x8000 }
  | .ethChkdaHiS => { base := 0x6000500034, rw := 0xFFFF, aoff := 0x8000 }
  | .ethPcfgS => { base := 0x6000501000, s1 := 0x100, n1 := 14, reset := 0x40000001, rw := 0xFF000FFF, aoff := 0x8000 }
  | .ethPstat => { base := 0x6000501004, s1 := 0x100, n1 := 14 }
  | .ethPrxtrimS => { base := 0x6000501008, s1 := 0x100, n1 := 14, rw := 0xFFFF, aoff := 0x8000 }
  | .ethPtxtrimS => { base := 0x600050100C, s1 := 0x100, n1 := 14, rw := 0xFFFF, aoff := 0x8000 }
  | .ethPldly => { base := 0x6000501010, s1 := 0x100, n1 := 14, rw := 0xFFFFFF }
  | .ethPstormS => { base := 0x6000501014, s1 := 0x100, n1 := 14, rw := 0xFFFF, aoff := 0x8000 }
  | .ethPqshpS => { base := 0x6000501020, s1 := 0x100, n1 := 14, s2 := 4, n2 := 8, rw := 0xFFF0FFFF, aoff := 0x8000 }
  | .ethPcnt => { base := 0x6000501040, s1 := 0x100, n1 := 14, s2 := 4, n2 := 8, rw := 0xFFFFFFFF }
  | .ethPrCfgS => { base := 0x6000505000, s1 := 0x20, n1 := 7, rw := 0x80000FF1, aoff := 0x8000 }
  | .ethPrTimS => { base := 0x6000505004, s1 := 0x20, n1 := 7, reset := 0xA0A030A, rw := 0xFFFF0FFF, aoff := 0x8000 }
  | .ethPrSwapS => { base := 0x6000505008, s1 := 0x20, n1 := 7, rw := 0xFFFF, aoff := 0x8000 }
  | .ethPrStat => { base := 0x600050500C, s1 := 0x20, n1 := 7 }
  | .ethPrCmd => { base := 0x6000505010, s1 := 0x20, n1 := 7 }
  | .ethPrCnt => { base := 0x6000505014, s1 := 0x20, n1 := 7, rw := 0xFFFFFFFF }
  | .ethChCtlS => { base := 0x6000510000, s1 := 0x20, n1 := 1024, rw := 0xE0000F0F, aoff := 0x8000 }
  | .ethChRxbaseS => { base := 0x6000510004, s1 := 0x20, n1 := 1024, rw := 0xFFFFFFFF, aoff := 0x8000 }
  | .ethChTxbaseS => { base := 0x6000510008, s1 := 0x20, n1 := 1024, rw := 0xFFFFFFFF, aoff := 0x8000 }
  | .ethChMacLoS => { base := 0x600051000C, s1 := 0x20, n1 := 1024, rw := 0xFFFFFFFF, aoff := 0x8000 }
  | .ethChMacHiS => { base := 0x6000510010, s1 := 0x20, n1 := 1024, rw := 0xFFFF, aoff := 0x8000 }
  | .ethChStat => { base := 0x6000510014, s1 := 0x20, n1 := 1024 }
  | .ethRxhead => { base := 0x6000520000 }
  | .ethRxtail => { base := 0x6000520004, rw := 0xFFFFFFFF }
  | .ethTxtail => { base := 0x6000520008, rw := 0xFFFFFFFF }
  | .ethTxhead => { base := 0x600052000C }
  | .stnInfo => { base := 0x6000600000, reset := 0x110020C }
  | .stnCtlS => { base := 0x6000600004, rw := 0x9F3F1F10, aoff := 0x8000 }
  | .stnCycS => { base := 0x6000600008, reset := 0xF4240, rw := 0xFFFFFFFF, aoff := 0x8000 }
  | .stnStat => { base := 0x600060000C, w1c := 0x1FF }
  | .stnRingstat => { base := 0x6000600010 }
  | .stnTswap => { base := 0x6000600014, rw := 0xFFFFFFFF }
  | .stnTarm => { base := 0x6000600018 }
  | .stnTstat => { base := 0x600060001C }
  | .stnTcfgidS => { base := 0x6000600020, rw := 0xFFFF, aoff := 0x8000 }
  | .stnVer => { base := 0x6000600024, reset := 0x1100 }
  | .stnCycnt => { base := 0x6000600028 }
  | .stnCnt => { base := 0x6000600040, s1 := 4, n1 := 8, rw := 0xFFFFFFFF }
  | .stnRpCtlS => { base := 0x6000600100, s1 := 0x40, n1 := 2, rw := 0x80000000, aoff := 0x8000 }
  | .stnRpStat => { base := 0x6000600104, s1 := 0x40, n1 := 2 }
  | .stnRpCmd => { base := 0x6000600108, s1 := 0x40, n1 := 2 }
  | .stnRpCnt => { base := 0x600060010C, s1 := 0x40, n1 := 2, rw := 0xFFFFFFFF }
  | .stnSpCtlS => { base := 0x6000601000, s1 := 0x40, n1 := 16, rw := 0x8000000F, aoff := 0x8000 }
  | .stnSpStat => { base := 0x6000601004, s1 := 0x40, n1 := 16 }
  | .stnSpCmd => { base := 0x6000601008, s1 := 0x40, n1 := 16 }
  | .stnSpCnt => { base := 0x600060100C, s1 := 0x40, n1 := 16, rw := 0xFFFFFFFF }
  | .stnSlStartS => { base := 0x6000610000, s1 := 0x10, n1 := 4096, rw := 0xFFFFFF, aoff := 0x10000 }
  | .stnSlDurS => { base := 0x6000610004, s1 := 0x10, n1 := 4096, rw := 0xFFFFFFFF, aoff := 0x10000 }
  | .stnSlSrcS => { base := 0x6000610008, s1 := 0x10, n1 := 4096, rw := 0xDF1F1FFF, aoff := 0x10000 }
  | .stnSlMapS => { base := 0x600061000C, s1 := 0x10, n1 := 4096, rw := 0xFFFFFFFF, aoff := 0x10000 }
  | .canInfo => { base := 0x6000700000, s1 := 0x1000, n1 := 20, reset := 0x1201040 }
  | .canCtlS => { base := 0x6000700004, s1 := 0x1000, n1 := 20, reset := 0x1C070000, rw := 0xFFC70000, aoff := 0x400 }
  | .canNbtS => { base := 0x6000700008, s1 := 0x1000, n1 := 20, reset := 0x3EFC7C00, rw := 0xFFFFFFE0, aoff := 0x400 }
  | .canDbtS => { base := 0x600070000C, s1 := 0x1000, n1 := 20, reset := 0x10371800, rw := 0xFFFFFFC0, aoff := 0x400 }
  | .canRamS => { base := 0x6000700010, s1 := 0x1000, n1 := 20, reset := 0x404010, rw := 0x1FFFFFF, aoff := 0x400 }
  | .canOwn => { base := 0x6000700014, s1 := 0x1000, n1 := 20, rw := 0x800003FF }
  | .canStat => { base := 0x6000700018, s1 := 0x1000, n1 := 20, w1c := 0x7F }
  | .canErr => { base := 0x600070001C, s1 := 0x1000, n1 := 20 }
  | .canSdtimeS => { base := 0x6000700020, s1 := 0x1000, n1 := 20, reset := 0x14, rw := 0xFFFF, aoff := 0x400 }
  | .canBocfgS => { base := 0x6000700024, s1 := 0x1000, n1 := 20, reset := 0xA04, rw := 0xFF0F, aoff := 0x400 }
  | .canClash => { base := 0x6000700028, s1 := 0x1000, n1 := 20 }
  | .canClashpos => { base := 0x600070002C, s1 := 0x1000, n1 := 20 }
  | .canArdstat => { base := 0x6000700030, s1 := 0x1000, n1 := 20 }
  | .canArddwell => { base := 0x6000700034, s1 := 0x1000, n1 := 20, reset := 0x64, rw := 0xFFFF }
  | .canCmd => { base := 0x6000700038, s1 := 0x1000, n1 := 20 }
  | .canTxstat => { base := 0x600070003C, s1 := 0x1000, n1 := 20 }
  | .canCnt => { base := 0x6000700040, s1 := 0x1000, n1 := 20, s2 := 4, n2 := 8, rw := 0xFFFFFFFF }
  | .canArdNbt => { base := 0x6000700080, s1 := 0x1000, n1 := 20, s2 := 8, n2 := 16, rw := 0xFFFFFFF0 }
  | .canArdDbt => { base := 0x6000700084, s1 := 0x1000, n1 := 20, s2 := 8, n2 := 16, rw := 0xFFFFFFC0 }
  | .canRxget => { base := 0x6000700100, s1 := 0x1000, n1 := 20, rw := 0xFF }
  | .canRxput => { base := 0x6000700104, s1 := 0x1000, n1 := 20 }
  | .canTxput => { base := 0x6000700108, s1 := 0x1000, n1 := 20, rw := 0xFF }
  | .canTxhead => { base := 0x600070010C, s1 := 0x1000, n1 := 20 }
  | .canFltsel => { base := 0x6000700110, s1 := 0x1000, n1 := 20, rw := 0xFF }
  | .canFltId1S => { base := 0x6000700114, s1 := 0x1000, n1 := 20, rw := 0xFFFFFFFF, aoff := 0x400 }
  | .canFltId2S => { base := 0x6000700118, s1 := 0x1000, n1 := 20, rw := 0xDFFFFFFF, aoff := 0x400 }
  | .canRxwin => { base := 0x6000700800, s1 := 0x1000, n1 := 20, s2 := 4, n2 := 20 }
  | .canTxwin => { base := 0x6000700900, s1 := 0x1000, n1 := 20, s2 := 4, n2 := 20 }
  | .dioInfo => { base := 0x6000800000, reset := 0x1604008 }
  | .dioCtlS => { base := 0x6000800004, reset := 0xA0064, rw := 0xFF03FF, aoff := 0x8000 }
  | .dioStat => { base := 0x6000800008, w1c := 0xFF }
  | .dioWdg => { base := 0x600080000C, reset := 0x103 }
  | .dioTspop0 => { base := 0x6000800010 }
  | .dioTspop => { base := 0x6000800014, s1 := 4, n1 := 3 }
  | .dioTscnt => { base := 0x6000800020 }
  | .dioTpcfgS => { base := 0x6000800024, reset := 0xA01F4, rw := 0xFFFFFFFF, aoff := 0x8000 }
  | .dioDiack => { base := 0x6000800028 }
  | .dioSmapdi => { base := 0x6000800030, s1 := 4, n1 := 3 }
  | .dioSmapdo => { base := 0x6000800040, s1 := 4, n1 := 2 }
  | .dioDiCfgS => { base := 0x6000801000, s1 := 0x20, n1 := 96, rw := 0xFFFF3FFF, aoff := 0x8000 }
  | .dioDiMapS => { base := 0x6000801004, s1 := 0x20, n1 := 96, rw := 0x800003FF, aoff := 0x8000 }
  | .dioDiVposS => { base := 0x6000801008, s1 := 0x20, n1 := 96, rw := 0x7FFFF, aoff := 0x8000 }
  | .dioDiDposS => { base := 0x600080100C, s1 := 0x20, n1 := 96, rw := 0x8007FFFF, aoff := 0x8000 }
  | .dioDiSposS => { base := 0x6000801010, s1 := 0x20, n1 := 96, rw := 0x8000FFFF, aoff := 0x8000 }
  | .dioDiStat => { base := 0x6000801014, s1 := 0x20, n1 := 96 }
  | .dioDoCfgS => { base := 0x6000803000, s1 := 0x20, n1 := 64, reset := 0x2002, rw := 0xFFFFE07F, aoff := 0x8000 }
  | .dioDoMapS => { base := 0x6000803004, s1 := 0x20, n1 := 64, rw := 0x800003FF, aoff := 0x8000 }
  | .dioDoVposS => { base := 0x6000803008, s1 := 0x20, n1 := 64, rw := 0x7FFFF, aoff := 0x8000 }
  | .dioDoDposS => { base := 0x600080300C, s1 := 0x20, n1 := 64, rw := 0x8007FFFF, aoff := 0x8000 }
  | .dioDoPulseS => { base := 0x6000803010, s1 := 0x20, n1 := 64, rw := 0xFFFF, aoff := 0x8000 }
  | .dioDoStat => { base := 0x6000803014, s1 := 0x20, n1 := 64 }
  | .dioGstat => { base := 0x6000805000, s1 := 0x10, n1 := 8 }
  | .alpInfo => { base := 0x6000900000, reset := 0x1201020 }
  | .alpStat => { base := 0x6000900008, w1c := 0xFF }
  | .alpTrimcfgS => { base := 0x600090000C, rw := 0x9F007F7F, aoff := 0x8000 }
  | .alpTrimstat => { base := 0x6000900010 }
  | .alpSmap => { base := 0x6000900014 }
  | .alpVloop => { base := 0x6000900018 }
  | .alpCCfgS => { base := 0x6000901000, s1 := 0x40, n1 := 32, rw := 0xFFF00000, aoff := 0x8000 }
  | .alpCMapS => { base := 0x6000901004, s1 := 0x40, n1 := 32, rw := 0x800003FF, aoff := 0x8000 }
  | .alpCVposS => { base := 0x6000901008, s1 := 0x40, n1 := 32, rw := 0xFFFF, aoff := 0x8000 }
  | .alpCDposS => { base := 0x600090100C, s1 := 0x40, n1 := 32, rw := 0x8007FFFF, aoff := 0x8000 }
  | .alpCRbposS => { base := 0x6000901010, s1 := 0x40, n1 := 32, rw := 0x8000FFFF, aoff := 0x8000 }
  | .alpCRburS => { base := 0x6000901014, s1 := 0x40, n1 := 32, reset := 0x9C4, rw := 0xFFF, aoff := 0x8000 }
  | .alpCZeroS => { base := 0x6000901018, s1 := 0x40, n1 := 32, rw := 0xFFFF, keep := .warm, aoff := 0x8000 }
  | .alpCGainS => { base := 0x600090101C, s1 := 0x40, n1 := 32, reset := 0x10000, rw := 0x1FFFF, keep := .warm, aoff := 0x8000 }
  | .alpCLimS => { base := 0x6000901020, s1 := 0x40, n1 := 32, reset := 0xA4101C20, rw := 0xFFFFFFFF, aoff := 0x8000 }
  | .alpCSafeS => { base := 0x6000901024, s1 := 0x40, n1 := 32, rw := 0xFFFF, aoff := 0x8000 }
  | .alpCStat => { base := 0x6000901028, s1 := 0x40, n1 := 32 }
  | .alpCRaw => { base := 0x600090102C, s1 := 0x40, n1 := 32 }
  | .alpHTxaddr => { base := 0x6000904000, s1 := 0x20, n1 := 32, rw := 0xFFFFFFFF }
  | .alpHTxlen => { base := 0x6000904004, s1 := 0x20, n1 := 32, rw := 0x1FF }
  | .alpHRxaddr => { base := 0x6000904008, s1 := 0x20, n1 := 32, rw := 0xFFFFFFFF }
  | .alpHRxmax => { base := 0x600090400C, s1 := 0x20, n1 := 32, rw := 0x1FF }
  | .alpHCtl => { base := 0x6000904010, s1 := 0x20, n1 := 32, reset := 0x190, rw := 0x4000FFFF }
  | .alpHStat => { base := 0x6000904014, s1 := 0x20, n1 := 32 }
  | .alpHTsLo => { base := 0x6000904018, s1 := 0x20, n1 := 32 }
  | .alpHTsHi => { base := 0x600090401C, s1 := 0x20, n1 := 32 }
  | .stoInfo => { base := 0x6000A00000, reset := 0x1040400 }
  | .stoCtl => { base := 0x6000A00004, reset := 0x8064000A, rw := 0x8FFF03FF }
  | .stoWorkbase => { base := 0x6000A00008, reset := 0x4003FBC, rw := 0xFFFFFFF, keep := .warm }
  | .stoVcmd => { base := 0x6000A0000C }
  | .stoVstat => { base := 0x6000A00010 }
  | .stoVolidLo => { base := 0x6000A00014 }
  | .stoVolidHi => { base := 0x6000A00018 }
  | .stoEndLo => { base := 0x6000A0001C }
  | .stoEndHi => { base := 0x6000A00020 }
  | .stoStat => { base := 0x6000A00024, w1c := 0xF }
  | .stoDirty => { base := 0x6000A00028 }
  | .stoPostAddr => { base := 0x6000A00030 }
  | .stoPost => { base := 0x6000A00034 }
  | .stoPostseq => { base := 0x6000A00038, s1 := 4, n1 := 2 }
  | .stoRdAddr => { base := 0x6000A00040 }
  | .stoRd => { base := 0x6000A00044 }
  | .stoLCtl => { base := 0x6000A01000, s1 := 0x100, n1 := 4, reset := 0x80000000, rw := 0x80000000 }
  | .stoLStat => { base := 0x6000A01004, s1 := 0x100, n1 := 4 }
  | .stoLCap => { base := 0x6000A01008, s1 := 0x100, n1 := 4, s2 := 4, n2 := 2 }
  | .stoLWlat => { base := 0x6000A01010, s1 := 0x100, n1 := 4, rw := 0xFFFFFFFF }
  | .stoLCnt => { base := 0x6000A01014, s1 := 0x100, n1 := 4, s2 := 4, n2 := 4, rw := 0xFFFFFFFF }
  | .stoSCtl => { base := 0x6000A10000, s1 := 0x20, n1 := 1024, reset := 0x40000000, rw := 0xC0FFFFFF }
  | .stoSStat => { base := 0x6000A10004, s1 := 0x20, n1 := 1024 }
  | .stoSSeq => { base := 0x6000A10008, s1 := 0x20, n1 := 1024, s2 := 4, n2 := 2 }
  | .stoSLast => { base := 0x6000A10010, s1 := 0x20, n1 := 1024, s2 := 4, n2 := 2, reset := 0xFFFFFFFF }
  | .stoSRef => { base := 0x6000A10018, s1 := 0x20, n1 := 1024, s2 := 4, n2 := 2 }
  | .brbInfo => { base := 0x6000B00000, reset := 0x1082008 }
  | .brbCtl => { base := 0x6000B00004, reset := 0x1400, rw := 0x8000FF00 }
  | .brbStat => { base := 0x6000B00008, w1c := 0x1F }
  | .brbLasterr => { base := 0x6000B0000C }
  | .brbLasterrp => { base := 0x6000B00010 }
  | .brbQstat => { base := 0x6000B00014 }
  | .brbSemstat => { base := 0x6000B00018 }
  | .brbSem => { base := 0x6000B00020, s1 := 4, n1 := 8 }
  | .brbSlotOwn => { base := 0x6000B00040, s1 := 4, n1 := 8, rw := 0x800003FF }
  | .brbIrqCtlS => { base := 0x6000B00080, s1 := 0x10, n1 := 8, rw := 0xC007FFFF, aoff := 0x8000 }
  | .brbIrqTsLo => { base := 0x6000B00084, s1 := 0x10, n1 := 8 }
  | .brbIrqTsHi => { base := 0x6000B00088, s1 := 0x10, n1 := 8 }
  | .brbIrqStat => { base := 0x6000B0008C, s1 := 0x10, n1 := 8, w1c := 0x40000000 }
  | .secInfo => { base := 0x6000C00000, reset := 0x1040320 }
  | .secFstat => { base := 0x6000C00004 }
  | .secFprog => { base := 0x6000C00008 }
  | .secFpdata => { base := 0x6000C0000C, rw := 0xFFFFFFFF }
  | .secFrsel => { base := 0x6000C00010, rw := 0x7F }
  | .secFread => { base := 0x6000C00014 }
  | .secKload => { base := 0x6000C00020 }
  | .secKladdr => { base := 0x6000C00024, rw := 0xFFFFFFFF }
  | .secKlstat => { base := 0x6000C00028 }
  | .secUcmd => { base := 0x6000C00040 }
  | .secUarg => { base := 0x6000C00044, rw := 0x33FFFFFF }
  | .secUaddr => { base := 0x6000C00048, rw := 0xFFFFFFFF }
  | .secUstat => { base := 0x6000C0004C, reset := 0xFFF0000 }
  | .secUmiss => { base := 0x6000C00050 }
  | .secActt => { base := 0x6000C00054, s1 := 4, n1 := 2, rw := 0xFFFFFFFF }
  | .secConfto => { base := 0x6000C0005C, reset := 0x258, rw := 0xFFFF }
  | .secCstat => { base := 0x6000C00060, s1 := 4, n1 := 4 }
  | .secSvn => { base := 0x6000C00070, s1 := 4, n1 := 4 }

/-- The registers of SUP. -/
def regsSup : List Reg :=
  [.supPwrstat, .supPstate, .supWakeen, .supWakesrc, .supRstcause, .supRstctl, .supAlmstat, .supAlmflt, .supAlmtLo,
   .supAlmtHi, .supTemp, .supTlim, .supFwdg, .supFwdgcnt, .supDbgstat, .supFatal, .supMntCtl, .supMntRxbase,
   .supMntTxbase, .supMntMacLo, .supMntMacHi, .supMntRxhead, .supMntRxtail, .supMntTxtail, .supMntTxhead,
   .supMntMdio, .supUdata, .supUstat, .supPinown, .supPinownr]

/-- The registers of CLK. -/
def regsClk : List Reg :=
  [.clkXadly, .clkXbdly, .clkMonstat, .clkPllctl, .clkEpllfreq]

/-- The registers of TIM. -/
def regsTim : List Reg :=
  [.timTbnsLo, .timTbnsHi, .timTbfrac, .timTbinc, .timTbslew, .timTbstepLo, .timTbstepHi, .timTbstat, .timTrigCtl,
   .timTrigLo, .timTrigHi, .timTrigFrac, .timPpsCtl, .timTtCtl, .timTtCmpLo, .timTtCmpHi, .timTtPerS, .timTtStat,
   .timTtOwn, .timTtPerA]

/-- The registers of FAB. -/
def regsFab : List Reg :=
  [.fabInfo, .fabAlloymap, .fabDegmap, .fabSplitmap, .fabFaultmap, .fabRetmap, .fabHaltmap, .fabLanecfg, .fabInj,
   .fabTctlS, .fabTctlA, .fabTstat, .fabTev, .fabTodd, .fabTlastLo, .fabTlastHi, .fabTdbg, .fabTrsyn]

/-- The registers of SCH. -/
def regsSch : List Reg :=
  [.schCtl, .schStat, .schCap, .schUses, .schUset, .schPcmd, .schForceind, .schForcestat, .schSvcpend, .schSvcreq,
   .schRplsel, .schRplgo, .schRpl0, .schRpl1, .schRpl, .schRg, .schRgCnt, .schPdCtlS, .schPdRelS, .schPdBudgetS,
   .schPdEntryS, .schPdVecS, .schPdAreaS, .schPdSizeS, .schPdTrapS, .schPdStat, .schPdAdm, .schPdLastdur,
   .schPdMaxdur, .schPdMiss, .schPdRsv, .schFrcS, .schFrcOfsS, .schFrcValS, .schFrcRsv]

/-- The registers of MEM. -/
def regsMem : List Reg :=
  [.memInfo, .memEccstat, .memCecnt, .memUeaddrLo, .memUeaddrHi, .memScrub, .memRtsel, .memRgnVbaseS, .memRgnSizeS,
   .memRgnPbaseS, .memRgnAttrS]

/-- The registers of ARB. -/
def regsArb : List Reg :=
  [.arbHoldu, .arbHoldn, .arbHoldb, .arbAge, .arbStat, .arbCutcnt, .arbPromocnt, .arbLastcut]

/-- The registers of SHE. -/
def regsShe : List Reg :=
  [.sheInfo, .sheStat, .sheSubmitAddr, .sheSubmit, .sheQdepth, .sheEnvlast, .sheEnvcnt, .sheEnvver, .sheKsCtl,
   .sheKsStat, .sheKsKey]

/-- The registers of ETH. -/
def regsEth : List Reg :=
  [.ethInfo, .ethCtlS, .ethAgeS, .ethPcpmapS, .ethPtpctlS, .ethPtpchS, .ethStat, .ethQlimS, .ethVidsel, .ethVmemS,
   .ethVuntS, .ethVownS, .ethChkdaLoS, .ethChkdaHiS, .ethPcfgS, .ethPstat, .ethPrxtrimS, .ethPtxtrimS, .ethPldly,
   .ethPstormS, .ethPqshpS, .ethPcnt, .ethPrCfgS, .ethPrTimS, .ethPrSwapS, .ethPrStat, .ethPrCmd, .ethPrCnt,
   .ethChCtlS, .ethChRxbaseS, .ethChTxbaseS, .ethChMacLoS, .ethChMacHiS, .ethChStat, .ethRxhead, .ethRxtail,
   .ethTxtail, .ethTxhead]

/-- The registers of STN. -/
def regsStn : List Reg :=
  [.stnInfo, .stnCtlS, .stnCycS, .stnStat, .stnRingstat, .stnTswap, .stnTarm, .stnTstat, .stnTcfgidS, .stnVer,
   .stnCycnt, .stnCnt, .stnRpCtlS, .stnRpStat, .stnRpCmd, .stnRpCnt, .stnSpCtlS, .stnSpStat, .stnSpCmd, .stnSpCnt,
   .stnSlStartS, .stnSlDurS, .stnSlSrcS, .stnSlMapS]

/-- The registers of CAN. -/
def regsCan : List Reg :=
  [.canInfo, .canCtlS, .canNbtS, .canDbtS, .canRamS, .canOwn, .canStat, .canErr, .canSdtimeS, .canBocfgS,
   .canClash, .canClashpos, .canArdstat, .canArddwell, .canCmd, .canTxstat, .canCnt, .canArdNbt, .canArdDbt,
   .canRxget, .canRxput, .canTxput, .canTxhead, .canFltsel, .canFltId1S, .canFltId2S, .canRxwin, .canTxwin]

/-- The registers of DIO. -/
def regsDio : List Reg :=
  [.dioInfo, .dioCtlS, .dioStat, .dioWdg, .dioTspop0, .dioTspop, .dioTscnt, .dioTpcfgS, .dioDiack, .dioSmapdi,
   .dioSmapdo, .dioDiCfgS, .dioDiMapS, .dioDiVposS, .dioDiDposS, .dioDiSposS, .dioDiStat, .dioDoCfgS, .dioDoMapS,
   .dioDoVposS, .dioDoDposS, .dioDoPulseS, .dioDoStat, .dioGstat]

/-- The registers of ALP. -/
def regsAlp : List Reg :=
  [.alpInfo, .alpStat, .alpTrimcfgS, .alpTrimstat, .alpSmap, .alpVloop, .alpCCfgS, .alpCMapS, .alpCVposS,
   .alpCDposS, .alpCRbposS, .alpCRburS, .alpCZeroS, .alpCGainS, .alpCLimS, .alpCSafeS, .alpCStat, .alpCRaw,
   .alpHTxaddr, .alpHTxlen, .alpHRxaddr, .alpHRxmax, .alpHCtl, .alpHStat, .alpHTsLo, .alpHTsHi]

/-- The registers of STO. -/
def regsSto : List Reg :=
  [.stoInfo, .stoCtl, .stoWorkbase, .stoVcmd, .stoVstat, .stoVolidLo, .stoVolidHi, .stoEndLo, .stoEndHi, .stoStat,
   .stoDirty, .stoPostAddr, .stoPost, .stoPostseq, .stoRdAddr, .stoRd, .stoLCtl, .stoLStat, .stoLCap, .stoLWlat,
   .stoLCnt, .stoSCtl, .stoSStat, .stoSSeq, .stoSLast, .stoSRef]

/-- The registers of BRB. -/
def regsBrb : List Reg :=
  [.brbInfo, .brbCtl, .brbStat, .brbLasterr, .brbLasterrp, .brbQstat, .brbSemstat, .brbSem, .brbSlotOwn,
   .brbIrqCtlS, .brbIrqTsLo, .brbIrqTsHi, .brbIrqStat]

/-- The registers of SEC. -/
def regsSec : List Reg :=
  [.secInfo, .secFstat, .secFprog, .secFpdata, .secFrsel, .secFread, .secKload, .secKladdr, .secKlstat, .secUcmd,
   .secUarg, .secUaddr, .secUstat, .secUmiss, .secActt, .secConfto, .secCstat, .secSvn]

end Sys2Proof.Machine
end

