-- ==== Sys2Proof/Machine/State.lean ====
section
/-!
DEFINITION. The machine's whole state as plain data, its faults and refusals, and the state after VPEW power-up.
Registers are a sparse file keyed by physical address (regs), every other piece of state is a named field.
-/

namespace Sys2Proof.Machine

/-- The response that the last access of a command gave its initiator: status and read data (00 R10). -/
structure Rsp where
  /-- Status of the last access. 00 R10. Reset OK. -/
  st : Status := .ok
  /-- Data of the last access. 00 R5. Reset 0. -/
  val : Word := 0
  deriving DecidableEq, Repr

/-- The levels of the control balls (01 R14). Inputs unless said otherwise. -/
structure Pins where
  /-- PORST_L level. 02 R26. Reset low (step 7 releases it). -/
  porst : Bool := false
  /-- WRST_L level. 02 R44. Reset high. -/
  wrst : Bool := true
  /-- PFAIL level. 02 R39. Reset low. -/
  pfail : Bool := false
  /-- VCA_PG level. 02 R39. Reset low. -/
  vcaPg : Bool := false
  /-- VCB_PG level. 02 R39. Reset low. -/
  vcbPg : Bool := false
  /-- TEST_EN level. 01 R15. Reset low (tied to GND). -/
  testEn : Bool := false
  /-- RSTOUT_L, an output. 02 R47. Reset low. -/
  rstout : Bool := false
  /-- BRST_L, an output. 16 R373. Reset low. -/
  brst : Bool := false
  deriving DecidableEq, Repr

/-- The three power states of 02 R35. -/
inductive PowerState where
  | run | doze | pewter
  deriving DecidableEq, Repr

/-- The resets of 02 R44 that reach more than one partition or the debug port. -/
inductive ResetKind where
  | powerUp | porst | brownOut | cold | warm
  deriving DecidableEq, Repr

/-- Where the boot sequence of 02 R48 stands. -/
inductive Boot where
  /-- Held in reset: no step has begun. -/
  | held
  /-- Step n of 1 to 7 is running. -/
  | step (n : Nat)
  /-- Step 8 is done: the foundry partition has been released. -/
  | released
  /-- The boot has stopped (02 R49) with its step and status. -/
  | stopped (n : Nat) (st : Status)
  deriving DecidableEq, Repr

/-- Supplies, power states, resets and boot (02). -/
structure Power where
  /-- VPEW is above its monitor threshold. 02 R424. Reset 1. -/
  vpewOk : Bool := true
  /-- The power-up reset is running. 02 R424. Reset 1. -/
  pwrup : Bool := true
  /-- The brown-out monitors are armed. 02 R34. Reset 0. -/
  armed : Bool := false
  /-- A brown-out holds the logic in reset. 02 R34. Reset 0. -/
  browned : Bool := false
  /-- VCORE group A switch closed. 02 R29, R39. Reset 0. -/
  vcaOn : Bool := false
  /-- VCORE group B switch closed. 02 R29, R39. Reset 0. -/
  vcbOn : Bool := false
  /-- The power state. 02 R35. Reset Run. -/
  state : PowerState := .run
  /-- The state that a running entry goes to. 02 R36. Reset none. -/
  entering : Option PowerState := none
  /-- Boot progress. 02 R48. Reset held. -/
  boot : Boot := .held
  /-- The device is in the fatal halt. 02 R46, 18 R413. Reset 0. -/
  fatal : Bool := false
  /-- The running boot keeps memory (warm reset). 02 R48 step 4. Reset 0. -/
  memKept : Bool := false
  /-- The running boot was started from pewter. 02 R38. Reset 0. -/
  fromPewter : Bool := false
  /-- SUP.PWRSTAT.PFLAT, in the pewter domain. 02 R39. Reset 0. -/
  pflat : Bool := false
  /-- Start of the power-fail timeline while a power-fail or cold-reset flush runs, TAI ns. 02 R32, R423. Reset none. -/
  flush : Option Nat := none
  /-- Class N releases are withheld. 02 R32. Reset 0. -/
  classNHeld : Bool := false
  /-- Update writes to storage are stopped. 02 R32. Reset 0. -/
  updHeld : Bool := false
  /-- PFAIL has risen in a reset, in doze or in pewter: its timeline starts when the device is out of it. 02 R423. Reset 0. -/
  pfailDue : Bool := false
  /-- The step at which the boot goes on once WRST_L rises. 02 R44. Reset none. -/
  wrstHold : Option Nat := none
  /-- A cold or warm reset that waits for a flush. 02 R45. Reset none. -/
  deferred : Option ResetKind := none
  deriving DecidableEq, Repr

/-- The fuse array (17 R383): each bit in two cells, and the shadow that every consumer reads. -/
structure Fuses where
  /-- First cells, 128 words of 32 bits. 17 R383. Reset: ID section locked, all else unprogrammed. -/
  cellA : Tab Word := [(0, 0x00010000), (1, 1), (52, 0xC514CFAD)]
  /-- Second cells. 17 R383. Reset as the first. -/
  cellB : Tab Word := [(0, 0x00010000), (1, 1), (52, 0xC514CFAD)]
  /-- The fuse shadow, 128 words. 17 R383. Reset: not loaded, 0. -/
  shadow : Tab Word := []
  /-- A programming operation: word and the bits to program. 17 R386. Reset none. -/
  prog : Option (Nat × Word) := none
  deriving DecidableEq, Repr

/-- Oscillators, PLLs and clock gates (03). -/
structure Clocks where
  /-- XA is enabled. 02 R48 step 2. Reset 0. -/
  xaOn : Bool := false
  /-- The XA start delay has expired. 03 R52. Reset 0. -/
  xaDelay : Bool := false
  /-- The XB start delay has expired: the XB monitor is applied. 03 R52. Reset 0. -/
  xbDelay : Bool := false
  /-- Consecutive passing XA windows, up to 4. 03 R52, R55. Reset 0. -/
  xaPass : Nat := 0
  /-- Consecutive failing XA windows. 03 R55. Reset 0. -/
  xaFail : Nat := 0
  /-- Consecutive passing XB windows, up to 4. 03 R52, R55. Reset 0. -/
  xbPass : Nat := 0
  /-- Consecutive failing XB windows. 03 R55. Reset 0. -/
  xbFail : Nat := 0
  /-- The pewter domain runs from XB, not SRC. 03 R51, R52. Reset 0. -/
  pewOnXb : Bool := false
  /-- PLLs whose domains run on FRC: EPLL 0, FPLL 1, NPLL 2, TPLL 3. 03 R55, R57. Reset 1111b. -/
  onFrc : BitVec 4 := 0b1111
  /-- PLLs that are locked. 03 R58. Reset 0. -/
  lock : BitVec 4 := 0
  /-- PLLs that are powered. 03 R58. Reset 0. -/
  on : BitVec 4 := 0
  /-- Domains whose gate a request holds open, in the order of the domain table. 03 R57, R51. Reset 0. -/
  gates : BitVec 7 := 0
  /-- MULT in force at EPLL (9/10 of it under fallback). 03 R55, R59. Reset 40. -/
  mult : Nat := 40
  /-- FPLL frequency in MHz. 03 R51, R55. Reset 800. -/
  fpllMhz : Nat := 800
  /-- Engines held while EPLL relocks after a MULT change. 03 R59. Reset 0. -/
  engHeld : Bool := false
  /-- FALLBK: the PLL references come from FRC. 03 R55, R56. Reset 0. -/
  fallback : Bool := false
  /-- Posted writes to pewter-domain registers that are still crossing, oldest first: address and value. 03 R61. Reset empty. -/
  pewQ : List (Nat × Word) := []
  deriving DecidableEq, Repr

/-- The device timebase, its replicas, and the PPS outputs (03). -/
structure TimeBase where
  /-- Nanoseconds, 64 bits. 03 R62. Reset 0. -/
  ns : Nat := 0
  /-- Fraction below the ns in units of 2^-28 ns (TBFRAC is its upper 16 bits). 03 R62, R65. Reset 0. -/
  frac : Nat := 0
  /-- Slew remainder in units of 2^-28 ns. 03 R65. Reset 0. -/
  slew : Int := 0
  /-- Held low half of a step. 03 R66. Reset 0. -/
  stepLo : Word := 0
  /-- A step in ns that the next tick applies. 03 R65. Reset none. -/
  stepPend : Option Int := none
  /-- Comparators that have neither fired nor been enabled since a step. 03 R68. Reset 0. -/
  stepped : BitVec 32 := 0
  /-- Comparators that the last tick fires and whose fire has not been taken. 03 R68, R72. Reset 0. -/
  hit : BitVec 32 := 0
  /-- Fires whose actions are still to be delivered: comparator, compare time and control word. 03 R72. Reset empty. -/
  owed : List (Nat × Nat × Word) := []
  /-- Deviation of each unit's replica from the master in ns, as last seen. 03 R63. Reset 0. -/
  replica : Tab Int := []
  /-- A pulse runs on PPS0. 03 R75. Reset 0. -/
  pps0 : Bool := false
  /-- A pulse runs on PPS1. 03 R75. Reset 0. -/
  pps1 : Bool := false
  deriving DecidableEq, Repr

/-- The triad states of 04 R77. -/
inductive TState where
  | alloy3 | alloy2 | resync | quiesce | handover | split | faulted | bist
  deriving DecidableEq, Repr

/-- Why a lane became odd (04 R104). -/
inductive OddCause where
  | none | diff | time | self
  deriving DecidableEq, Repr

/-- An output that a lane has presented to the voter, and the fabric cycle in which it did (04 R81). -/
structure Shown where
  lane : Lane
  cyc : Nat
  out : BusOut
  deriving DecidableEq, Repr

/-- An issued output whose third lane has not presented it: the cycle t2, the output, the lane, and the response that is
held for it (04 R80, R81). -/
structure Await where
  t2 : Nat
  out : BusOut
  lane : Lane
  rsp : Rsp
  deriving DecidableEq, Repr

/-- A triad (04). -/
structure Triad where
  /-- State. 04 R77. Reset ALLOY3. -/
  state : TState := .alloy3
  /-- The lane out of service. 04 R105. Reset none. -/
  odd : Option Lane := none
  /-- Cause of the last odd event. 04 R104. Reset none. -/
  cause : OddCause := .none
  /-- Retired lanes, bit 0 A. 04 R90, R104. Reset 000b. -/
  retired : BitVec 3 := 0
  /-- A resync is pending. 04 R104, R79. Reset 0. -/
  rsPend : Bool := false
  /-- RSDEFER has elapsed since the odd event. 04 R88. Reset 0. -/
  rsDue : Bool := false
  /-- Timebase ns at which the running resync began. 04 R88. Reset 0. -/
  rsStart : Nat := 0
  /-- The state that a withdrawn request returns to. 04 R92. Reset ALLOY3. -/
  before : TState := .alloy3
  /-- A hand-over is requested. 04 R93. Reset 0. -/
  req : Bool := false
  /-- The hand-over boundary has passed: TCTLn_A holds the requested MODE. 04 R78, R93. Reset 0. -/
  swapped : Bool := false
  /-- Odd events: lane and timebase ns, latest first. 04 R90. Reset empty. -/
  hist : List (Lane × Nat) := []
  /-- Outputs presented and not yet decided. 04 R81, R82. Reset empty. -/
  shown : List Shown := []
  /-- Agreed outputs whose third lane is still awaited, oldest first. 04 R80, R81. Reset empty. -/
  await : List Await := []
  /-- Outputs that an injection delays, with the cycle in which they are presented, oldest first. 04 R98. Reset empty. -/
  late : List Shown := []
  /-- The input last delivered to each lane: the response of an access. 04 R80. Reset OK, 0. -/
  got : Tab Rsp := []
  /-- Single-bit L2 errors that each lane has corrected. 04 R83. Reset 0. -/
  l2Corr : Tab Nat := []
  /-- Ingots written since reset, for the sequence number. 04 R87. Reset 0. -/
  ingots : Nat := 0
  /-- The last output issued into the fabric. 04 R81. Reset none. -/
  issued : Option BusOut := none
  /-- An armed injection: lane and kind. 04 R98. Reset none. -/
  inj : Option (Lane × BitVec 2) := none
  /-- Lanes (alloy: all) or engines halted for debug, bit 0 A. 04 R97, R106. Reset 000b. -/
  halted : BitVec 3 := 0
  /-- A halt request waits for the triad to leave RESYNC, BIST or HANDOVER. 04 R96. Reset 0. -/
  haltPend : Bool := false
  /-- Split engines stopped by an error, bit 0 A. 04 R94. Reset 000b. -/
  stopped : BitVec 3 := 0
  deriving DecidableEq, Repr

/-- An access that returned RETRY and waits to be re-issued (06 R154). -/
structure Retry where
  store : Bool
  /-- Destination or source register; a float register if float. -/
  reg : BitVec 5
  float : Bool
  signed : Bool
  sz : Size
  ea : Word
  deriving DecidableEq, Repr

/-- The architectural state of an executor (05 R107), its job and what it has cached. -/
structure Engine where
  /-- W0 to W31, 32 bits each. 05 R107. Reset 0. -/
  w : Tab Word := []
  /-- F0 to F15, 32 bits each. 05 R107. Reset 0. -/
  f : Tab Word := []
  /-- Logic accumulator. 05 R107. Reset 0. -/
  la : Bool := false
  /-- Nesting stack, top first, up to 16 entries of 4 bits. 05 R107, R114. Reset empty. -/
  nest : List (BitVec 4) := []
  /-- FL: Z N C V DZ from bit 0. 05 R107. Reset 0. -/
  fl : BitVec 5 := 0
  /-- PC. 05 R107. Reset 0. -/
  pc : Word := 0
  /-- Status word. 05 R108. Reset 0. -/
  sw : Word := 0
  /-- The partition whose job runs here. 07 R168. Reset none. -/
  job : Option Part := none
  /-- The job is the foundry's continuous job. 07 R176. Reset 0. -/
  cont : Bool := false
  /-- Timebase ns at the dispatch of the job. 07 R161. Reset 0. -/
  start : Nat := 0
  /-- Dirty bytes of private lines by physical address, not yet written back. 05 R136, 04 R76. Reset empty. -/
  dirty : List Host.Cell := []
  /-- Bytes of private lines that another unit has overwritten since the job began, as the engine's caches may hold them.
  04 R76, 08 R205. Reset empty. -/
  stale : List Host.Cell := []
  /-- The frame of the last exception entry: its physical address and the handler's. 05 R122, R124. Reset none. -/
  frame : Option (Nat × Word) := none
  /-- The access that waits to be re-issued. 06 R154. Reset none. -/
  retry : Option Retry := none
  deriving DecidableEq, Repr

/-- The partition states of 07 R160. -/
inductive PState where
  | off | wait | queued | run | stopped | shed | held
  deriving DecidableEq, Repr

/-- A service request in a partition's slot (05 R129, R130). -/
structure SvcReq where
  num : BitVec 12
  seq : Word
  /-- W1 to W6 as they stood. -/
  args : List Word
  /-- Order of placement over all partitions. -/
  ord : Nat
  deriving DecidableEq, Repr

/-- A service reply (05 R132). -/
structure Reply where
  seq : Word
  st : Byte
  words : List Word
  deriving DecidableEq, Repr

/-- The job information block (05 R128). -/
structure Jib where
  /-- Scheduled release time, TAI ns. 05 R128. Reset 0. -/
  rel : Nat := 0
  /-- Deadline, TAI ns. 05 R128. Reset 0. -/
  ddl : Nat := 0
  /-- Job count. 05 R128. Reset 0. -/
  count : Nat := 0
  /-- Word at 18h. 05 R128. Reset 0. -/
  info : Word := 0
  /-- Budget, ns. 05 R128. Reset 0. -/
  budget : Word := 0
  /-- Word at 20h. 05 R128. Reset 0. -/
  last : Word := 0
  deriving DecidableEq, Repr

/-- What the scheduler keeps of a partition beside its descriptor registers (07). -/
structure Partn where
  /-- State. 07 R160. Reset OFF. -/
  state : PState := .off
  /-- Job information block. 05 R128. Reset 0. -/
  jib : Jib := {}
  /-- Boundary B of the current job, TAI ns. 07 R166. Reset none. -/
  bnd : Option Nat := none
  /-- Job count of the next release. 05 R128. Reset 0. -/
  count : Nat := 0
  /-- The next release has FIRST = 1. 05 R128. Reset 1. -/
  first : Bool := true
  /-- LASTSTOP of the next release. 05 R128. Reset 0. -/
  lastStop : Bool := false
  /-- LASTEND. 07 R163. Reset 00h. -/
  lastEnd : Byte := 0
  /-- MISSRUN. 07 R163. Reset 0. -/
  missRun : Nat := 0
  /-- EXEC: executor of the current or last job, ENG and HOME. 07 R163. Reset 00h. -/
  exec : Byte := 0
  /-- STEAL. 07 R163. Reset 0. -/
  steal : Bool := false
  /-- The snapshot of the released job is being copied. 07 R167. Reset 0. -/
  snapping : Bool := false
  /-- A DI, Stolnet or other unit write held until the copy has passed. 07 R167. Reset empty. -/
  heldW : List Host.Cell := []
  /-- The current job has reported CYEND in time. 07 R171. Reset 0. -/
  done : Bool := false
  /-- The current job has ended, in whichever way. 07 R173. Reset 0. -/
  ended : Bool := false
  /-- The last job completed: OI work keeps its contents. 07 R171. Reset 0. -/
  lastDone : Bool := false
  /-- OI buffer Y is the committed one. 07 R164, R171. Reset 0. -/
  bufY : Bool := false
  /-- The committed pointer is at the OI safe block, where it stays until the first commit (DEDUCED log 165). 07 R174, R175.
  Reset 1. -/
  safe : Bool := true
  /-- The previous boundary passed without a commit under a triad fault. 07 R174. Reset 0. -/
  faultGap : Bool := false
  /-- A partition reset is running. 02 R44. Reset 0. -/
  resetting : Bool := false
  /-- A stop with AUTORST waits for the next release. 07 R175. Reset 0. -/
  autoRst : Bool := false
  /-- A home lost with its executor, to be replaced at the next boundary. 07 R184. Reset 0. -/
  rehome : Bool := false
  /-- PDn_CTL_A holds a new home in place of the lost one that the shadow still names. 07 R184. Reset 0. -/
  moved : Bool := false
  /-- Restarted, and its _S registers still to swap at the next fire of their group. 07 R161, R177. Reset 0. -/
  swapDue : Bool := false
  /-- Requests placed and not yet taken, at most 4. 05 R129. Reset empty. -/
  svc : List SvcReq := []
  /-- Next sequence number. 05 R129. Reset 1. -/
  svcSeq : Word := 1
  /-- Replies published and not yet shown, by slot. 05 R131. Reset empty. -/
  rpl : Tab Reply := []
  /-- Replies shown to the current job, by slot. 05 R132. Reset empty. -/
  shown : Tab Reply := []
  deriving DecidableEq, Repr

/-- The scheduler's own counters (07). -/
structure Sched where
  /-- Device-wide admission counter. 07 R161. Reset 0. -/
  adm : Nat := 0
  /-- Order of service requests. 05 R131. Reset 0. -/
  ord : Nat := 0
  /-- SCH.CTL.EN has been set since reset. 04 R104 QREQ. Reset 0. -/
  enabledOnce : Bool := false
  /-- The foundry's continuous job is to start when triad 0 is idle. 07 R187. Reset 0. -/
  contPend : Bool := false
  /-- Partitions due for release: group, partition, release time T. 07 R166. Reset empty. -/
  due : List (Nat × Part × Nat) := []
  deriving DecidableEq, Repr

/-- A transfer at an arbitration target (08 R198). -/
structure Transfer where
  req : Nat
  /-- 0 urgent, 1 normal, 2 background. -/
  band : Nat
  /-- Age: the fabric cycle of its presentation. -/
  ord : Nat
  beats : Nat
  pre : Nat
  part : Part
  deriving DecidableEq, Repr

/-- An arbitration target: its holder and the transfers that wait (08 R199). -/
structure Target where
  /-- The transfer that holds the target. 08 R199. Reset none. -/
  holder : Option Transfer := none
  /-- Transfers waiting. 08 R199. Reset empty. -/
  wait : List Transfer := []
  deriving DecidableEq, Repr

/-- The arbiter (08). -/
structure Arb where
  /-- Targets: 0-7 cycle-memory banks, 8-11 DRAM ports, 12 bridge, 13 registers. 08 R203. Reset idle. -/
  tgt : Tab Target := []
  /-- DRAM device corrections since the last alarm for them. 08 R195. Reset 0. -/
  devCorr : Nat := 0
  deriving DecidableEq, Repr

/-- A shared-engine job (08 R205 to R208). -/
structure SJob where
  tag : Nat
  part : Part
  kind : Nat
  slot : Nat
  flags : Nat
  len : Nat
  src : Word
  dst : Word
  par : Word
  desc : Word
  /-- 0 urgent, 1 normal. -/
  band : Nat
  pre : Nat
  /-- Engine that runs it. -/
  eng : Option Nat
  seg : Nat
  /-- Captured key and its type, none if the slot was empty. -/
  key : Option Nat
  keyType : Nat
  /-- Scheduled release of the submitting job, captured at submission (11 R279). -/
  rel : Nat
  /-- The work of the current segment is done. -/
  worked : Bool
  /-- Final status once decided. -/
  fin : Option Status
  result : Word
  /-- Chaining value of a CBC job: the last ciphertext block. -/
  chain : List Byte
  deriving DecidableEq, Repr

/-- The shared engines (08, 11). -/
structure Shared where
  /-- Jobs not yet ended, in submission order within their band. 08 R208. Reset empty. -/
  jobs : List SJob := []
  /-- Next job tag, 16 bits, never 0. 08 R205. Reset 1. -/
  tag : Nat := 1
  /-- Keys of the 32 slots, 256 bits, KEY0 least significant. 08 R209, R210. Reset empty. -/
  keys : Tab Nat := []
  deriving DecidableEq, Repr

/-- A frame in an egress queue (09 R218). -/
structure QFrame where
  f : Frame
  vid : BitVec 12
  pcp : BitVec 3
  /-- Ingress port, 14 internal. -/
  inp : Nat
  /-- Ingress stamp in units of 2^-16 ns. -/
  stamp : Nat
  /-- Channel and ring entry that the frame completes, in every copy until the first has left. -/
  chan : Option (Part × Nat)
  /-- Leaves on the named port alone, past forwarding (09 R229). -/
  direct : Bool
  deriving DecidableEq, Repr

/-- A learned forwarding entry (09 R215, R237). -/
structure Fdb where
  vid : BitVec 12
  mac : BitVec 48
  port : Nat
  deriving DecidableEq, Repr

/-- A Follow_Up table entry (09 R226). -/
structure FollowUp where
  port : Nat
  domain : Byte
  src : List Byte
  seq : BitVec 16
  /-- Residence time in units of 2^-16 ns. -/
  res : Nat
  deriving DecidableEq, Repr

/-- The states of a pair's port (09 R232). -/
inductive PairState where
  | active | standby | down | nochk | hold | hidden
  deriving DecidableEq, Repr

/-- A redundant port pair (09 R231 to R235). -/
structure Pair where
  /-- State of port A. 09 R232. Reset DOWN. -/
  a : PairState := .down
  /-- State of port B. 09 R232. Reset DOWN. -/
  b : PairState := .down
  /-- A verification window runs; true if port B is the new active port. 09 R234. Reset none. -/
  verify : Option Bool := none
  /-- The new active port has received an ordinary frame in the window. 09 R234. Reset 0. -/
  newRx : Bool := false
  /-- The old active port received one in the VERIFY before the swap: time of its last ordinary frame. 09 R234. Reset none. -/
  oldRx : Option Nat := none
  /-- Time of the last ordinary frame on the active port. 09 R234. Reset none. -/
  lastRx : Option Nat := none
  /-- Scheduled swaps skipped. 09 R234. Reset 0. -/
  skipped : Nat := 0
  /-- Learning frames are due on the active port. 09 R233. Reset 0. -/
  learn : Bool := false
  deriving DecidableEq, Repr

/-- The Ethernet switch (09). -/
structure Switch where
  /-- Forwarding table, oldest first, at most 8192. 09 R215. Reset empty. -/
  fdb : List Fdb := []
  /-- Egress queues by 8 x port + queue, head first. 09 R218. Reset empty. -/
  q : Tab (List QFrame) := []
  /-- Tokens of each queue's rate limit, in bits times 1000, and the time they were counted. 09 R218. Reset none. -/
  tok : Tab (Int × Nat) := []
  /-- Follow_Up tables, oldest first, at most 64 a port. 09 R226. Reset empty. -/
  fup : List FollowUp := []
  /-- Frames admitted by the storm limit of each port in the current ms: ms and count. 09 R238. Reset none. -/
  storm : Tab (Nat × Nat) := []
  /-- Pairs. 09 R231. Reset DOWN. -/
  pair : Tab Pair := []
  /-- The last frame that left, and its port. 09 R218. Reset none. -/
  tx : Option (Nat × Frame) := none
  /-- RXHEAD of each channel as it stood at the last release. 09 R221. Reset 0. -/
  snap : Tab Nat := []
  /-- TXTAIL of each channel that stood at the job's CYEND. 09 R222. Reset 0. -/
  cyTail : Tab Nat := []
  deriving DecidableEq, Repr

/-- A spare grant held by the acting master (10 R267, R270). -/
structure SpareGrant where
  entry : Nat
  station : Nat
  /-- Cycle of the last valid frame from the grantee. -/
  seen : Nat
  deriving DecidableEq, Repr

/-- A LIVE station as the acting master knows it (10 R267, R269). -/
structure Live where
  station : Nat
  devid : Nat
  vmin : Nat
  vmax : Nat
  deriving DecidableEq, Repr

/-- A JOIN received (10 R268). -/
structure JoinReq where
  station : Nat
  devid : Nat
  vmax : Nat
  vmin : Nat
  cfgid : Nat
  want : List Nat
  deriving DecidableEq, Repr

/-- The Stolnet controller (10). -/
structure Station where
  /-- Current cycle number. 10 R244, R272. Reset 0. -/
  cyc : Nat := 0
  /-- A correct fire has started the cycle on the fast source: windows run. 10 R244, R245. Reset 0. -/
  going : Bool := false
  /-- Cycles of the violations of each star port, latest first. 10 R260. Reset empty. -/
  starV : Tab (List Nat) := []
  /-- Star ports that reached 3 violations in this cycle. 10 R260. Reset 0. -/
  starX : BitVec 16 := 0
  /-- Cycles of the violations of each ring port, latest first. 10 R262. Reset empty. -/
  ringV : Tab (List Nat) := []
  /-- Cycles of cut transmissions of each port, star s as s, ring A 16, ring B 17. 10 R271. Reset empty. -/
  cutV : Tab (List Nat) := []
  /-- Transmitters disabled after cuts, numbered likewise. 10 R271. Reset 0. -/
  txOff : BitVec 18 := 0
  /-- Cycle since which a looped ring port's link has been up. 10 R264. Reset none. -/
  upSince : Tab (Option Nat) := []
  /-- What the windows of this cycle have received: by entry, the status so far and the delivered frame. 10 R250, R255.
  Reset empty (TIMEOUT). -/
  rx : Tab (Status × Option StnFrame) := []
  /-- Consecutive windows without delivery, by entry, up to 255. 10 R255. Reset 0. -/
  miss : Tab Nat := []
  /-- Payload read for a transmit window, by entry, with 4096 added for a window of the next cycle; none if no read
  succeeded. 10 R256. Reset empty. -/
  pay : Tab (Option (List Byte)) := []
  /-- The frames that the station itself sent last: port and frame. 10 R256, R258. Reset none. -/
  tx : List (StnPort × StnFrame) := []
  /-- The last frame forwarded on the ring: port it leaves by, and frame. 10 R261. Reset none. -/
  fwd : Option (Fin 2 × StnFrame) := none
  /-- When that frame has passed, in ns after the cycle start. 10 R261, R267. Reset 0. -/
  fwdEnd : Nat := 0
  /-- Spare grants in force, as GRANT frames tell them. 10 R267, R270. Reset empty. -/
  grants : List SpareGrant := []
  /-- LIVE stations, as GRANT frames tell them. 10 R267. Reset empty. -/
  live : List Live := []
  /-- Spare entries granted to this station. 10 R267. Reset empty. -/
  mine : List Nat := []
  /-- Spare entries of a grant not yet in force. 10 R267. Reset empty. -/
  minePend : List Nat := []
  /-- The first valid JOIN of the even cycle. 10 R267. Reset none. -/
  join : Option JoinReq := none
  /-- Cycle in which the last JOIN without an answer was sent. 10 R267. Reset none. -/
  asked : Option Nat := none
  /-- JOINs sent since the last grant. 10 R267. Reset 0. -/
  tries : Nat := 0
  /-- A LIVE station asks for its spare entries again. 10 R270. Reset 0. -/
  rejoin : Bool := false
  /-- Cycle A, bits 31:0, at which this station becomes LIVE. 10 R267. Reset none. -/
  actA : Option Nat := none
  /-- A version change pending: version and cycle A. 10 R267, R269. Reset none. -/
  verPend : Option (Nat × Nat) := none
  /-- Cycle of the last valid frame from the master. 10 R266. Reset 0. -/
  seenM : Nat := 0
  /-- Cycle of the last valid frame from the acting master. 10 R270. Reset 0. -/
  seenA : Nat := 0
  /-- The table check that was asked for runs. 10 R253. Reset 0. -/
  checking : Bool := false
  deriving DecidableEq, Repr

/-- The error states of a CAN controller (12 R304). -/
inductive CanState where
  | active | passive | busOff | stuck
  deriving DecidableEq, Repr

/-- A CAN FD controller beside its registers (12). -/
structure Can where
  /-- Receive FIFO area of the message RAM, words by 20 x index + word. 12 R290, R291. Reset 0. -/
  rx : Tab Word := []
  /-- Transmit queue area of the message RAM, words by 20 x index + word. 12 R290, R291. Reset 0. -/
  tx : Tab Word := []
  /-- RXPUT of the controller. 12 R302. Reset 0. -/
  put : Nat := 0
  /-- RXPUT as it stood at the owner's last release. 12 R295. Reset 0. -/
  snap : Nat := 0
  /-- TXPUT that stood at CYEND. 12 R295. Reset 0. -/
  cyPut : Nat := 0
  /-- TXPUT at the last commit: elements before it may be taken. 12 R295. Reset 0. -/
  coPut : Nat := 0
  /-- Error state. 12 R304. Reset error active. -/
  state : CanState := .active
  /-- Error state to return to from STUCK. 12 R298. Reset error active. -/
  saved : CanState := .active
  /-- Transmit error count. 12 R304. Reset 0. -/
  teCnt : Nat := 0
  /-- Receive error count. 12 R304. Reset 0. -/
  reCnt : Nat := 0
  /-- Last error. 12 R304. Reset 000b. -/
  lec : BitVec 3 := 0
  /-- Bus-off recovery in progress. 12 R304. Reset 0. -/
  recov : Bool := false
  /-- Times of bus-off entries, latest first. 12 R297. Reset empty. -/
  offs : List Nat := []
  /-- Stored clash pair (identifier with XTD, position). 12 R299. Reset none. -/
  clash : Option (Nat × Nat) := none
  /-- Clash count. 12 R299. Reset 0. -/
  clashN : Nat := 0
  /-- Stopped by the loss of the peripheral clock. 12 R288. Reset 0. -/
  dead : Bool := false
  /-- Candidate in trial (automatic rate detection) and its consecutive valid frames. 12 R300. Reset 0, 0. -/
  ard : Nat × Nat := (0, 0)
  /-- A frame under the candidate used BRS. 12 R300. Reset 0. -/
  ardBrs : Bool := false
  /-- Bit timing in force: NBT and DBT. 12 R289. Reset the register values. -/
  timing : Word × Word := (0x3EFC7C00, 0x10371800)
  deriving DecidableEq, Repr

/-- A digital input on the field die (13). -/
structure Di where
  /-- Raw value. 13 R327. Reset 0. -/
  raw : Bool := false
  /-- Filtered value. 13 R327. Reset 0. -/
  filt : Bool := false
  /-- Stamp of the last raw edge, TAI ns. 13 R312. Reset 0. -/
  edge : Nat := 0
  /-- The value last delivered to staging, before any fault. 13 R311. Reset 0. -/
  out : Bool := false
  /-- The filtered value is held while its own source's pulse runs. 13 R315. Reset 0. -/
  mask : Bool := false
  /-- Time up to which the filtered value is held after the pulse, TAI ns. 13 R315. Reset 0. -/
  maskTo : Nat := 0
  /-- NOPULSE latched. 13 R315. Reset 0. -/
  noPulse : Bool := false
  /-- FOREIGN latched. 13 R315. Reset 0. -/
  foreign : Bool := false
  /-- The last own-pulse check passed. 13 R315. Reset 0. -/
  ownOk : Bool := false
  /-- Consecutive test periods without a fault. 13 R315. Reset 0. -/
  clean : Nat := 0
  /-- A fault was seen in the running test period. 13 R315. Reset 0. -/
  badNow : Bool := false
  /-- Sources 100 us before whose running pulse the raw input was on, bit k. 13 R315. Reset 0. -/
  wasOn : BitVec 8 := 0
  /-- Times of the raw edges of the last 100 us, newest first, TAI ns. 13 R315. Reset none. -/
  edges : List Nat := []
  /-- The stamp of the last accepted edge, TAI ns, that waits with its value for the comparator's fire. 13 R312. Reset
  none. -/
  stamp : Option Nat := none
  deriving DecidableEq, Repr

/-- A digital output on the field die (13). -/
structure Do where
  /-- Last value delivered by a commit message. 13 R306. Reset 0. -/
  cmd : Bool := false
  /-- Value applied last: what a change of the value is measured against. 13 R318. Reset 0. -/
  val : Bool := false
  /-- Value that waits for its comparator's fire. 13 R318. Reset none. -/
  pend : Option Bool := none
  /-- Commanded state of the driver. 13 R318. Reset 0. -/
  drive : Bool := false
  /-- An on pulse of PULSEW runs. 13 R318. Reset 0. -/
  pulse : Bool := false
  /-- The minimum interval runs. 13 R318. Reset 0. -/
  busy : Bool := false
  /-- An edge that waits for the minimum interval. 13 R318. Reset none. -/
  wait : Option Bool := none
  /-- The channel drives its field safe value. 13 R322, R328. Reset 1. -/
  fsafe : Bool := true
  /-- Current is held at the limit. 13 R319. Reset 0. -/
  limit : Bool := false
  /-- OVLD. 13 R328. Reset 0. -/
  ovld : Bool := false
  /-- THERM. 13 R328. Reset 0. -/
  therm : Bool := false
  /-- GRP. 13 R328. Reset 0. -/
  grp : Bool := false
  /-- RBK. 13 R328. Reset 0. -/
  rbk : Bool := false
  /-- OPEN. 13 R328. Reset 0. -/
  opn : Bool := false
  /-- EXTV. 13 R328. Reset 0. -/
  extv : Bool := false
  /-- SUPLY. 13 R328. Reset 0. -/
  suply : Bool := false
  /-- A commit with the bit 0 has come since the fault. 13 R319. Reset 0. -/
  sawOff : Bool := false
  /-- End of a push-pull transition's dead time, TAI ns: until then both switches are off. 13 R317. Reset 0. -/
  deadTo : Nat := 0
  deriving DecidableEq, Repr

/-- An entry of the edge stamp FIFO (13 R313). -/
structure EdgeStamp where
  ch : Nat
  rising : Bool
  ns : Nat
  /-- Stamps dropped before this one. -/
  lost : Nat
  deriving DecidableEq, Repr

/-- The field die's digital side and the logic-field link (13). -/
structure Field where
  /-- Inputs. 13 R310. Reset off. -/
  di : Tab Di := []
  /-- Outputs. 13 R316. Reset off. -/
  dos : Tab Do := []
  /-- The field die has received its configuration. 02 R28. Reset 0. -/
  cfgd : Bool := false
  /-- The settings in force before a reset as the field die keeps them, at the addresses of their active copies. 13 R322.
  Reset none. -/
  kept : Tab Word := []
  /-- Next sequence number expected by the logic side and by the field side. 13 R305. Reset 0, 0. -/
  seqs : Nat × Nat := (0, 0)
  /-- The logic side has declared the link lost. 13 R307. Reset 0. -/
  lostL : Bool := false
  /-- The field side has no valid link: cause 2h. 13 R322. Reset 0. -/
  lostF : Bool := false
  /-- The watchdog has expired: cause 1h. 13 R321, R322. Reset 0. -/
  tripped : Bool := false
  /-- A reset or fatal-halt command of cause 3h is present. 13 R322. Reset 1. -/
  cmdSafe : Bool := true
  /-- The scheduler-disabled condition of cause 3h as the field die knows it. 13 R324. Reset 1. -/
  offSafe : Bool := true
  /-- A doze or pewter entry of cause 3h is present. 13 R322. Reset 0. -/
  dozeSafe : Bool := false
  /-- Field clock error: cause 4h. 13 R322. Reset 0. -/
  clkErr : Bool := false
  /-- FSAFE: the field safe state stands. 13 R326. Reset 1. -/
  fsafe : Bool := true
  /-- The field watchdog runs. 13 R321. Reset 0. -/
  wdg : Bool := false
  /-- Edge stamp FIFO, oldest first, at most 4096. 13 R312. Reset empty. -/
  fifo : List EdgeStamp := []
  /-- Stamps dropped since the last stored one. 13 R312. Reset 0. -/
  dropped : Nat := 0
  /-- Stamps dropped, for TSCNT. 13 R326. Reset 0. -/
  dropAll : Nat := 0
  /-- Test-pulse sources that are off in their pulse, bit k. 13 R314. Reset 0. -/
  pulses : BitVec 8 := 0
  /-- Test settings in force in the running period: TPER, TPW. 13 R325. Reset the register value. -/
  tp : Nat × Nat := (10, 500)
  /-- VFDI is in range. 13 R319. Reset 0. -/
  vfdi : Bool := false
  /-- VFLDn in range, bit n. 13 R319. Reset 0. -/
  vfld : BitVec 8 := 0
  deriving DecidableEq, Repr

/-- Phases of a HART transaction (14 R343). -/
inductive HartPhase where
  | idle | carrierWait | sending | replyWait | receiving
  deriving DecidableEq, Repr

/-- A loop channel and its modem (14). -/
structure Loop where
  /-- Output code last delivered by a commit message. 14 R338. Reset 0. -/
  cmd : Nat := 0
  /-- Code that waits for its comparator's fire. 14 R338. Reset none. -/
  pend : Option Nat := none
  /-- Code the converter drives, trimmed, at most 48 000. 14 R329, R340. Reset 0. -/
  drive : Nat := 0
  /-- Time of the last latch. 14 R331. Reset none. -/
  latch : Option Nat := none
  /-- Within 1 ms of a MODE swap: no current, limiter open. 14 R330. Reset 0. -/
  settle : Bool := false
  /-- End of the last such 1 ms. 14 R330. Reset none. -/
  settled : Option Nat := none
  /-- The limiter limits. 14 R334. Reset 0. -/
  limit : Bool := false
  /-- OPEN: the limiter is open. 14 R346. Reset 0. -/
  opn : Bool := false
  /-- Time of the retry that closed the limiter, TAI ns, while it has not limited but from the retry's start. 14 R334.
  Reset none. -/
  retry : Option Nat := none
  /-- MISWIRE. 14 R346. Reset 0. -/
  miswire : Bool := false
  /-- COMPL. 14 R346. Reset 0. -/
  compl : Bool := false
  /-- OUTERR. 14 R346. Reset 0. -/
  outerr : Bool := false
  /-- LOW. 14 R346. Reset 0. -/
  low : Bool := false
  /-- HIGH. 14 R346. Reset 0. -/
  high : Bool := false
  /-- Limiter openings, up to 255. 14 R346. Reset 0. -/
  opens : Nat := 0
  /-- Field safe value driven. 14 R346. Reset 1. -/
  fsafe : Bool := true
  /-- HART phase. 14 R343. Reset idle. -/
  hart : HartPhase := .idle
  /-- The running transaction is a LISTEN. 14 R343. Reset 0. -/
  listen : Bool := false
  /-- Bytes read for transmission. 14 R343. Reset empty. -/
  hbytes : List Byte := []
  /-- A carrier is present. 14 R343. Reset 0. -/
  carrier : Bool := false
  deriving DecidableEq, Repr

/-- The analog side of the field die beside the loops (14). -/
structure Analog where
  /-- Loop channels. 14 R329. Reset as given there. -/
  loops : Tab Loop := []
  /-- VLOOP is in range. 14 R338. Reset 0. -/
  vloop : Bool := false
  /-- A trim button press that averages: true for span. 14 R341. Reset none. -/
  trim : Option Bool := none
  deriving DecidableEq, Repr

/-- The states of a storage link (15 R350). -/
inductive LinkState where
  | off | train | init | online | failed
  deriving DecidableEq, Repr

/-- A write command that a link has outstanding (15 R362). -/
inductive SCmd where
  /-- A full block of the log, by its volume offset. -/
  | block (off : Nat)
  /-- The partial end block, up to a volume offset. -/
  | tail (upTo : Nat)
  /-- The member header. -/
  | header
  deriving DecidableEq, Repr

/-- A storage link (15). -/
structure SLink where
  /-- State. 15 R350. Reset OFF. -/
  state : LinkState := .off
  /-- Status of the last failure. 15 R367. Reset OK. -/
  fail : Status := .ok
  /-- Trained rate, Gen 1 to 4. 15 R367. Reset 0. -/
  gen : Nat := 0
  /-- Trained width. 15 R367. Reset 0. -/
  width : Nat := 0
  /-- WCACHE. 15 R367. Reset 0. -/
  wcache : Bool := false
  /-- Usable blocks. 15 R367, 17 R389. Reset 0. -/
  cap : Nat := 0
  /-- Write commands outstanding, oldest first, at most 64 of them block writes. 15 R362. Reset empty. -/
  cmds : List SCmd := []
  /-- The controller has been reset once for the outstanding command. 15 R351. Reset 0. -/
  tmo : Bool := false
  deriving DecidableEq, Repr

/-- The device events that units record in stream 0 (15 R355, 18 R406). -/
inductive Ev where
  | deniedOwner | unassigned | outsideSpan | volumeFull | debugRefused | linkFailed | canBusOff | canStuck
  | canClash | dioTestFault | dioOutput | dioSupply | alpMiswire | alpOutErr | alpTrim | rackWrite
  | semReleased | envelope | memoryError | pairRole | pairHidden | starCut | starExcluded | starLink | ringIsolated
  | ringLoop | stnTxCut | stnTiming | triadFault | laneOdd | laneRetired | engineError | jobMiss | partStop
  | shed | rehome | skippedRelease | forceSwap | timeStep | powerFail | vcoreLost
  | watchdog | exception
  deriving DecidableEq, Repr

/-- The event code of a record: a number of its own, or the code of a device event, which the spec does not number. -/
inductive Code where
  | num (w : Word)
  | dev (e : Ev)
  deriving DecidableEq, Repr

/-- A record of the log (15 R356). -/
structure Rec where
  sys : Bool
  pad : Bool
  gen : Word
  seq : Nat
  time : Nat
  rel : Nat
  tlast : Nat
  code : Code
  part : Part
  rpt : Nat
  drop : Nat
  stream : Nat
  prev : Nat
  off : Nat
  payload : List Byte
  deriving DecidableEq, Repr

/-- A stream's entry of the stream table (15 R353). -/
structure Stream where
  /-- Sequence numbers used: the next one is one more once a stream table is loaded. 15 R353, R354. Reset 0. -/
  next : Nat := 0
  /-- Offset of the last record, all ones if none. 15 R353. Reset all ones. -/
  last : Nat := 0xFFFFFFFFFFFFFFFF
  /-- Refused with FULL. 15 R353. Reset 0. -/
  refFull : Nat := 0
  /-- Refused with BUSY. 15 R353. Reset 0. -/
  refBusy : Nat := 0
  /-- Bytes used. 15 R353. Reset 0. -/
  used : Nat := 0
  /-- Refusals since the stream's previous record. 15 R356 DROP. Reset 0. -/
  drop : Nat := 0
  deriving DecidableEq, Repr

/-- A member header as it stands on an SSD (15 R353). -/
structure Hdr where
  ver : Nat
  volid : Nat
  mask : BitVec 4
  /-- Usable blocks of each link. -/
  caps : List Nat
  time : Nat
  endOff : Nat
  full : Bool
  crcOk : Bool
  streams : Tab Stream
  deriving DecidableEq, Repr

/-- The mounted volume (15 R352, R354). -/
structure Vol where
  volid : Nat
  mask : BitVec 4
  caps : List Nat
  time : Nat
  degraded : Bool
  full : Bool
  deriving DecidableEq, Repr

/-- A recorder read job (15 R360). -/
structure RJob where
  part : Part
  kind : Nat
  off : Nat
  len : Nat
  dst : Word
  desc : Word
  deriving DecidableEq, Repr

/-- Storage links, recorder and volume (15). -/
structure Store where
  /-- Links 0 to 3. 15 R350. Reset OFF. -/
  links : Tab SLink := []
  /-- Member headers on the SSDs. 15 R353. Reset none (blank SSDs). -/
  hdrs : Tab Hdr := []
  /-- The mounted volume. 15 R354. Reset none. -/
  vol : Option Vol := none
  /-- The volume command that runs: 1 MOUNT, 2 UNMOUNT, 3 FORMAT, and DEGOK. 15 R354. Reset none. -/
  cmd : Option (Nat × Bool) := none
  /-- Status of the last volume command. 15 R366. Reset OK. -/
  vst : Status := .ok
  /-- The log, oldest first. 15 R352, R357. Reset empty. -/
  log : List Rec := []
  /-- The part of the log that stands on the SSDs, as it stands there. 15 R362. Reset empty (blank SSDs). -/
  disk : List Rec := []
  /-- Log end offset. 15 R366. Reset 0. -/
  endOff : Nat := 0
  /-- Offset up to which blocks are written full. 15 R362. Reset 0. -/
  fullOff : Nat := 0
  /-- The partial end block has changed since it was written. 15 R362. Reset 0. -/
  endDirty : Bool := false
  /-- The headers have changed since they were written. 15 R362. Reset 0. -/
  hdrDirty : Bool := false
  /-- Records posted while no volume is mounted, oldest first. 15 R357. Reset empty. -/
  early : List Rec := []
  /-- Streams as the recorder keeps them. 15 R353. Reset as given there. -/
  streams : Tab Stream := []
  /-- A stream table is loaded: the next sequence numbers are known. 15 R354, R368. Reset 0. -/
  loaded : Bool := false
  /-- Next tag of a read job, 16 bits, never 0. 15 R360. Reset 1. -/
  tag : Nat := 1
  /-- Read jobs, oldest first. 15 R360. Reset empty. -/
  reads : List RJob := []
  /-- Log offset that the running power-fail flush covers. 15 R363. Reset none. -/
  flushTo : Option Nat := none
  /-- Format count of the SSDs. 15 R353. Reset 0. -/
  formats : Nat := 0
  deriving DecidableEq, Repr

/-- A queued rack write of one 16-bit cycle (16 R374). -/
structure RackW where
  addr : Nat
  data : BitVec 16
  part : Part
  /-- The second half follows with no other cycle between. -/
  pair : Bool
  deriving DecidableEq, Repr

/-- Progress of a delayed read (16 R376). -/
inductive FetchState where
  | waiting | fetching | ended (st : Status)
  deriving DecidableEq, Repr

/-- A read entry of the bridge (16 R376). -/
structure RackR where
  req : Nat
  addr : Nat
  wide : Bool
  state : FetchState
  /-- Halfwords fetched so far, first first. -/
  got : List (BitVec 16)
  deriving DecidableEq, Repr

/-- The backplane cycle that runs (16 R372). -/
inductive Cycle where
  | none
  | write
  /-- Fetch for a read entry; none if its job has ended and the data is discarded. -/
  | fetch (i : Option Nat)
  deriving DecidableEq, Repr

/-- The bridge semaphore's holder (16 R377). -/
structure Sem where
  slot : Nat
  part : Part
  deriving DecidableEq, Repr

/-- The Brass bridge (16). -/
structure Bridge where
  /-- Posted writes, oldest first, at most 32 entries. 16 R374. Reset empty. -/
  wq : List RackW := []
  /-- Read entries by index 0 to 7. 16 R376. Reset free. -/
  rd : Tab RackR := []
  /-- The running backplane cycle. 16 R372. Reset none. -/
  cyc : Cycle := .none
  /-- CTL.EN has been written 1 since the last reset. 16 R373. Reset 0. -/
  live : Bool := false
  /-- The BRST_L pulse of CTL.RST runs. 16 R373. Reset 0. -/
  pulse : Bool := false
  /-- Semaphore holder. 16 R377. Reset free. -/
  sem : Option Sem := none
  /-- Filtered interrupt levels, bit k asserted. 16 R379. Reset 0. -/
  irq : BitVec 8 := 0
  /-- The last halfword driven or latched on AD. 16 R371. Reset 0. -/
  ad : BitVec 16 := 0
  deriving DecidableEq, Repr

/-- The states of an image slot (17 R391). -/
inductive SlotState where
  | empty | staging | valid | active | trial | fallback | bad
  deriving DecidableEq, Repr

/-- An image slot of the store: state record and contents (17 R389 to R391). -/
structure Slot where
  /-- State. 17 R391. Reset EMPTY. -/
  state : SlotState := .empty
  /-- Manifest bytes. 17 R392. Reset empty. -/
  man : List Byte := []
  /-- Billets stored, by index. 17 R398. Reset empty. -/
  billets : Tab (List Byte) := []
  /-- Trial tries. 17 R401. Reset 0. -/
  tries : Nat := 0
  /-- Links that carry a complete copy. 17 R389. Reset 0. -/
  links : BitVec 4 := 0
  deriving DecidableEq, Repr

/-- A settings area (17 R397). -/
structure Settings where
  /-- Format version. 17 R397. Reset 0. -/
  ver : Nat := 0
  /-- Data. 17 R397. Reset empty. -/
  data : List Byte := []
  /-- Its CRC is right. 17 R402. Reset 1. -/
  ok : Bool := true
  deriving DecidableEq, Repr

/-- A pending activation (17 R400). -/
structure Activation where
  comp : Nat
  slot : Nat
  time : Nat
  deriving DecidableEq, Repr

/-- Keys, update and image store (17). -/
structure Secure where
  /-- Slots by 3 x component + slot. 17 R388. Reset EMPTY. -/
  slots : Tab Slot := []
  /-- Settings areas by component. 17 R389. Reset empty. -/
  sets : Tab Settings := []
  /-- The pending activation. 17 R390. Reset none. -/
  pend : Option Activation := none
  /-- Component whose TRIAL slot awaits CONFIRM: CONFTO runs. 17 R401. Reset none. -/
  trial : Option Nat := none
  /-- Counters still to be raised: component, SVN. 17 R401. Reset empty. -/
  raise : List (Nat × Nat) := []
  /-- The counter word being programmed for a component. 17 R401. Reset none. -/
  raising : Option Nat := none
  /-- A counter word did not read back: the next try is at boot step 8. 17 R401. Reset 0. -/
  raiseBad : Bool := false
  /-- Status of the last slot that the running boot tried. 02 R49. Reset FAULT. -/
  lastBad : Status := .fault
  /-- Slots selected by the running boot: component, slot. 17 R401. Reset empty. -/
  chosen : List (Nat × Nat) := []
  deriving DecidableEq, Repr

/-- Supervision, console and maintenance port (18). -/
structure Superv where
  /-- The logic die's last sample was at or above 135 C. 18 R409. Reset 0. -/
  hotL : Bool := false
  /-- The field die's last sample was at or above 135 C. 18 R409. Reset 0. -/
  hotF : Bool := false
  /-- The temperature warning stands. 18 R409. Reset 0. -/
  warn : Bool := false
  /-- Run count of foundry misses. 18 R411. Reset 0. -/
  misses : Nat := 0
  /-- KTO in force for the running count, ms. 18 R411, R412. Reset none (no count runs). -/
  kto : Option Nat := none
  /-- Console transmit FIFO, oldest first, at most 16 bytes. 18 R420. Reset empty. -/
  utx : List Byte := []
  /-- Console receive FIFO, oldest first, at most 16 bytes. 18 R420. Reset empty. -/
  urx : List Byte := []
  /-- RXLOST. 18 R420. Reset 0. -/
  rxLost : Bool := false
  /-- The last text the device itself wrote on UTX. 02 R49. Reset empty. -/
  line : List Byte := []
  /-- A PHY management operation runs: it is a write. 18 R420. Reset none. -/
  mdio : Option Bool := none
  /-- The last frame the maintenance MAC sent. 18 R420. Reset empty. -/
  mtx : List Byte := []
  deriving DecidableEq, Repr

/-- Why the machine stops with a fault. No command of this block stops it: a bad access is answered by a status and
an engine's error by an exception, so the one constructor is raised by nothing. -/
inductive Fault where
  /-- Raised by nobody (safe): the spec names no condition that stops the whole block without an answer. -/
  | halted
  deriving DecidableEq, Repr

/-- Why a command is refused. -/
inductive Refusal where
  /-- Raised by exec for a command that has no meaning yet (safe). -/
  | notModelled (mnemonic : String)
  deriving DecidableEq, Repr

/-- The state of the device. -/
structure State where
  /-- Commands that wait, first in first out. The model's own. Reset empty. -/
  pending : List Instr := []
  /-- Response of the last access. 00 R10. Reset OK, 0. -/
  rsp : Rsp := {}
  /-- The model's own counter of free values. Reset 0. -/
  free : Nat := 0
  /-- DRAM and cycle memory, bytes by physical address. 08 R188. Reset nothing listed (reads 0). -/
  mem : List Host.Cell := []
  /-- Poisoned 64-byte lines, by line number. 08 R195. Reset none. -/
  poison : List Nat := []
  /-- Errors that lie in 64-byte lines and that no access has met, by line number. 08 R195. Reset none. -/
  ecc : Tab EccErr := []
  /-- Registers by physical address, banked copies above 2^40. 00 R6. Reset by the register table. -/
  regs : Tab Word := []
  /-- Control balls. 01 R14. -/
  pins : Pins := {}
  /-- Supplies, resets and boot. 02. -/
  pwr : Power := {}
  /-- Fuses. 17 R383. -/
  fuses : Fuses := {}
  /-- Clocks. 03. -/
  clk : Clocks := {}
  /-- Timebase. 03. -/
  tb : TimeBase := {}
  /-- Triads 0 to 31. 04. -/
  triads : Tab Triad := []
  /-- Executors 0 to 95. 05. -/
  engs : Tab Engine := []
  /-- Partitions 0 to 1023. 07. -/
  parts : Tab Partn := []
  /-- Scheduler. 07. -/
  sch : Sched := {}
  /-- Arbiter. 08. -/
  arb : Arb := {}
  /-- Shared engines. 08, 11. -/
  she : Shared := {}
  /-- Ethernet switch. 09. -/
  eth : Switch := {}
  /-- Stolnet controller. 10. -/
  stn : Station := {}
  /-- CAN controllers 0 to 19. 12. -/
  cans : Tab Can := []
  /-- Digital field I/O. 13. -/
  dio : Field := {}
  /-- Loop channels. 14. -/
  alp : Analog := {}
  /-- Storage and recorder. 15. -/
  sto : Store := {}
  /-- Brass bridge. 16. -/
  brb : Bridge := {}
  /-- Keys and update. 17. -/
  sec : Secure := {}
  /-- Supervision. 18. -/
  sup : Superv := {}
  deriving DecidableEq, Repr

/-- The machine right after VPEW power-up (02 R44, R424): every field at the value given beside it, the power-up reset
running and no boot step begun. -/
def State.reset : State := {}

end Sys2Proof.Machine
end

