-- ==== Sys2Proof/Machine/Ops.lean ====
section
/-!
DEFINITION. The named operations over the state that every unit uses: the response of an access, the register file,
the tables of units, physical memory with its poisoned lines, the region tables, and alarms.
-/

namespace Sys2Proof.Machine

/-- The device time in ns (03 R62). -/
def State.now (s : State) : Nat := s.tb.ns

/-- Answers the initiator of an access with a status and data (00 R10). -/
def State.answer (st : Status) (v : Word) (s : State) : State := { s with rsp := { st := st, val := v } }

/-- Answers a status without data. -/
def State.reply (st : Status) (s : State) : State := s.answer st 0

/-- Spends a free value: the next one differs. -/
def State.spend (s : State) : State := { s with free := s.free + 1 }

/-- The physical address of a register of the map, by its two indices. -/
def Reg.addr (r : Reg) (i j : Nat) : Nat := r.row.base + i * r.row.s1 + j * r.row.s2

/-- The reset value of a register: that of its row, but for stream 0 (15 R368). -/
def Reg.resetAt (r : Reg) (i : Nat) : Word :=
  if r = .stoSCtl ∧ i = 0 then 0xC0000000 else r.row.reset

/-- The key of bank b of a register that has one copy per partition, initiator or selected entry. -/
def bankKey (b a : Nat) : Nat := (b + 1) * 2 ^ 40 + a

/-- Reads a register as it stands in the file: a shadowed register gives its shadow (00 R9). -/
def State.rd (s : State) (r : Reg) (i : Nat := 0) (j : Nat := 0) : Word :=
  Tab.get (r.resetAt i) s.regs (r.addr i j)

/-- Sets a register in the file. -/
def State.wr (r : Reg) (v : Word) (s : State) (i : Nat := 0) (j : Nat := 0) : State :=
  { s with regs := Tab.set (r.resetAt i) s.regs (r.addr i j) v }

/-- Reads the active copy of a shadowed register (00 R9). -/
def State.rdA (s : State) (r : Reg) (i : Nat := 0) (j : Nat := 0) : Word :=
  Tab.get (r.resetAt i) s.regs (r.addr i j + r.row.aoff)

/-- Sets the active copy of a shadowed register. -/
def State.wrA (r : Reg) (v : Word) (s : State) (i : Nat := 0) (j : Nat := 0) : State :=
  { s with regs := Tab.set (r.resetAt i) s.regs (r.addr i j + r.row.aoff) v }

/-- The active copy takes the shadow value (00 R9). -/
def State.swap (r : Reg) (s : State) (i : Nat := 0) (j : Nat := 0) : State :=
  s.wrA r (s.rd r i j) i j

/-- The register table with the active copies of the shadow keys that satisfy p set to their shadows: an active key is
its shadow's key plus off (00 R9). -/
def swapKeys (p : Nat → Bool) (off : Nat) (t : Tab Word) : Tab Word :=
  (t.filter (fun e => p e.1)).foldl (fun u e => Tab.insert (Tab.erase u (e.1 + off)) (e.1 + off) e.2)
    (t.filter (fun e => !(decide (off ≤ e.1) && p (e.1 - off))))

/-- Swaps all registers whose keys satisfy p in one fabric cycle. -/
def State.swapAll (p : Nat → Bool) (off : Nat) (s : State) : State := { s with regs := swapKeys p off s.regs }

/-- Reads bank b of a banked register. -/
def State.rdB (s : State) (b : Nat) (r : Reg) (i : Nat := 0) : Word :=
  Tab.get (r.resetAt i) s.regs (bankKey b (r.addr i 0))

/-- Sets bank b of a banked register. -/
def State.wrB (b : Nat) (r : Reg) (v : Word) (s : State) (i : Nat := 0) : State :=
  { s with regs := Tab.set (r.resetAt i) s.regs (bankKey b (r.addr i 0)) v }

/-- Reads the active copy of bank b of a banked register. -/
def State.rdBA (s : State) (b : Nat) (r : Reg) (i : Nat := 0) : Word :=
  Tab.get (r.resetAt i) s.regs (bankKey b (r.addr i 0 + r.row.aoff))

/-- Sets the active copy of bank b of a banked register. -/
def State.wrBA (b : Nat) (r : Reg) (v : Word) (s : State) (i : Nat := 0) : State :=
  { s with regs := Tab.set (r.resetAt i) s.regs (bankKey b (r.addr i 0 + r.row.aoff)) v }

/-- Sets bits of a register. -/
def State.setBits (r : Reg) (m : Word) (s : State) (i : Nat := 0) (j : Nat := 0) : State :=
  s.wr r (s.rd r i j ||| m) i j

/-- Clears bits of a register. -/
def State.clrBits (r : Reg) (m : Word) (s : State) (i : Nat := 0) (j : Nat := 0) : State :=
  s.wr r (s.rd r i j &&& ~~~ m) i j

/-- The value a plain write leaves: writable bits take the written value, write-1-to-clear bits clear where 1 is
written, all others stay (00 R8). -/
def Reg.merge (r : Reg) (old v : Word) : Word :=
  ((old &&& ~~~ r.row.rw) ||| (v &&& r.row.rw)) &&& ~~~ (v &&& r.row.w1c)

/-- A plain write (00 R8). -/
def State.put (r : Reg) (v : Word) (s : State) (i : Nat := 0) (j : Nat := 0) : State :=
  s.wr r (r.merge (s.rd r i j) v) i j

/-- Raises a saturating 32-bit counter register by n. -/
def State.count (r : Reg) (n : Nat) (s : State) (i : Nat := 0) (j : Nat := 0) : State :=
  s.wr r (wd (min 0xFFFFFFFF ((s.rd r i j).toNat + n))) i j

/-- Raises a saturating 16-bit field of a register by 1. -/
def State.count16 (r : Reg) (lo : Nat) (s : State) (i : Nat := 0) (j : Nat := 0) : State :=
  s.wr r (fset (s.rd r i j) lo 16 (min 0xFFFF (fld (s.rd r i j) lo 16 + 1))) i j

/-- The scheduler is enabled (07 R187). -/
def State.schEn (s : State) : Bool := (s.rd .schCtl).getLsbD 0

/-! ### Tables of units -/

/-- Triad t. -/
def State.triad (s : State) (t : Nat) : Triad := Tab.get {} s.triads t
/-- Replaces triad t. -/
def State.setTriad (t : Nat) (x : Triad) (s : State) : State := { s with triads := Tab.set {} s.triads t x }
/-- Executor e. -/
def State.eng (s : State) (e : Nat) : Engine := Tab.get {} s.engs e
/-- Replaces executor e. -/
def State.setEng (e : Nat) (x : Engine) (s : State) : State := { s with engs := Tab.set {} s.engs e x }
/-- Partition n. -/
def State.part (s : State) (n : Nat) : Partn := Tab.get {} s.parts n
/-- Replaces partition n. -/
def State.setPart (n : Nat) (x : Partn) (s : State) : State := { s with parts := Tab.set {} s.parts n x }
/-- CAN controller n. -/
def State.can (s : State) (n : Nat) : Can := Tab.get {} s.cans n
/-- Replaces CAN controller n. -/
def State.setCan (n : Nat) (x : Can) (s : State) : State := { s with cans := Tab.set {} s.cans n x }
/-- Digital input c. -/
def State.di (s : State) (c : Nat) : Di := Tab.get {} s.dio.di c
/-- Replaces digital input c. -/
def State.setDi (c : Nat) (x : Di) (s : State) : State := { s with dio := { s.dio with di := Tab.set {} s.dio.di c x } }
/-- Digital output c. -/
def State.dout (s : State) (c : Nat) : Do := Tab.get {} s.dio.dos c
/-- Replaces digital output c. -/
def State.setDout (c : Nat) (x : Do) (s : State) : State :=
  { s with dio := { s.dio with dos := Tab.set {} s.dio.dos c x } }
/-- Loop channel c. -/
def State.loop (s : State) (c : Nat) : Loop := Tab.get {} s.alp.loops c
/-- Replaces loop channel c. -/
def State.setLoop (c : Nat) (x : Loop) (s : State) : State :=
  { s with alp := { s.alp with loops := Tab.set {} s.alp.loops c x } }
/-- Storage link l. -/
def State.link (s : State) (l : Nat) : SLink := Tab.get {} s.sto.links l
/-- Replaces storage link l. -/
def State.setLink (l : Nat) (x : SLink) (s : State) : State :=
  { s with sto := { s.sto with links := Tab.set {} s.sto.links l x } }
/-- Stream n of the recorder. -/
def State.stream (s : State) (n : Nat) : Stream := Tab.get {} s.sto.streams n
/-- Replaces stream n. -/
def State.setStream (n : Nat) (x : Stream) (s : State) : State :=
  { s with sto := { s.sto with streams := Tab.set {} s.sto.streams n x } }
/-- Pair k of the switch. -/
def State.pair (s : State) (k : Nat) : Pair := Tab.get {} s.eth.pair k
/-- Replaces pair k. -/
def State.setPair (k : Nat) (x : Pair) (s : State) : State :=
  { s with eth := { s.eth with pair := Tab.set {} s.eth.pair k x } }
/-- Image slot k of component c (17 R388). -/
def State.slot (s : State) (c k : Nat) : Slot := Tab.get {} s.sec.slots (3 * c + k)
/-- Replaces image slot k of component c. -/
def State.setSlot (c k : Nat) (x : Slot) (s : State) : State :=
  { s with sec := { s.sec with slots := Tab.set {} s.sec.slots (3 * c + k) x } }
/-- Fuse word i as the shadow holds it (17 R383). -/
def State.fuse (s : State) (i : Nat) : Word := Tab.get 0 s.fuses.shadow i

/-! ### Stamps and alarms -/

/-- The timebase as the replica of unit u shows it (03 R63): the unit's number is bits 23:20 of its address (PRESUMED log
112). -/
def State.nowAt (s : State) (u : Nat) : Int := (s.now : Int) + Tab.get 0 s.tb.replica u

/-- A stamp of unit u with an uncertainty of lim ns (18 R416): the unit's replica, with an error within the bound that is a
free value (DESIGN CHOICE log 177). -/
def State.stampAt (s : State) (u lim : Nat) : Nat :=
  (s.nowAt u + ((Config.stampOff u s.now % (2 * lim + 1) : Nat) : Int) - (lim : Int)).toNat

/-- Raises an alarm of a unit: its ALMSTAT bit, and the stamp where no bit was set (18 R406, R416). -/
def alarm (u : Unt) (s : State) : State :=
  let t := s.stampAt 0 10
  let s1 := if s.rd .supAlmstat = 0 then (s.wr .supAlmtLo (lo32 t)).wr .supAlmtHi (hi32 t) else s
  s1.setBits .supAlmstat (bit u.idx)

/-! ### Resets, boot and power state, as units consult them (02) -/

/-- The reset by VPEW or PORST_L runs: the pewter domain too is held (02 R44, R424). -/
def tbHeld (s : State) : Bool := !s.pwr.vpewOk || s.pwr.pwrup || !s.pins.porst

/-- The boot is past step n (02 R48). -/
def bootPast (s : State) (n : Nat) : Bool :=
  match s.pwr.boot with
  | .held => false
  | .step k => decide (n < k)
  | .released | .stopped _ _ => true

/-- The boot runs its step n: not in the fatal halt (02 R46). -/
def bootAt (s : State) (n : Nat) : Bool := s.pwr.boot = .step n && !s.pwr.fatal

/-- The device is in a reset of 02 R44, other than a partition reset or TRST_L, until boot step 8: RSTOUT_L is low
(02 R47), or the boot that a wake from pewter started still runs. -/
def inReset (s : State) : Bool := !s.pins.rstout || s.pwr.boot ≠ .released

/-- Engines and fabric run: not in doze or pewter (02 R35). -/
def State.awake (s : State) : Bool := s.pwr.state = .run

/-- The networks, storage links and CAN controllers have their clocks: in Run, and not under XA fallback (02 R35, 03
R55). -/
def netsUp (s : State) : Bool := s.awake && !s.clk.fallback

/-- FAULT_L as 18 R407 says: true is low. A reset runs from its start until RSTOUT_L rises at boot step 8 (02 R47). -/
def faultLow (s : State) : Bool :=
  s.rd .supAlmstat &&& s.rd .supAlmflt ≠ 0 || s.pins.testEn || s.pwr.fatal || !s.pins.rstout ||
    (match s.pwr.boot with
     | .stopped _ _ => true
     | .held | .step _ | .released => false)

/-! ### Physical memory (08 R188, R195) -/

/-- The address lies in DRAM. -/
def isDram (a : Nat) : Bool := a < 0x400000000
/-- The address lies in cycle memory. -/
def isCycle (a : Nat) : Bool := 0x4000000000 ≤ a && a < 0x4004000000
/-- The address lies in the rack window. -/
def isRack (a : Nat) : Bool := 0x7000000000 ≤ a && a < 0x7001000000
/-- First address of the ingot slots (08 R188). -/
def ingotBase : Nat := 0x4003FFC000
/-- n bytes from a lie wholly in DRAM or wholly in cycle memory. -/
def isMem (a n : Nat) : Bool := (isDram a && isDram (a + n - 1)) || (isCycle a && isCycle (a + n - 1))

/-- Memory is in its canonical form: addresses strictly rising, no entry that an unlisted address reads as. -/
def Memory.wf (m : List Host.Cell) : Bool := Tab.wf 0 m

/-- A byte of memory. An unlisted byte reads 0 (DESIGN CHOICE log 5). -/
def State.byte (s : State) (a : Nat) : Byte := Tab.get 0 s.mem a
/-- Sets a byte of memory. -/
def State.setByte (a : Nat) (b : Byte) (s : State) : State := { s with mem := Tab.set 0 s.mem a b }
/-- n bytes of memory from a. -/
def State.bytes (s : State) : Nat → Nat → List Byte
  | _, 0 => []
  | a, n + 1 => s.byte a :: s.bytes (a + 1) n
/-- Sets bytes of memory from a. -/
def State.setBytes : Nat → List Byte → State → State
  | _, [], s => s
  | a, b :: bs, s => State.setBytes (a + 1) bs (s.setByte a b)
/-- The word at a. -/
def State.word (s : State) (a : Nat) : Word := wd (leNat (s.bytes a 4))
/-- Sets the word at a. -/
def State.setWord (a : Nat) (v : Word) (s : State) : State := s.setBytes a (leBytes 4 v.toNat)

/-- The numbers of the 64-byte lines that n bytes from a touch. -/
def linesOf (a n : Nat) : List Nat := (List.range ((a + n + 63) / 64 - a / 64)).map (· + a / 64)

/-- A line that the n bytes from a touch is poisoned. -/
def State.poisoned (s : State) (a n : Nat) : Bool := (linesOf a n).any (fun l => s.poison.contains l)

/-- The error that lies in line l and that no access has met (08 R195). -/
def State.errAt (s : State) (l : Nat) : EccErr := Tab.get .none s.ecc l

/-- The lines that n bytes from a touch are not poisoned and hold no error. -/
def State.sound (s : State) (a n : Nat) : Bool :=
  (linesOf a n).all (fun l => !s.poison.contains l && s.errAt l = .none)

/-! ### Region tables (08 R190 to R194) -/

/-- The rights that an access needs. -/
inductive Right where
  | load | store | atomic | fetch
  deriving DecidableEq, Repr

/-- A region attribute word grants a right (08 R192, R194). -/
def Right.granted (r : Right) (attr : Word) : Bool :=
  match r with
  | .load => attr.getLsbD 2
  | .store => attr.getLsbD 3
  | .atomic => attr.getLsbD 2 && attr.getLsbD 3
  | .fetch => attr.getLsbD 4

/-- A region entry as numbers: virtual base, length in bytes, physical base, attributes. -/
structure Region where
  vbase : Nat
  len : Nat
  pbase : Nat
  attr : Word
  deriving DecidableEq, Repr

/-- Active entry k of partition n (08 R190). -/
def State.region (s : State) (n k : Nat) : Region :=
  { vbase := fld (s.rdBA n .memRgnVbaseS k) 12 20 * 4096
    len := (fld (s.rdBA n .memRgnSizeS k) 0 20 + 1) * 4096
    pbase := fld (s.rdBA n .memRgnPbaseS k) 0 28 * 4096
    attr := s.rdBA n .memRgnAttrS k }

/-- Shadow entry k of partition n. -/
def State.regionS (s : State) (n k : Nat) : Region :=
  { vbase := fld (s.rdB n .memRgnVbaseS k) 12 20 * 4096
    len := (fld (s.rdB n .memRgnSizeS k) 0 20 + 1) * 4096
    pbase := fld (s.rdB n .memRgnPbaseS k) 0 28 * 4096
    attr := s.rdB n .memRgnAttrS k }

/-- The entry is valid and holds virtual address va. -/
def Region.covers (g : Region) (va : Nat) : Bool := g.attr.getLsbD 31 && g.vbase ≤ va && va < g.vbase + g.len

/-- The physical memory of an entry is memory, not registers or the rack window. -/
def Region.inMem (g : Region) : Bool := isMem g.pbase g.len

/-- The entry counts as shared: SH, or registers or the rack window behind it (08 R192). -/
def Region.shared (g : Region) : Bool := g.attr.getLsbD 1 || !g.inMem

/-- The active entry of partition n that holds va, if any (08 R194: at most one matches). -/
def State.findRegion (s : State) (n va : Nat) : Option Region :=
  ((List.range 16).map (s.region n)).find? (fun g => g.covers va)

/-- The physical address of va for partition n with a right, and whether it is shared; none where R194 fails. -/
def State.xlate (s : State) (n : Nat) (r : Right) (va : Nat) : Option (Nat × Bool) :=
  match s.findRegion n va with
  | none => none
  | some g =>
    if va < 0x40000 || !r.granted g.attr then none
    else if r = .atomic && !(g.shared && g.inMem) then none
    else some (g.pbase + (va - g.vbase), g.shared)

/-- The pages that n bytes from va touch, each with the bytes in it: virtual address and length. -/
def pieces : Nat → Nat → Nat → List (Nat × Nat)
  | 0, _, _ => []
  | k + 1, va, n =>
    if n = 0 then [] else
      let m := min n (4096 - va % 4096)
      (va, m) :: pieces k (va + m) (n - m)

/-- Partition n may make an access of a kind to every one of len bytes of memory from va (08 R194). -/
def State.mayUse (s : State) (n : Nat) (r : Right) (va len : Nat) : Bool :=
  decide (va + len ≤ 0x100000000) &&
    (pieces (len / 4096 + 2) va len).all (fun p =>
      match s.xlate n r p.1 with
      | none => false
      | some (pa, _) => isMem pa p.2)

/-! ### Partition areas (07 R164) -/

/-- Class of partition n from its active CTL: 0 foundry, 1 S, 2 N (07 R162). -/
def State.cls (s : State) (n : Nat) : Nat := fld (s.rdA .schPdCtlS n) 30 2
/-- Partition n is class S. -/
def State.isS (s : State) (n : Nat) : Bool := s.cls n = 1
/-- Shadow class of partition n: the class of a partition not admitted yet (07 R162). -/
def clsShadow (s : State) (n : Nat) : Nat := fld (s.rd .schPdCtlS n) 30 2
/-- The foundry and class S partitions use the urgent band (08 R198). -/
def State.urgent (s : State) (n : Nat) : Bool := n = 0 || s.isS n
/-- Size of partition n's II in bytes. -/
def State.iiSize (s : State) (n : Nat) : Nat := (fld (s.rdA .schPdSizeS n) 0 8 + 1) * 256
/-- Size of partition n's OI in bytes. -/
def State.oiSize (s : State) (n : Nat) : Nat := (fld (s.rdA .schPdSizeS n) 8 8 + 1) * 256
/-- Size of partition n's MK in bytes. -/
def State.mkSize (s : State) (n : Nat) : Nat := (fld (s.rdA .schPdSizeS n) 16 8 + 1) * 256
/-- First address of partition n's area: the staging block. -/
def State.stagAddr (s : State) (n : Nat) : Nat := fld (s.rdA .schPdAreaS n) 0 28 * 4096
/-- First address of II. -/
def State.iiAddr (s : State) (n : Nat) : Nat := s.stagAddr n + s.iiSize n
/-- First address of OI work. -/
def State.oiAddr (s : State) (n : Nat) : Nat := s.stagAddr n + 2 * s.iiSize n
/-- First address of OI buffer X. -/
def State.bufXAddr (s : State) (n : Nat) : Nat := s.oiAddr n + s.oiSize n
/-- First address of OI buffer Y. -/
def State.bufYAddr (s : State) (n : Nat) : Nat := s.oiAddr n + 2 * s.oiSize n
/-- First address of the OI safe block. -/
def State.safeAddr (s : State) (n : Nat) : Nat := s.oiAddr n + 3 * s.oiSize n
/-- First address of MK. -/
def State.mkAddr (s : State) (n : Nat) : Nat := s.oiAddr n + 4 * s.oiSize n
/-- First address of the block that the committed pointer names (07 R171, R174). -/
def State.commAddr (s : State) (n : Nat) : Nat :=
  if (s.part n).safe then s.safeAddr n else if (s.part n).bufY then s.bufYAddr n else s.bufXAddr n
/-- First address of the pending buffer. -/
def State.pendAddr (s : State) (n : Nat) : Nat := if (s.part n).bufY then s.bufXAddr n else s.bufYAddr n

/-- The partition has a boundary: it is admitted (07 R160, R161). -/
def PState.admitted : PState → Bool
  | .wait | .queued | .run | .held => true
  | .off | .stopped | .shed => false

end Sys2Proof.Machine
end

