-- ==== Sys2Proof/Machine/Recorder.lean ====
section
/-!
DEFINITION. The event recorder (15 R352 to R363): where records are placed, repeats and refusals, the bytes of a record,
and the device records that every unit posts.
-/

namespace Sys2Proof.Machine

/-- The number of a device event in the opaque numbering of Config. -/
def Ev.idx (e : Ev) : Nat := e.ctorIdx

/-- The event code word of a record: device codes have bit 31 set (15 R355). -/
def Code.word : Code → Word
  | .num w => w
  | .dev e => 0x80000000 ||| (Config.eventCode e.idx).setWidth 32

/-- The largest payload of a record is 4096 bytes, so a record has at most 4160 bytes. Size of a record: the 64-byte
header and the payload padded to a multiple of 64 (15 R356). -/
def recSize (len : Nat) : Nat := 64 + (len + 63) / 64 * 64

/-- The first 60 bytes of a record's header (15 R356). -/
def recHead (r : Rec) : List Byte :=
  leBytes 1 0x10 ++ leBytes 1 (b2n r.sys + 2 * b2n r.pad) ++ leBytes 2 r.payload.length ++ leBytes 4 r.gen.toNat ++
    leBytes 8 r.seq ++ leBytes 8 r.time ++ leBytes 8 r.rel ++ leBytes 8 r.tlast ++ leBytes 4 r.code.word.toNat ++
    leBytes 2 r.part.toNat ++ leBytes 2 r.rpt ++ leBytes 2 r.drop ++ leBytes 2 r.stream ++ leBytes 8 r.prev

/-- The bytes of a record: header with its CRC-32C over header and payload, payload, zeros (15 R356). -/
def recBytes (r : Rec) : List Byte :=
  recHead r ++ leBytes 4 (crc32c (recHead r ++ r.payload)).toNat ++
    padTo 0 (recSize r.payload.length - 64) r.payload

/-- The members of a volume in link order: link, first and end volume offset (15 R352). -/
def memberSpans (mask : BitVec 4) (caps : List Nat) : Nat → Nat → List (Nat × Nat × Nat)
  | 0, _ => []
  | k + 1, lo =>
    let l := 3 - k
    if mask.getLsbD l then
      let n := (caps.getD l 0 - 16) * 4096
      (l, lo, lo + n) :: memberSpans mask caps k (lo + n)
    else memberSpans mask caps k lo

/-- The members of the mounted volume. -/
def Vol.spans (v : Vol) : List (Nat × Nat × Nat) := memberSpans v.mask v.caps 4 0

/-- The link of the member that holds a volume offset. -/
def Vol.linkAt (v : Vol) (off : Nat) : Option Nat :=
  (v.spans.find? (fun m => m.2.1 ≤ off && off < m.2.2)).map (·.1)

/-- Where a record of n bytes goes from log end e: the pads that fill member ends and the record's offset; none where
the volume has no room. A member whose link is not ONLINE takes nothing (15 R357, R362). -/
def placeIn (live : Nat → Bool) (n : Nat) : List (Nat × Nat × Nat) → Nat → List (Nat × Nat) → Option (Nat × List (Nat × Nat))
  | [], _, _ => none
  | (l, lo, hi) :: ms, e, pads =>
    let e' := max e lo
    if e ≥ hi then placeIn live n ms e pads
    else if live l && decide (e' + n ≤ hi) then some (e', pads)
    else placeIn live n ms hi (if live l && decide (e' < hi) then pads ++ [(e', hi - e')] else pads)

/-- The TIME of a post that reaches STO now (15 R356, 18 R416). -/
def State.recTime (s : State) : Nat := s.stampAt 10 10

/-- Link l is ONLINE. -/
def State.online (s : State) (l : Nat) : Bool := (s.link l).state = .online

/-- A PAD record that fills n bytes at an offset (15 R357). -/
def padRec (now off n : Nat) : Rec :=
  { sys := false, pad := true, gen := 0, seq := 0, time := now, rel := 0, tlast := now, code := .num 0, part := 0,
    rpt := 0, drop := 0, stream := 0xFFFF, prev := 0xFFFFFFFFFFFFFFFF, off := off,
    payload := List.replicate (n - 64) 0 }

/-- Bytes of the early records (15 R357). -/
def earlyBytes (rs : List Rec) : Nat := rs.foldl (fun a r => a + recSize r.payload.length) 0

/-- The buffer's size in bytes (15 R362). -/
def bufSize : Nat := 262144

/-- A record of a stream is open: its header lies in a block that has not been written full (15 R358). -/
def State.openRec (s : State) (r : Rec) : Bool := s.sto.fullOff / 4096 ≤ r.off / 4096

/-- The last record of a stream, if it is open: an early one, or one of the log. -/
def State.lastOpen (s : State) (n : Nat) : Option Rec :=
  match s.sto.early.reverse.find? (fun r => r.stream = n) with
  | some r => some r
  | none =>
    match s.sto.log.reverse.find? (fun r => r.stream = n && !r.pad) with
    | some r => if s.openRec r then some r else none
    | none => none

/-- Replaces the last record that satisfies a test. -/
def replaceLast (p : Rec → Bool) (f : Rec → Rec) (rs : List Rec) : List Rec :=
  (go rs.reverse).reverse
where
  /-- The first of a list. -/
  go : List Rec → List Rec
    | [] => []
    | r :: rs => if p r then f r :: rs else r :: go rs

/-- A repeat of a record: RPT and GEN rise, TLAST is the time (15 R358). -/
def Rec.again (now : Nat) (r : Rec) : Rec :=
  { r with rpt := min 0xFFFF (r.rpt + 1), gen := r.gen + 1, tlast := now }

/-- Stores the repeat of stream n's last record (15 R358). -/
def storeRepeat (n : Nat) (s : State) : State :=
  let p : Rec → Bool := fun r => r.stream = n && !r.pad
  if s.sto.early.any p then { s with sto := { s.sto with early := replaceLast p (·.again s.recTime) s.sto.early } }
  else { s with sto := { s.sto with log := replaceLast p (·.again s.recTime) s.sto.log, endDirty := true } }

/-- Full blocks of the log from fullOff that no command of a link writes yet, oldest first: at most 64 writes of blocks
are outstanding on a link (15 R362). -/
def submitBlocks : Nat → Nat → State → State
  | 0, _, s => s
  | k + 1, off, s =>
    if s.sto.endOff < off + 4096 then s else
      match s.sto.vol.bind (·.linkAt off) with
      | none => submitBlocks k (off + 4096) s
      | some l =>
        let x := s.link l
        if x.cmds.contains (.block off) then submitBlocks k (off + 4096) s
        else if x.state = .online && decide ((x.cmds.countP (fun c => match c with
          | .block _ => true
          | _ => false)) < 64) then
          submitBlocks k (off + 4096) (s.setLink l { x with cmds := x.cmds ++ [.block off] })
        else s

/-- Submits every full block that can be (15 R362). -/
def submitFull (s : State) : State := submitBlocks 65 (s.sto.fullOff / 4096 * 4096) s

/-- Counts a refusal of stream n: with FULL or with BUSY (15 R353, R359). -/
def refuse (n : Nat) (full : Bool) (s : State) : State :=
  let x := s.stream n
  let y := { x with refFull := if full then min 0xFFFFFFFF (x.refFull + 1) else x.refFull,
                    refBusy := if full then x.refBusy else min 0xFFFFFFFF (x.refBusy + 1),
                    drop := min 0xFFFF (x.drop + 1) }
  let s1 := s.setStream n y
  let s2 := { s1 with sto := { s1.sto with hdrDirty := true } }
  if full then s2 else s2.setBits .stoStat (bit 0)

/-- Puts a record at its place: pads, the record, the stream's state, and the full blocks submitted (15 R357). -/
def putRecord (r : Rec) (off : Nat) (pads : List (Nat × Nat)) (s : State) : State :=
  let n := r.stream
  let x := s.stream n
  let r' := { r with seq := x.next + 1, prev := x.last, drop := x.drop, off := off }
  let size := recSize r.payload.length
  let s1 := s.setStream n { x with next := x.next + 1, last := off, used := x.used + size, drop := 0 }
  submitFull { s1 with sto := { s1.sto with
    log := s1.sto.log ++ pads.map (fun p => padRec s.recTime p.1 p.2) ++ [r']
    endOff := off + size
    endDirty := true
    hdrDirty := true } }

/-- The bytes used plus the record's size would exceed QUOTA (15 R359). -/
def State.quotaFull (s : State) (n size : Nat) : Bool :=
  let q := fld (s.rd .stoSCtl n) 0 24
  q ≠ 0 && (s.stream n).used + size > q * 1048576

/-- Decides one post and stores it if there is room: the status, whether it was a repeat, and the state (15 R355 to
R359, R362). The alarm and record of a full volume are left to the caller: the flag says that this post set it. -/
def storePost (r : Rec) (noRep : Bool) (s : State) : Status × Bool × Bool × State :=
  let n := r.stream
  let size := recSize r.payload.length
  let same : Bool :=
    match s.lastOpen n with
    | some q => q.code = r.code && q.payload = r.payload
    | none => false
  if (s.rd .stoSCtl n).getLsbD 30 && !noRep && same then (.ok, true, false, storeRepeat n s)
  else if s.quotaFull n size then (.full, false, false, refuse n true s)
  else
    match s.sto.vol with
    | none =>
      if earlyBytes s.sto.early + size > bufSize then (.busy, false, false, refuse n false s)
      else (.ok, false, false, { s with sto := { s.sto with early := s.sto.early ++ [r] } })
    | some v =>
      match placeIn s.online size v.spans s.sto.endOff [] with
      | none =>
        if v.full then (.full, false, false, refuse n true s)
        else
          let s1 := refuse n true s
          (.full, false, true, { s1 with sto := { s1.sto with vol := some { v with full := true } } })
      | some (off, pads) =>
        if off + size - s.sto.fullOff > bufSize then (.busy, false, false, refuse n false s)
        else (.ok, false, false, putRecord r off pads s)

/-- A record that the device posts for a unit (15 R355): stream 0, SYS, the partition concerned, the words of the
payload. -/
def devRec (code : Code) (part : Nat) (ws : List Word) (s : State) : Rec :=
  { sys := true, pad := false, gen := 0, seq := 0, time := s.recTime, rel := 0, tlast := s.recTime, code := code,
    part := BitVec.ofNat 10 part, rpt := 0, drop := 0, stream := 0, prev := 0, off := 0, payload := wordBytes ws }

/-- A post, with the alarm and record of the first refusal because the volume is short (15 R359). -/
def postRec (r : Rec) (noRep : Bool) (s : State) : Status × Bool × State :=
  match storePost r noRep s with
  | (st, rep, false, s') => (st, rep, s')
  | (st, rep, true, s') =>
    let s1 := alarm .sto (s'.setBits .stoStat (bit 2))
    (st, rep, (storePost (devRec (.dev .volumeFull) 0 [] s1) false s1).2.2.2)

/-- Posts a device record with a code (15 R355). -/
def recordCode (code : Code) (part : Nat) (ws : List Word) (s : State) : State :=
  (postRec (devRec code part ws s) false s).2.2

/-- Posts a device record of an event. The code and the payload's layout are not the spec's (DESIGN CHOICE log 10). -/
def record (e : Ev) (part : Nat) (ws : List Word) (s : State) : State := recordCode (.dev e) part ws s

/-- Raises an alarm and writes a record. -/
def alarmRec (u : Unt) (e : Ev) (ws : List Word) (s : State) : State := record e 0 ws (alarm u s)

/-- Supervision records a request for a resource that another user owns (00 R3): requester and resource. -/
def recordDenied (who res : Nat) (s : State) : State := record .deniedOwner 0 [wd who, wd res] s

/-- The record at a log offset. -/
def State.recAt (s : State) (off : Nat) : Option Rec := s.sto.log.find? (fun r => r.off = off)

/-- The bytes that the log holds from a volume offset (15 R360): records as they stand, other bytes are an SSD's own
(DESIGN CHOICE log 12). -/
def logBytes (s : State) (off len : Nat) : List Byte :=
  (List.range (len / 64)).flatMap (fun i =>
    let a := off + 64 * i
    match s.sto.log.find? (fun r => r.off ≤ a && a < r.off + recSize r.payload.length) with
    | some r => slice (recBytes r) (a - r.off) 64
    | none => (List.range 64).map (fun j => Config.staleByte (a + j)))

end Sys2Proof.Machine
end

