-- ==== Sys2Proof/Machine/Memory.lean ====
section
/-!
DEFINITION. Accesses to memory (08 R188 to R196): the errors that an access meets, reads and writes of bytes with poisoned
lines, and the accesses that a unit makes for a partition through its region table.
-/

namespace Sys2Proof.Machine

/-! ### Memory errors (08 R195) -/

/-- A correction is counted: DRAM in bits 31:16, cycle memory in bits 15:0. -/
def countCorr (a : Nat) (s : State) : State :=
  (s.count16 .memCecnt (if isDram a then 16 else 0)).setBits .memEccstat 1

/-- A correction confined to one DRAM device; an alarm for every 1024. -/
def countDevice (a : Nat) (s : State) : State :=
  let s1 := (countCorr a s).setBits .memEccstat (bit 1)
  let n := s1.arb.devCorr + 1
  if n ≥ 1024 then alarm .mem { s1 with arb := { s1.arb with devCorr := 0 } }
  else { s1 with arb := { s1.arb with devCorr := n } }

/-- An uncorrectable error: the line is poisoned, with alarm and record. -/
def memUncorrectable (a : Nat) (s : State) : State :=
  let l := a / 64
  let p := if s.poison.contains l then s.poison else l :: s.poison
  let s1 := (({ s with poison := p }.wr .memUeaddrLo (lo32 (l * 64))).wr .memUeaddrHi (hi32 (l * 64))).setBits
    .memEccstat (bit 2)
  record .memoryError 0 [lo32 (l * 64), hi32 (l * 64)] (alarm .mem s1)

/-- What an access that meets an error of a line does. -/
def meetError (l : Nat) (e : EccErr) (s : State) : State :=
  match e with
  | .none => s
  | .single => countCorr (l * 64) s
  | .device => if isDram (l * 64) then countDevice (l * 64) s else s
  | .double => memUncorrectable (l * 64) s

/-- An access reads line l: an error that lies there is met, and the line is rewritten or poisoned. -/
def settleLine (l : Nat) (s : State) : State :=
  if s.poison.contains l || s.errAt l = .none then s
  else meetError l (s.errAt l) { s with ecc := Tab.set .none s.ecc l .none }

/-- An access reads lines. -/
def settle (ls : List Nat) (s : State) : State := ls.foldl (fun s l => settleLine l s) s

/-! ### Bytes of memory -/

/-- Reads n bytes of memory: FAULT where a line is poisoned, with POISRD where it was before, else OK (08 R195). -/
def memRead (a n : Nat) (s : State) : Status × List Byte × State :=
  let s1 := settle (linesOf a n) s
  if s1.poisoned a n then
    (.fault, List.replicate n 0, if s.poisoned a n then s1.setBits .memEccstat (bit 3) else s1)
  else (.ok, s1.bytes a n, s1)

/-- Writes bytes that lie in one line: a whole line clears its poison; a part of one reads the line first, and is FAULT
where it is poisoned (08 R195). -/
def lineWrite (a : Nat) (bs : List Byte) (s : State) : Status × State :=
  if bs.length = 64 then
    (.ok, { s with poison := s.poison.filter (fun l => l ≠ a / 64), ecc := Tab.set .none s.ecc (a / 64) .none }.setBytes a bs)
  else
    let s1 := settleLine (a / 64) s
    if s1.poison.contains (a / 64) then (.fault, s1) else (.ok, s1.setBytes a bs)

/-- Writes bytes line by line; the first FAULT is the status, and lines that can be written are written. -/
def memWriteN : Nat → Nat → List Byte → Status → State → Status × State
  | 0, _, _, st, s => (st, s)
  | _ + 1, _, [], st, s => (st, s)
  | k + 1, a, bs, st, s =>
    let n := 64 - a % 64
    let r := lineWrite a (bs.take n) s
    memWriteN k (a + n) (bs.drop n) (if st = .ok then r.1 else st) r.2

/-- Writes bytes of memory (08 R195). -/
def memWrite (a : Nat) (bs : List Byte) (s : State) : Status × State := memWriteN (bs.length + 1) a bs .ok s

/-! ### A partition's data space (08 R194) -/

/-- Reads len bytes of partition n's data space, page by page: DENIED where a page is refused (08 R194). -/
def readPieces (n : Nat) : List (Nat × Nat) → State → Status × List Byte × State
  | [], s => (.ok, [], s)
  | (va, m) :: ps, s =>
    match s.xlate n .load va with
    | none => (.denied, [], s)
    | some (pa, _) =>
      if !isMem pa m then (.denied, [], s) else
        let r := memRead pa m s
        let q := readPieces n ps r.2.2
        (if r.1 = .ok then q.1 else r.1, r.2.1 ++ q.2.1, q.2.2)

/-- Reads len bytes of partition n's data space from va. -/
def partRead (n va len : Nat) (s : State) : Status × List Byte × State :=
  readPieces n (pieces (len / 4096 + 2) va len) s

/-- Old bytes from a of those that change, kept beside what is already kept. -/
def keepOld : Nat → List Byte → List Byte → List Host.Cell → List Host.Cell
  | a, b :: bs, c :: cs, l =>
    keepOld (a + 1) bs cs (if b = c || l.any (fun x => x.1 = a) then l else Tab.insert l a b)
  | _, _, _, l => l

/-- A unit writes into private memory of partition n: an executor that runs its job may still hold the old bytes in its
caches (05 R134, 08 R205). -/
def noteStale (n pa : Nat) (bs : List Byte) (s : State) : State :=
  if !s.engs.any (fun x => x.2.job = some (BitVec.ofNat 10 n)) then s
  else
    { s with engs := s.engs.map (fun x =>
        if x.2.job = some (BitVec.ofNat 10 n) then (x.1, { x.2 with stale := keepOld pa (s.bytes pa bs.length) bs x.2.stale })
        else x) }

/-- Writes bytes into partition n's data space, page by page. -/
def writePieces (n : Nat) : List (Nat × Nat) → List Byte → State → Status × State
  | [], _, s => (.ok, s)
  | (va, m) :: ps, bs, s =>
    match s.xlate n .store va with
    | none => (.denied, s)
    | some (pa, sh) =>
      if !isMem pa m then (.denied, s) else
        let r := memWrite pa (bs.take m) (if sh then s else noteStale n pa (bs.take m) s)
        let q := writePieces n ps (bs.drop m) r.2
        (if r.1 = .ok then q.1 else r.1, q.2)

/-- Writes bytes into partition n's data space from va. -/
def partWrite (n va : Nat) (bs : List Byte) (s : State) : Status × State :=
  writePieces n (pieces (bs.length / 4096 + 2) va bs.length) bs s

/-! ### Staging (07 R167) -/

/-- A unit writes bytes into partition n's staging block at an offset; while the snapshot is being copied they are
held and applied to staging afterwards (07 R167). -/
def stageBytes (n off : Nat) (bs : List Byte) (s : State) : State :=
  let p := s.part n
  if p.snapping then
    s.setPart n { p with heldW := p.heldW ++ bs.zipIdx.map (fun x => (s.stagAddr n + off + x.2, x.1)) }
  else (memWrite (s.stagAddr n + off) bs s).2

end Sys2Proof.Machine
end

