-- ==== Sys2Proof/Machine/Access.lean ====
section
/-!
DEFINITION. Who may make a register access: the foundry partition's own registers, the debug port's level (18 R418), and
the fuse values that units consult.
-/

namespace Sys2Proof.Machine

/-- The partition that an initiator acts as: the debug port acts as the foundry partition (18 R418; DEDUCED log 16). -/
def whoPart : Who → Nat
  | .part p => p.toNat
  | .dbg => 0

/-- The bank of a register latched per initiator: one per partition, and one for the debug port. -/
def whoBank : Who → Nat
  | .part p => p.toNat
  | .dbg => 1024

/-- The debug level: the number of programmed DBGLOCK bits (17 R383). -/
def debugLevel (s : State) : Nat :=
  let w := s.fuse 0
  b2n (w.getLsbD 0) + b2n (w.getLsbD 1) + b2n (w.getLsbD 2)

/-- A class S partition is in WAIT, QUEUED or RUN (18 R418). -/
def classSActive (s : State) : Bool :=
  s.parts.any (fun p => s.isS p.1 &&
    (match p.2.state with
     | .wait | .queued | .run => true
     | _ => false))

/-- The level lets the debug port write, halt and step (18 R418). -/
def debugWrites (s : State) : Bool := debugLevel s = 0 || (debugLevel s = 1 && !classSActive s)

/-- The level lets the debug port read a register at this address (18 R418). -/
def debugReads (s : State) (a : Nat) : Bool :=
  debugLevel s ≤ 1 ||
    (debugLevel s = 2 &&
      ((0x6000000000 ≤ a && a < 0x6000010000) || (0x6000100000 ≤ a && a < 0x6000300000) ||
        (0x6000A00000 ≤ a && a < 0x6000B00000)))

/-- An access of the debug port that its level refuses (18 R418). -/
def refuseDebug (s : State) : State := (record .debugRefused 0 [] (s.setBits .supDbgstat (bit 2))).reply .denied

/-- An action that only the foundry partition takes; the debug port may where its level lets it write. -/
def asFnd (w : Who) (s : State) (f : State → State) : State :=
  match w with
  | .part p => if p = 0 then f s else s.reply .denied
  | .dbg => if debugWrites s then f s else refuseDebug s

/-- A write that any partition makes for itself. -/
def asAny (w : Who) (s : State) (f : Nat → State → State) : State :=
  match w with
  | .part p => f p.toNat s
  | .dbg => if debugWrites s then f 0 s else refuseDebug s

/-- A read that any partition makes for itself. -/
def asReader (w : Who) (r : Reg) (s : State) (f : Nat → State → State) : State :=
  match w with
  | .part p => f p.toNat s
  | .dbg => if debugReads s r.row.base then f 0 s else refuseDebug s

/-- A read that only the foundry partition, or the debug port, makes. -/
def fndRead (w : Who) (r : Reg) (s : State) (f : State → State) : State :=
  asReader w r s (fun n s => if n = 0 then f s else s.reply .denied)

/-- The device identity; 0 while the ID section is unlocked (17 R383, R384). -/
def devid (s : State) : Nat :=
  if (s.fuse 0).getLsbD 16 then (s.fuse 1).toNat + 4294967296 * fld (s.fuse 2) 0 16 else 0

/-- A bit of the S-ownership map; no channel is an S channel while the section is unlocked (17 R383, R384). -/
def sChannel (s : State) (word : Nat) (c : Nat) : Bool :=
  (s.fuse 0).getLsbD 18 && (s.fuse (word + c / 32)).getLsbD (c % 32)

/-- The pin-ownership entry i names partition n (18 R421). -/
def ownsPin (s : State) (i n : Nat) : Bool :=
  let w := s.rd .supPinown i
  w.getLsbD 31 && fld w 12 2 = 0 && fld w 0 10 = n

/-- A write of 0 clears, any other value returns DENIED. -/
def clearOnZero (r : Reg) (v : Word) (s : State) (i : Nat := 0) (j : Nat := 0) : State :=
  if v = 0 then (s.wr r 0 i j).reply .ok else s.reply .denied

end Sys2Proof.Machine
end

