-- ==== Sys2Proof/WellFormed.lean ====
section
/-!
DEFINITION. Which commands are well formed: an instruction that a word can spell, and frames that a wire can carry.
-/

namespace Sys2Proof

/-- The number of data bytes that a DLC stands for (12 R292: ISO 11898-1). -/
def dlcLen (fdf : Bool) (dlc : BitVec 4) : Nat :=
  if dlc.toNat ≤ 8 then dlc.toNat
  else if fdf then [12, 16, 20, 24, 32, 48, 64].getD (dlc.toNat - 9) 64 else 8

/-- A CAN frame carries the bytes its DLC names, none if it is remote, and an 11-bit identifier without XTD. -/
def CanFrame.wf (f : CanFrame) : Bool :=
  (f.data.length = if f.rtr then 0 else dlcLen f.fdf f.dlc) && !(f.fdf && f.rtr) && (f.xtd || decide (f.id.toNat < 2 ^ 11))

/-- A command is well formed. -/
def Instr.wf : Instr → Bool
  | .shi _ _ _ kind _ => kind ≤ 4
  | .bld _ o => bitLegal false o
  | .bldn _ o => bitLegal false o
  | .band _ o => bitLegal false o
  | .bandn _ o => bitLegal false o
  | .bor _ o => bitLegal false o
  | .born _ o => bitLegal false o
  | .bxor _ o => bitLegal false o
  | .bxorn _ o => bitLegal false o
  | .bset _ o => bitLegal false o
  | .bclr _ o => bitLegal false o
  | .basg _ o => bitLegal false o
  | .brise _ o => bitLegal true o
  | .bfall _ o => bitLegal true o
  | .canFrameReceive _ f => f.wf
  | .illegalInstruction e iw => (gleigDecode e iw).isNone
  | _ => true

end Sys2Proof
end

