-- ==== Sys2Proof/Machine/CanBus.lean ====
section
/-!
DEFINITION. The CAN FD controllers (12).
-/

namespace Sys2Proof.Machine

/-! ### Settings in force -/

/-- The active CTL of controller n. -/
def canCtl (s : State) (n : Nat) : Word := s.rdA .canCtlS n
/-- EN of controller n. -/
def canEn (s : State) (n : Nat) : Bool := (canCtl s n).getLsbD 31
/-- MODE of controller n: 0 normal, 1 listen-only, 2 automatic rate detection (12 R303). -/
def canMode (s : State) (n : Nat) : Nat := fld (canCtl s n) 22 2
/-- Number of receive elements (12 R302). -/
def canRxn (s : State) (n : Nat) : Nat := fld (s.rdA .canRamS n) 8 8
/-- Number of transmit elements. -/
def canTxn (s : State) (n : Nat) : Nat := fld (s.rdA .canRamS n) 0 8
/-- The data size that an ESZ code selects (12 R303). -/
def canDs (esz : Nat) : Nat :=
  match esz with
  | 0 => 8 | 1 => 12 | 2 => 16 | 3 => 20 | 4 => 24 | 5 => 32 | 6 => 48 | _ => 64
/-- The data length that a DLC codes under ISO 11898-1. -/
def canLen (fdf : Bool) (dlc : Nat) : Nat := dlcLen fdf (BitVec.ofNat 4 dlc)
/-- The owner of controller n, if any (12 R294). -/
def canOwner (s : State) (n : Nat) : Option Nat :=
  let w := s.rd .canOwn n
  if w.getLsbD 31 then some (fld w 0 10) else none
/-- The controller runs: enabled, its clock there (12 R288, 02 R35), not in bus-off and not stuck. -/
def canLive (s : State) (n : Nat) : Bool :=
  canEn s n && netsUp s && !(s.can n).dead &&
    (match (s.can n).state with
     | .active | .passive => true
     | .busOff | .stuck => false)

/-! ### Completion of elements -/

/-- The next index in a ring of n elements. -/
def ringNext (n i : Nat) : Nat := if i + 1 ≥ n then 0 else i + 1

/-- The index up to which elements may be taken: the commit's with TXCOMMIT, else TXPUT (12 R294, R295). -/
def canLimit (s : State) (n : Nat) : Nat :=
  if (canCtl s n).getLsbD 29 then (s.can n).coPut else fld (s.rd .canTxput n) 0 8

/-- Records the completion of k elements with a status (12 R302 TXSTAT). -/
def canTxstat (n k : Nat) (st : Status) (s : State) : State :=
  if k = 0 then s
  else
    let w := s.rd .canTxstat n
    let c := if st = .ok then fld w 16 16 else min 0xFFFF (fld w 16 16 + k)
    s.wr .canTxstat (wd (c * 65536 + st.code)) n

/-- The head element completes with a status (12 R294). -/
def canComplete (n : Nat) (st : Status) (s : State) : State :=
  canTxstat n 1 st (s.wr .canTxhead (wd (ringNext (canTxn s n) (fld (s.rd .canTxhead n) 0 8))) n)

/-- Every element before an index completes with ABORTED. -/
def canAbortTo (n lim : Nat) (s : State) : State :=
  let h := fld (s.rd .canTxhead n) 0 8
  let k := if h ≤ lim then lim - h else canTxn s n + lim - h
  canTxstat n k .aborted (s.wr .canTxhead (wd lim) n)

/-- Every queued element, committed or not, completes with ABORTED: TXHEAD moves to TXPUT (12 R294, R297, R298). -/
def canAbort (n : Nat) (s : State) : State :=
  let p := fld (s.rd .canTxput n) 0 8
  let s1 := canAbortTo n p s
  s1.setCan n { s1.can n with coPut := p, cyPut := p }

/-- The owner stops: every element that has not started completes with ABORTED (12 R296). -/
def canStop (n : Nat) (s : State) : State := canAbort n s

/-! ### Error confinement (12 R297; the counts follow ISO 11898-1, PRESUMED log 19) -/

/-- Bus-off entries within WIN, this one among them, have reached BOLIM (12 R297). -/
def canSuspended (s : State) (n : Nat) : Bool :=
  let w := s.rdA .canBocfgS n
  let lim := fld w 0 4
  lim ≠ 0 && decide (lim ≤ ((s.can n).offs.filter (fun t => s.now < t + fld w 8 8 * 1000000000)).length)

/-- Bus-off entry (12 R297). -/
def canBusOff (n : Nat) (s : State) : State :=
  let x := s.can n
  let s1 := s.setCan n { x with state := .busOff, recov := false, offs := (s.now :: x.offs).take 16 }
  let auto := (canCtl s1 n).getLsbD 28 && !canSuspended s1 n
  let s2 := s1.setCan n { s1.can n with recov := auto }
  let s3 := (canAbort n s2).setBits .canStat (bit 0) n
  alarmRec .can .canBusOff [wd n] (s3.count .canCnt 1 n 5)

/-- The error state that the counts give: bus-off above a TEC of 255, passive above 127 (ISO 11898-1). -/
def canJudge (n : Nat) (s : State) : State :=
  let x := s.can n
  match x.state with
  | .busOff | .stuck => s
  | .active | .passive =>
    if x.teCnt > 255 then canBusOff n s
    else if x.teCnt > 127 ∨ x.reCnt > 127 then
      let s1 := s.setCan n { x with state := .passive }
      if x.state = .active then s1.setBits .canStat (bit 1) n else s1
    else s.setCan n { x with state := .active }

/-- A receive error: LEC, and REC rises by 1, or by 8 in or after an error flag, on a node that is not silent. -/
def canRxError (n : Nat) (lec : BitVec 3) (inFlag : Bool) (s : State) : State :=
  let x := s.can n
  if canMode s n = 0 then canJudge n (s.setCan n { x with lec := lec, reCnt := min 255 (x.reCnt + if inFlag then 8 else 1) })
  else s.setCan n { x with lec := lec }

/-- A transmit error: LEC, and TEC rises by 8, but for an acknowledgement error of an error-passive node. -/
def canTxError (n : Nat) (lec : BitVec 3) (s : State) : State :=
  let x := s.can n
  let up := if lec = 3 ∧ x.state = .passive then 0 else 8
  canJudge n (s.setCan n { x with lec := lec, teCnt := x.teCnt + up })

/-- A valid reception: REC falls by 1, or to 119 to 127 from above 127. -/
def canRxGood (n : Nat) (s : State) : State :=
  let x := s.can n
  if canMode s n ≠ 0 then s
  else if x.reCnt > 127 then
    canJudge n (s.spend.setCan n { x with reCnt := 119 + (Config.canRec s.free).val, lec := 0 })
  else canJudge n (s.setCan n { x with reCnt := x.reCnt - 1, lec := 0 })

/-- A successful transmission: TEC falls by 1. -/
def canTxGood (n : Nat) (s : State) : State :=
  let x := s.can n
  canJudge n (s.setCan n { x with teCnt := x.teCnt - 1, lec := 0 })

/-- FD remote frames do not exist: RTR of an FD frame or element is ignored (12 R287; DEDUCED log 172). -/
def isRemote (fdf rtr : Bool) : Bool := rtr && !fdf

/-! ### Filters (12 R292) -/

/-- The active words of filter entry i. -/
def canFilter (s : State) (n i : Nat) : Word × Word := (s.rdBA i .canFltId1S n, s.rdBA i .canFltId2S n)

/-- A filter entry matches an identifier. -/
def canMatch (f : Word × Word) (xtd : Bool) (id : Nat) : Bool :=
  let id1 := fld f.1 0 29
  let id2 := fld f.2 0 29
  (f.1.getLsbD 29 == xtd) &&
    (match fld f.1 30 2 with
     | 0 => false
     | 1 => id1 ≤ id && id ≤ id2
     | 2 => id = id1 || id = id2
     | _ => (id &&& id2) = (id1 &&& id2))

/-- The first entry from i on that matches, of k entries. -/
def canFirst (s : State) (n : Nat) (xtd : Bool) (id : Nat) : Nat → Nat → Option Nat
  | 0, _ => none
  | k + 1, i => if canMatch (canFilter s n i) xtd id then some i else canFirst s n xtd id k (i + 1)

/-- The decision for a frame: the index of the filter that stores it, 1FFh under NOMATCH, none if it is rejected. -/
def canDecide (s : State) (n : Nat) (f : CanFrame) : Option Nat :=
  let ctl := canCtl s n
  if ctl.getLsbD 25 && isRemote f.fdf f.rtr then none
  else
    match canFirst s n f.xtd f.id.toNat (min 256 (fld (s.rdA .canRamS n) 16 9)) 0 with
    | some i => if fld (canFilter s n i).2 30 2 = 0 then some i else none
    | none => if ctl.getLsbD 24 then some 0x1FF else none

/-! ### Receiving (12 R291, R293) -/

/-- The start-of-frame stamp of a frame, in ns: a multiple of 12.5 ns within 25 ns of the edge as the unit's replica shows it;
which one is a free value (12 R291; DESIGN CHOICE log 171). -/
def canSof (f : CanFrame) (s : State) : Nat :=
  let edge : Int := s.nowAt 7 - (f.age.toNat : Int)
  let q : Int := 2 * edge / 25
  let d : Int := ((Config.canStamp s.free).val : Int) - 2
  let k : Int := if d = -2 ∧ 2 * edge % 25 ≠ 0 then -1 else d
  ((q + k) * 25 / 2).toNat

/-- The words of a receive element. -/
def canElem (f : CanFrame) (idx now : Nat) : List Word :=
  let n := canLen f.fdf f.dlc.toNat
  let d := if isRemote f.fdf f.rtr then [] else padTo 0 n f.data
  let word (i : Nat) : Word := wd (leNat (slice d (4 * i) 4))
  [wd (b2n f.xtd * 2 ^ 31 + b2n (isRemote f.fdf f.rtr) * 2 ^ 30 + b2n f.esi * 2 ^ 29 + f.id.toNat),
   wd (b2n f.fdf * 2 ^ 31 + b2n f.brs * 2 ^ 30 + f.dlc.toNat * 65536 + idx), lo32 now, hi32 now] ++
    (List.range ((d.length + 3) / 4)).map word

/-- Sets words of a table from a key on. -/
def setWords (t : Tab Word) (k : Nat) (ws : List Word) : Tab Word :=
  ws.zipIdx.foldl (fun u x => Tab.set 0 u (k + x.2) x.1) t

/-- Stores a frame that passed the filters: RXSIZE, RXLOST or the FIFO (12 R291, R294). -/
def canStore (n idx : Nat) (f : CanFrame) (s : State) : State :=
  let x := s.can n
  let len := if isRemote f.fdf f.rtr then 0 else canLen f.fdf f.dlc.toNat
  if len > canDs (fld (canCtl s n) 16 3) then s.count .canCnt 1 n 3
  else if ringNext (canRxn s n) x.put = fld (s.rd .canRxget n) 0 8 then
    (s.count .canCnt 1 n 1).setBits .canStat (bit 4) n
  else
    let clear := (List.range 20).foldl (fun u i => Tab.erase u (20 * x.put + i)) x.rx
    (s.spend.setCan n { x with rx := setWords clear (20 * x.put) (canElem f idx (canSof f s)),
                               put := ringNext (canRxn s n) x.put }).count .canCnt 1 n 0

/-- The lowest valid candidate at or after i, of k candidates (12 R300). -/
def ardNext (s : State) (n : Nat) : Nat → Nat → Option Nat
  | 0, _ => none
  | k + 1, i => if (s.rd .canArdNbt n i).getLsbD 4 then some i else ardNext s n k (i + 1)

/-- The lowest valid candidate. -/
def ardFirst (s : State) (n : Nat) : Option Nat := ardNext s n 16 0

/-- The candidate in use is rejected: the next valid index, with a round counted at the wrap (12 R300). -/
def ardReject (n : Nat) (s : State) : State :=
  let x := s.can n
  match ardNext s n (15 - x.ard.1) (x.ard.1 + 1) with
  | some i => (s.setCan n { x with ard := (i, 0), ardBrs := false }).wr .canArdstat (wd i) n
  | none =>
    let i := (ardFirst s n).getD 0
    let s1 := (s.setCan n { x with ard := (i, 0), ardBrs := false }).wr .canArdstat (wd i) n
    (s1.count .canCnt 1 n 7).setBits .canStat (bit 6) n

/-- A valid frame under the candidate: the second in a row locks (12 R300). -/
def ardValid (n : Nat) (f : CanFrame) (s : State) : State :=
  let x := s.can n
  let brs := x.ardBrs || f.brs
  if x.ard.2 = 0 then s.setCan n { x with ard := (x.ard.1, 1), ardBrs := brs }
  else
    let nbt := s.rd .canArdNbt n x.ard.1 &&& ~~~ bit 4
    let dbt := s.rd .canArdDbt n x.ard.1
    let s1 := s.setCan n { x with timing := (nbt, dbt), ard := (x.ard.1, 2), ardBrs := brs }
    let s2 := (s1.wrA .canNbtS nbt n).wrA .canDbtS dbt n
    (s2.wr .canArdstat (wd (2 ^ 31 + b2n brs * 2 ^ 30 + x.ard.1)) n).setBits .canStat (bit 5) n

/-- Rate detection has not locked yet. -/
def ardSearching (s : State) (n : Nat) : Bool := canMode s n = 2 && !(s.rd .canArdstat n).getLsbD 31

/-- CAN_FRAME_RECEIVE (12 R287, R292, R293, R300): filtered and stored, or an error. -/
def canFrameReceive (n : Fin 20) (f : CanFrame) (s : State) : State :=
  if !canLive s n then s
  else
    let err : BitVec 3 := if f.err ≠ 0 then f.err else if f.fdf && !(canCtl s n).getLsbD 27 then 2 else 0
    if ardSearching s n then
      if err = 1 ∨ err = 2 ∨ err = 6 then ardReject n (canRxError n err f.inFlag s)
      else if err = 0 then ardValid n f s else canRxError n err f.inFlag s
    else if err ≠ 0 then canRxError n err f.inFlag s
    else
      let s1 := canRxGood n s
      match canDecide s1 n f with
      | none => s1.count .canCnt 1 n 2
      | some i => canStore n i f s1

/-- CAN_FRAME_RECEIVE (12 R293). -/
def execCanFrameReceive (n : Fin 20) (f : CanFrame) (s : State) : Host.Outcome State Fault Refusal :=
  .next (canFrameReceive n f s)

/-! ### Transmitting (12 R294, R299) -/

/-- Words 0 and 1 of the head element of the transmit queue. -/
def canHead (s : State) (n : Nat) : Word × Word :=
  let h := fld (s.rd .canTxhead n) 0 8
  (Tab.get 0 (s.can n).tx (20 * h), Tab.get 0 (s.can n).tx (20 * h + 1))

/-- The element cannot be sent: its size or format (12 R291). -/
def canBadElem (s : State) (n : Nat) (e : Word × Word) : Bool :=
  let ctl := canCtl s n
  let fdf := e.2.getLsbD 31
  (!isRemote fdf (e.1.getLsbD 30) && decide (canLen fdf (fld e.2 16 4) > canDs (fld ctl 16 3))) || (fdf && !ctl.getLsbD 27) ||
    (e.2.getLsbD 30 && !ctl.getLsbD 26)

/-- Identifier and XTD of an element as the stored pair keeps them. -/
def canIdKey (w : Word) : Nat := fld w 0 29 + 2 ^ 31 * b2n (w.getLsbD 31)

/-- A bit error in the data field: the clash count, and MISMATCH at 8 (12 R299). -/
def canClashStep (n : Nat) (e : Word × Word) (pos : Nat) (s : State) : State × Bool :=
  let x := s.can n
  let key := canIdKey e.1
  let c := if x.clash = some (key, pos) then x.clashN + 1 else 1
  if c ≥ 8 then
    let s1 := s.setCan n { x with clash := none, clashN := 0 }
    let s2 := ((s1.wr .canClash (wd key) n).wr .canClashpos (wd pos) n).setBits .canStat (bit 3) n
    (canComplete n .mismatch (alarmRec .can .canClash [wd n, wd key, wd pos] s2), true)
  else (s.setCan n { x with clash := some (key, pos), clashN := c }, false)

/-- An element that met an error: retried, or FAULT if SINGLE (12 R294). -/
def canFailed (n : Nat) (e : Word × Word) (st : Status) (s : State) : State :=
  if e.2.getLsbD 0 then canComplete n st s else s

/-- A successful transmission (12 R294, R299). -/
def canSent (n : Nat) (e : Word × Word) (s : State) : State :=
  let x := s.can n
  let x' := if x.clash.map (·.1) = some (canIdKey e.1) then { x with clash := none, clashN := 0 } else x
  canTxGood n (canComplete n .ok ((s.setCan n x').count .canCnt 1 n 4))

/-- CAN_TRANSMIT (12 R291, R294, R297, R299): the head element meets the bus. -/
def canTransmit (n : Fin 20) (r : CanResult) (s : State) : State :=
  if !canLive s n || canMode s n ≠ 0 || fld (s.rd .canTxhead n) 0 8 = canLimit s n then s
  else
    let e := canHead s n
    if canBadElem s n e then canComplete n .size s
    else
      match r with
      | .ok => canSent n e s
      | .arbLost => canFailed n e .busy s
      | .bitErr pos rec =>
        let q := canClashStep n e pos.toNat s
        let s1 := if q.2 then q.1 else canFailed n e .fault q.1
        canTxError n (if rec then 4 else 5) s1
      | .error lec => canTxError n lec (canFailed n e .fault s)

/-- CAN_TRANSMIT (12 R294). -/
def execCanTransmit (n : Fin 20) (r : CanResult) (s : State) : Host.Outcome State Fault Refusal :=
  .next (canTransmit n r s)

/-! ### The owner's registers (12 R294) -/

/-- The initiator is the owner of controller n or the foundry partition. -/
def canMayUse (w : Who) (n : Nat) (s : State) : Bool := whoPart w = 0 || canOwner s n = some (whoPart w)

/-- An access of the owner or the foundry partition; others get DENIED. -/
def asOwner (w : Who) (n : Nat) (s : State) (f : State → State) : State :=
  if w = .dbg && !debugWrites s then refuseDebug s
  else if canMayUse w n s then f s else s.reply .denied

/-- RXGET_WRITE (12 R294): frees every element before it. -/
def rxgetWrite (w : Who) (n : Nat) (v : Word) (s : State) : State :=
  asOwner w n s fun s =>
    if fld v 0 8 ≥ canRxn s n then s.reply .denied else (s.wr .canRxget (v &&& 0xFF) n).reply .ok

/-- RXGET_WRITE (12 R294). -/
def execRxgetWrite (w : Who) (n : Fin 20) (v : Word) (s : State) : Host.Outcome State Fault Refusal :=
  .next (rxgetWrite w n v s)

/-- TXPUT_WRITE (12 R294): queues, or FULL where TXPUT would equal TXHEAD. -/
def txputWrite (w : Who) (n : Nat) (v : Word) (s : State) : State :=
  asOwner w n s fun s =>
    let p := fld v 0 8
    if p ≥ canTxn s n then s.reply .denied
    else if p ≠ fld (s.rd .canTxput n) 0 8 ∧ p = fld (s.rd .canTxhead n) 0 8 then s.reply .full
    else (s.wr .canTxput (wd p) n).reply .ok

/-- TXPUT_WRITE (12 R294). -/
def execTxputWrite (w : Who) (n : Fin 20) (v : Word) (s : State) : Host.Outcome State Fault Refusal :=
  .next (txputWrite w n v s)

/-- A write of word j of the transmit window: the element at TXPUT (12 R294). -/
def txwinWrite (w : Who) (n j : Nat) (v : Word) (s : State) : State :=
  asOwner w n s fun s =>
    let x := s.can n
    (s.setCan n { x with tx := Tab.set 0 x.tx (20 * fld (s.rd .canTxput n) 0 8 + j) v }).reply .ok

/-- RXPUT as the owner reads it (12 R295). -/
def canRxputSeen (s : State) (n : Nat) : Nat :=
  if (canCtl s n).getLsbD 30 then (s.can n).snap else (s.can n).put

/-- Word j of the receive window (12 R294, R295). -/
def rxwinRead (s : State) (n j : Nat) : Word :=
  let g := fld (s.rd .canRxget n) 0 8
  if (canCtl s n).getLsbD 30 && g = (s.can n).snap then 0 else Tab.get 0 (s.can n).rx (20 * g + j)

/-! ### Bus-off, stuck dominance, rate detection, timing -/

/-- BUS_OFF_RECOVERY_COMPLETE (12 R297). -/
def busOffRecoveryComplete (n : Fin 20) (s : State) : State :=
  let x := s.can n
  if x.state = .busOff && x.recov && !x.dead && netsUp s then
    s.setCan n { x with state := .active, teCnt := 0, reCnt := 0, recov := false }
  else s

/-- BUS_OFF_RECOVERY_COMPLETE (12 R297). -/
def execBusOffRecoveryComplete (n : Fin 20) (s : State) : Host.Outcome State Fault Refusal :=
  .next (busOffRecoveryComplete n s)

/-- RECOVER (12 R297, R302): outside bus-off DENIED. -/
def canRecover (w : Who) (n : Nat) (s : State) : State :=
  asFnd w s fun s =>
    let x := s.can n
    if x.state = .busOff then (s.setCan n { x with recov := true }).reply .ok else s.reply .denied

/-- RECOVER (12 R297). -/
def execRecover (w : Who) (n : Fin 20) (s : State) : Host.Outcome State Fault Refusal := .next (canRecover w n s)

/-- STUCK_DOMINANT (12 R298). -/
def stuckDominant (n : Fin 20) (s : State) : State :=
  let x := s.can n
  if !canEn s n || x.dead || !netsUp s || x.state = .stuck then s
  else
    let s1 := canAbort n (s.setCan n { x with state := .stuck, saved := x.state })
    alarmRec .can .canStuck [wd n] ((s1.setBits .canStat (bit 2) n).count .canCnt 1 n 6)

/-- STUCK_DOMINANT (12 R298). -/
def execStuckDominant (n : Fin 20) (s : State) : Host.Outcome State Fault Refusal := .next (stuckDominant n s)

/-- STUCK_RELEASE (12 R298). -/
def stuckRelease (n : Fin 20) (s : State) : State :=
  let x := s.can n
  if x.state = .stuck && !x.dead && netsUp s then s.setCan n { x with state := x.saved } else s

/-- STUCK_RELEASE (12 R298). -/
def execStuckRelease (n : Fin 20) (s : State) : Host.Outcome State Fault Refusal := .next (stuckRelease n s)

/-- ARD_DWELL_EXPIRY (12 R300): the candidate is rejected. -/
def ardDwellExpiry (n : Fin 20) (s : State) : State :=
  if canLive s n && ardSearching s n then ardReject n s else s

/-- ARD_DWELL_EXPIRY (12 R300). -/
def execArdDwellExpiry (n : Fin 20) (s : State) : Host.Outcome State Fault Refusal := .next (ardDwellExpiry n s)

/-- TIMING_APPLY (12 R289): the active timing comes into force. -/
def timingApply (n : Fin 20) (s : State) : State :=
  if canEn s n && !ardSearching s n then
    s.setCan n { s.can n with timing := (s.rdA .canNbtS n, s.rdA .canDbtS n) }
  else s

/-- TIMING_APPLY (12 R289). -/
def execTimingApply (n : Fin 20) (s : State) : Host.Outcome State Fault Refusal := .next (timingApply n s)

/-! ### Swaps, releases, commits and stops of the owner (12 R295, R296) -/

/-- The shadow keys of controller n: its _S registers and its filter list. -/
def canShadowKey (n k : Nat) : Bool :=
  let a := k % 2 ^ 40
  let b := 0x6000700000 + n * 0x1000
  if k < 2 ^ 40 then
    a = b + 0x4 || a = b + 0x8 || a = b + 0xC || a = b + 0x10 || a = b + 0x20 || a = b + 0x24
  else a = b + 0x114 || a = b + 0x118

/-- What a change of the active CTL does: rate detection starts at the lowest candidate; a timing that comes with the
enable is in force at once; where TXCOMMIT comes on, what is queued so far may be taken (12 R289, R295, R300). -/
def canAfterSwap (n : Nat) (old : Word) (s : State) : State :=
  let new := canCtl s n
  let x := s.can n
  let p := fld (s.rd .canTxput n) 0 8
  let s0 := if new.getLsbD 29 && !old.getLsbD 29 then s.setCan n { x with coPut := p, cyPut := p } else s
  let s1 := if old.getLsbD 31 then s0 else s0.setCan n { s0.can n with timing := (s.rdA .canNbtS n, s.rdA .canDbtS n) }
  if new.getLsbD 31 && fld new 22 2 = 2 && !(old.getLsbD 31 && fld old 22 2 = 2) then
    let i := (ardFirst s1 n).getD 0
    (s1.setCan n { s1.can n with ard := (i, 0), ardBrs := false }).wr .canArdstat (wd i) n
  else s1

/-- All _S registers of controller n and its filter list swap (12 R292, 00 R9). -/
def canSwap (n : Nat) (s : State) : State := canAfterSwap n (canCtl s n) (s.swapAll (canShadowKey n) 0x400)

/-- The controllers that partition p owns. -/
def cansOf (s : State) (p : Nat) : List Nat := (List.range 20).filter (fun n => canOwner s n = some p)

/-- Applies an operation to every controller of a partition. -/
def onCans (p : Nat) (f : Nat → State → State) (s : State) : State := (cansOf s p).foldl (fun s n => f n s) s

/-- The owner's release: RXPUT is snapped (12 R295). -/
def canRelease (n : Nat) (s : State) : State := s.setCan n { s.can n with snap := (s.can n).put }

/-- The owner's CYEND: the TXPUT that its commit will take (12 R295). -/
def canCyend (n : Nat) (s : State) : State := s.setCan n { s.can n with cyPut := fld (s.rd .canTxput n) 0 8 }

/-- The owner's commit: elements up to the TXPUT at CYEND may be taken; in bus-off they complete with ABORTED
(12 R295, R297). -/
def canCommit (n : Nat) (s : State) : State :=
  let x := s.can n
  let s1 := s.setCan n { x with coPut := x.cyPut }
  if x.state = .busOff && (canCtl s n).getLsbD 29 then canAbortTo n x.cyPut s1 else s1

/-- The owner's miss: with TXCOMMIT, TXPUT returns to its value at the last commit, and the elements beyond it complete
with ABORTED (12 R295, 09 R222). -/
def canMiss (n : Nat) (s : State) : State :=
  if (canCtl s n).getLsbD 29 then
    let p := fld (s.rd .canTxput n) 0 8
    let c := (s.can n).coPut
    canTxstat n (if c ≤ p then p - c else canTxn s n + p - c) .aborted (s.wr .canTxput (wd c) n)
  else s

/-- The peripheral clock stops: the controller is stopped until a boot passes step 2 (12 R288). -/
def canClockLoss (n : Nat) (s : State) : State :=
  let s1 := canAbort n s
  s1.setCan n { s1.can n with dead := true }

/-! ### Register writes (12 R289, R290, R294, R302, R303) -/

/-- The nominal timing word is refused (12 R289). -/
def nbtBad (v : Word) : Bool :=
  fld v 17 8 = 0 || decide (fld v 25 7 > fld v 10 7) ||
    decide ((fld v 5 5 + 1) * (1 + (fld v 17 8 + 1) + (fld v 10 7 + 1)) < 80)

/-- The data timing word is refused (12 R289). -/
def dbtBad (v : Word) : Bool :=
  decide (fld v 20 4 > fld v 11 4) || decide ((fld v 6 5 + 1) * (1 + (fld v 15 5 + 1) + (fld v 11 4 + 1)) < 10) ||
    (v.getLsbD 31 && decide (fld v 6 5 > 1))

/-- The message RAM does not fit, or has no elements (12 R290). -/
def ramBad (ram ctl : Word) : Bool :=
  fld ram 8 8 = 0 || fld ram 0 8 = 0 ||
    decide (8 * fld ram 16 9 + (fld ram 8 8 + fld ram 0 8) * (16 + canDs (fld ctl 16 3)) > 8192)

/-- The balls of controller n are assigned to it (12 R288, 18 R421). -/
def canPins (s : State) (n : Nat) : Bool :=
  let w := s.rd .supPinown (192 + n)
  w.getLsbD 31 && fld w 12 2 = 3

/-- The owner is class S, by its shadow before it is admitted. -/
def canOwnerS (s : State) (n : Nat) : Bool :=
  match canOwner s n with
  | some p => clsShadow s p = 1
  | none => false

/-- A CTL write that sets EN is refused (12 R288, R290, R295, R300). -/
def canEnableBad (s : State) (n : Nat) (v : Word) : Bool :=
  !canPins s n || ramBad (s.rd .canRamS n) v || (canOwnerS s n && !(v.getLsbD 30 && v.getLsbD 29)) ||
    (fld v 22 2 = 2 && (ardFirst s n).isNone)

/-- The controller's _S writes take effect in both copies at once (12, Registers). -/
def canBoth (s : State) (n : Nat) : Bool := (canOwner s n).isNone || !s.schEn

/-- Writes an _S register of controller n, and its active copy where both take it. -/
def canPutS (r : Reg) (n : Nat) (v : Word) (s : State) : State :=
  let s1 := s.put r v n
  (if canBoth s n then s1.wrA r (s1.rd r n) n else s1).reply .ok

/-- A timing that both copies take at once while the controller is not enabled is in force at once (12 R289). -/
def canTimingNow (n : Nat) (s : State) : State :=
  if canEn s n then s else s.setCan n { s.can n with timing := (s.rdA .canNbtS n, s.rdA .canDbtS n) }

/-- A write of CTL_S (12 R303). -/
def canCtlWrite (w : Who) (n : Nat) (v : Word) (s : State) : State :=
  asFnd w s fun s =>
    if fld v 22 2 = 3 then s.reply .denied
    else if v.getLsbD 31 && !canPins s n then (recordDenied (whoPart w) (192 + n) s).reply .denied
    else if v.getLsbD 31 && canEnableBad s n v then s.reply .denied
    else canAfterSwap n (canCtl s n) (canPutS .canCtlS n v s)

/-- CAN_ENABLE (12 R288, R303): a write of CTL_S. -/
def execCanEnable (w : Who) (n : Fin 20) (v : Word) (s : State) : Host.Outcome State Fault Refusal :=
  .next (canCtlWrite w n v s)

/-- The filter entry that FLTSEL shows. -/
def canSel (s : State) (n : Nat) : Nat := fld (s.rd .canFltsel n) 0 8

/-- A write of a filter word (12 R292, R294, R302). -/
def canFltWrite (r : Reg) (n : Nat) (v : Word) (s : State) : State :=
  let b := canSel s n
  let x := r.merge 0 v
  let s1 := s.wrB b r x n
  (if canBoth s n then s1.wrBA b r x n else s1).reply .ok

/-- Writes of CAN registers with checks of their own; none for the others. -/
def canWrite (w : Who) (r : Reg) (n j : Nat) (v : Word) (s : State) : Option State :=
  match r with
  | .canCtlS => some (canCtlWrite w n v s)
  | .canNbtS => some (asFnd w s fun s =>
      if nbtBad v then s.reply .denied else canTimingNow n (canPutS .canNbtS n v s))
  | .canDbtS => some (asFnd w s fun s =>
      if dbtBad v then s.reply .denied else canTimingNow n (canPutS .canDbtS n v s))
  | .canRamS => some (asFnd w s (canPutS .canRamS n v ·))
  | .canBocfgS => some (asFnd w s (canPutS .canBocfgS n v ·))
  | .canSdtimeS => some (asFnd w s fun s => if fld v 0 16 = 0 then s.reply .denied else canPutS .canSdtimeS n v s)
  | .canArddwell => some (asFnd w s fun s =>
      if fld v 0 16 = 0 then s.reply .denied else (s.put .canArddwell v n).reply .ok)
  | .canOwn => some (asFnd w s fun s =>
      if canEn s n || (s.rd .canCtlS n).getLsbD 31 then s.reply .busy else (s.put .canOwn v n).reply .ok)
  | .canCmd => if v.getLsbD 0 then some (canRecover w n s) else some (asFnd w s (State.reply .ok))
  | .canCnt => some (asFnd w s (clearOnZero .canCnt v · n j))
  | .canRxget => some (rxgetWrite w n v s)
  | .canTxput => some (txputWrite w n v s)
  | .canRxput | .canTxhead | .canRxwin => some (asOwner w n s (State.reply .ok))
  | .canTxwin => some (txwinWrite w n j v s)
  | .canFltsel => some (asFnd w s fun s => (s.put .canFltsel v n).reply .ok)
  | .canFltId1S => some (asFnd w s (canFltWrite .canFltId1S n v ·))
  | .canFltId2S => some (asFnd w s fun s =>
      if fld v 30 2 ≥ 2 then s.reply .denied else canFltWrite .canFltId2S n v s)
  | _ => none

/-- The code of an error state (12 R304). -/
def CanState.code : CanState → Nat
  | .active => 0 | .passive => 1 | .busOff => 2 | .stuck => 3

/-- CAN.n_ERR (12 R304). -/
def canErr (s : State) (n : Nat) : Word :=
  let x := s.can n
  wd (x.state.code * 2 ^ 30 + b2n x.recov * 2 ^ 29 + b2n (decide (x.reCnt ≥ 128)) * 2 ^ 23 + x.reCnt % 128 * 65536 +
    min 255 x.teCnt * 256 + x.lec.toNat)

/-- A read of the owner or the foundry partition; others get DENIED. -/
def ownerRead (w : Who) (n : Nat) (s : State) (f : State → State) : State :=
  if canMayUse w n s then f s else s.reply .denied

/-- Reads of CAN registers with a rule of their own; none for the others. A read of ERR leaves LEC at 111b (12 R304;
DEDUCED log 20). -/
def canRead (w : Who) (r : Reg) (n j : Nat) (act : Bool) (s : State) : Option State :=
  match r with
  | .canErr => some ((s.setCan n { s.can n with lec := 7 }).answer .ok (canErr s n))
  | .canRxget => some (ownerRead w n s fun s => s.answer .ok (s.rd .canRxget n))
  | .canRxput => some (ownerRead w n s fun s => s.answer .ok (wd (canRxputSeen s n)))
  | .canTxput => some (ownerRead w n s fun s => s.answer .ok (s.rd .canTxput n))
  | .canTxhead => some (ownerRead w n s fun s => s.answer .ok (s.rd .canTxhead n))
  | .canRxwin => some (ownerRead w n s fun s => s.answer .ok (rxwinRead s n j))
  | .canTxwin => some (ownerRead w n s fun s => s.answer .ok 0)
  | .canFltsel => some (ownerRead w n s fun s => s.answer .ok (s.rd .canFltsel n))
  | .canFltId1S => some (ownerRead w n s fun s =>
      s.answer .ok (if act then s.rdBA (canSel s n) .canFltId1S n else s.rdB (canSel s n) .canFltId1S n))
  | .canFltId2S => some (ownerRead w n s fun s =>
      s.answer .ok (if act then s.rdBA (canSel s n) .canFltId2S n else s.rdB (canSel s n) .canFltId2S n))
  | _ => none

end Sys2Proof.Machine
end

