-- ==== Sys2Proof/Machine/FieldIo.lean ====
section
/-!
DEFINITION. The field die: digital inputs and outputs, loop channels, their staging, the field watchdog and the field
safe state (13, 14). The commands of digital I/O stand here, those of the loop channels in LoopIo.lean.
-/

namespace Sys2Proof.Machine

/-! ### Settings in force -/

/-- Owner of DI channel c by its active MAP (13 R308). -/
def diOwner (s : State) (c : Nat) : Option Nat :=
  let w := s.rdA .dioDiMapS c
  if w.getLsbD 31 then some (fld w 0 10) else none

/-- Owner of DO channel c by its active MAP. -/
def doOwner (s : State) (c : Nat) : Option Nat :=
  let w := s.rdA .dioDoMapS c
  if w.getLsbD 31 then some (fld w 0 10) else none

/-- Owner of loop channel c by its active MAP. -/
def alpOwner (s : State) (c : Nat) : Option Nat :=
  let w := s.rdA .alpCMapS c
  if w.getLsbD 31 then some (fld w 0 10) else none

/-- An active copy of a DIO or ALP register (13 R326 to R328, 14 R345, R346): a setting that the field die holds. -/
def dieKey (k : Nat) : Bool :=
  (decide (0x6000808000 ≤ k) && decide (k < 0x6000810000)) || (decide (0x6000908000 ≤ k) && decide (k < 0x6000910000))

/-- A setting as the field die holds it: the active copy, or, while a reset has left that at its reset value, the one in
force before (13 R322; DEDUCED log 49). -/
def State.die (s : State) (r : Reg) (c : Nat := 0) : Word :=
  if s.rdA r c = r.resetAt c then Tab.get (r.resetAt c) s.dio.kept (r.addr c 0 + r.row.aoff) else s.rdA r c

/-- The field die lets go of the kept settings that satisfy p. -/
def dropKept (p : Nat → Bool) (s : State) : State :=
  { s with dio := { s.dio with kept := s.dio.kept.filter (fun e => !p e.1) } }

/-- The channel that leads the set of DO channel c, under CFG words f (13 R316). -/
def leadOf (f : Nat → Word) (c : Nat) : Nat :=
  let q := c / 4 * 4
  let p := c / 2 * 2
  if fld (f q) 28 3 = 2 then q
  else if fld (f p) 28 3 = 1 ∨ fld (f p) 28 3 = 3 then p
  else c

/-- The lead of DO channel c now. -/
def doLead (s : State) (c : Nat) : Nat := leadOf (fun i => s.rdA .dioDoCfgS i) c

/-- The input is a trim button: it writes no values (14 R341). -/
def isButton (s : State) (c : Nat) : Bool :=
  let w := s.rd .supPinown c
  w.getLsbD 31 && fld w 12 2 = 2

/-- A bit position lies outside an image of n bytes. -/
def posBad (en : Bool) (pos n : Nat) : Bool := en && decide (8 * n ≤ pos)

/-- A value, diagnostic or stamp position of a DI channel lies outside an image of n bytes (13 R309). -/
def diPosOut (n : Nat) (vpos dpos spos : Word) : Bool :=
  posBad true (fld vpos 0 19) n || posBad (dpos.getLsbD 31) (fld dpos 0 19) n ||
    (spos.getLsbD 31 && decide (n < fld spos 0 16 + 4))

/-- The value position of a DO channel lies outside an OI of o bytes, or its diagnostic position outside an II of i
bytes (13 R309). -/
def doPosOut (o i : Nat) (vpos dpos : Word) : Bool :=
  posBad true (fld vpos 0 19) o || posBad (dpos.getLsbD 31) (fld dpos 0 19) i

/-- DI channel c is enabled, owned by partition n and no button. -/
def diOf (s : State) (n c : Nat) : Bool := (s.rdA .dioDiCfgS c).getLsbD 31 && diOwner s c = some n && !isButton s c

/-- DI channel c is mapped to partition n: its positions lie inside the image (13 R309). -/
def diMapped (s : State) (n c : Nat) : Bool :=
  diOf s n c && !diPosOut (s.iiSize n) (s.rdA .dioDiVposS c) (s.rdA .dioDiDposS c) (s.rdA .dioDiSposS c)

/-- DO channel c leads its set, is enabled and owned by partition n: a member's own mapping does not count (13 R316). -/
def doOf (s : State) (n c : Nat) : Bool := (s.rdA .dioDoCfgS c).getLsbD 31 && doOwner s c = some n && doLead s c = c

/-- DO channel c is mapped to partition n: its positions lie inside the images (13 R309). -/
def doMapped (s : State) (n c : Nat) : Bool :=
  doOf s n c && !doPosOut (s.oiSize n) (s.iiSize n) (s.rdA .dioDoVposS c) (s.rdA .dioDoDposS c)

/-- Loop channel c is in output mode (14 R329). -/
def alpOutput (s : State) (c : Nat) : Bool := (s.rdA .alpCCfgS c).getLsbD 30

/-- A position of a loop channel lies outside its image: the value's word in v bytes, the diagnostic bit and the readback's
word in an II of i bytes (13 R309, 14 R329, R346). -/
def alpPosOut (v i : Nat) (vpos dpos rbpos : Word) : Bool :=
  decide (v < fld vpos 0 16 + 2) || posBad (dpos.getLsbD 31) (fld dpos 0 19) i ||
    (rbpos.getLsbD 31 && decide (i < fld rbpos 0 16 + 2))

/-- Loop channel c is enabled and owned by partition n. -/
def alpOf (s : State) (n c : Nat) : Bool := (s.rdA .alpCCfgS c).getLsbD 31 && alpOwner s c = some n

/-- Loop channel c is mapped to partition n: its positions lie inside the images (13 R309, 14 R329, R333). -/
def alpMapped (s : State) (n c : Nat) : Bool :=
  alpOf s n c && !alpPosOut (if alpOutput s c then s.oiSize n else s.iiSize n) (s.iiSize n)
    (s.rdA .alpCVposS c) (s.rdA .alpCDposS c) (s.rdA .alpCRbposS c)

/-- Loop channel c is in service mode (14 R341). -/
def alpService (s : State) (c : Nat) : Bool :=
  let w := s.rdA .alpTrimcfgS
  w.getLsbD 31 && fld w 24 5 = c

/-! ### Staging (13 R307, R309; 14 R333) -/

/-- A latched test fault (13 R315). -/
def Di.fault (x : Di) : Bool := x.noPulse || x.foreign

/-- An entry of 13 R319 that turns the set off. -/
def Do.off (x : Do) : Bool := x.ovld || x.therm || x.grp || x.rbk

/-- The diagnostic bit of a DO channel (13 R319). -/
def doDiag (s : State) (c : Nat) : Bool :=
  let x := s.dout (doLead s c)
  x.off || x.limit || x.opn || x.extv || x.suply || x.fsafe || !s.dio.vfdi

/-- The diagnostic bit of a loop channel (14 R330, R333). -/
def alpDiag (s : State) (c : Nat) : Bool :=
  let x := s.loop c
  let overlap := match x.settled with
    | none => false
    | some t => s.now < t + 1000000
  ((s.rdA .alpCCfgS c).getLsbD 20 && (x.low || x.high)) || x.miswire || x.opn || x.compl || x.outerr || x.fsafe || alpService s c || x.settle || overlap

/-- The bits that DIO and ALP channels of partition n hold in byte i of its staging block: bit number and value. While
the link is lost, value bits are 0 and diagnostic bits 1 (13 R307, R309). -/
def fieldBits (s : State) (n i : Nat) : List (Nat × Bool) :=
  let lost := s.dio.lostL
  let dpos (w : Word) (v : Bool) : List (Nat × Bool) :=
    if w.getLsbD 31 && fld w 0 19 / 8 = i then [(fld w 0 19 % 8, lost || v)] else []
  ((List.range 96).flatMap (fun c =>
    if diMapped s n c then
      let x := s.di c
      let p := fld (s.rdA .dioDiVposS c) 0 19
      (if p / 8 = i then [(p % 8, !lost && x.out && !x.fault)] else []) ++ dpos (s.rdA .dioDiDposS c) x.fault
    else [])) ++
  ((List.range 64).flatMap (fun c =>
    if doMapped s n c then dpos (s.rdA .dioDoDposS c) (doDiag s c) else [])) ++
  ((List.range 32).flatMap (fun c =>
    if alpMapped s n c then dpos (s.rdA .alpCDposS c) (alpDiag s c) else []))

/-- The byte i of partition n's staging block as the front-end writes it: a bit that no channel maps is 0. -/
def fieldByte (s : State) (n i : Nat) : Byte :=
  BitVec.ofNat 8 ((fieldBits s n i).foldl (fun a b => a ||| (if b.2 then 2 ^ b.1 else 0)) 0)

/-- The front-end writes a byte of partition n's staging block. -/
def stageByte (n i : Nat) (s : State) : State :=
  if i < s.iiSize n then stageBytes n i [fieldByte s n i] s else s

/-- Writes the byte of a diagnostic position, if it is enabled. -/
def stageDpos (n : Nat) (w : Word) (s : State) : State :=
  if w.getLsbD 31 then stageByte n (fld w 0 19 / 8) s else s

/-- Writes the bytes of DI channel c: value and diagnostic bit. -/
def stageDi (c : Nat) (s : State) : State :=
  match diOwner s c with
  | none => s
  | some n =>
    if diMapped s n c then
      stageDpos n (s.rdA .dioDiDposS c) (stageByte n (fld (s.rdA .dioDiVposS c) 0 19 / 8) s)
    else s

/-- Writes the diagnostic byte of DO channel c. -/
def stageDo (c : Nat) (s : State) : State :=
  match doOwner s c with
  | none => s
  | some n => if doMapped s n c then stageDpos n (s.rdA .dioDoDposS c) s else s

/-- Writes the diagnostic byte of loop channel c. -/
def stageAlpDiag (c : Nat) (s : State) : State :=
  match alpOwner s c with
  | none => s
  | some n => if alpMapped s n c then stageDpos n (s.rdA .alpCDposS c) s else s

/-- Writes a 16-bit word of a loop channel at a byte offset of its owner's staging block; 0 while the link is lost. -/
def stageWord16 (n off v : Nat) (s : State) : State :=
  if off + 2 ≤ s.iiSize n then stageBytes n off (leBytes 2 (if s.dio.lostL then 0 else v)) s else s

/-! ### Digital inputs (13 R310 to R313, R315) -/

/-- DI channel c is enabled on the field die. -/
def diEn (s : State) (c : Nat) : Bool := (s.die .dioDiCfgS c).getLsbD 31

/-- RAW_INPUT_CHANGE (13 R311, R312): the raw level and the edge's stamp, within 500 ns (18 R416). -/
def rawInputChange (c : Fin 96) (level : Bool) (s : State) : State :=
  let x := s.di c
  if x.raw = level then s
  else s.setDi c { x with
    raw := level, edge := s.stampAt 8 500, edges := s.now :: x.edges.filter (fun e => decide (s.now < e + 100000)) }

/-- The raw level 100 us ago: each edge since then has turned it (13 R315). -/
def rawBefore (s : State) (x : Di) : Bool :=
  x.raw != decide ((x.edges.filter (fun e => decide (s.now < e + 100000))).length % 2 = 1)

/-- RAW_INPUT_CHANGE (13 R311). -/
def execRawInputChange (c : Fin 96) (level : Bool) (s : State) : Host.Outcome State Fault Refusal :=
  .next (rawInputChange c level s)

/-- Puts a stamp into the FIFO; while it is full, stamps are dropped and counted (13 R312). -/
def pushStamp (c : Nat) (rising : Bool) (ns : Nat) (s : State) : State :=
  if s.dio.fifo.length ≥ 4096 then
    ({ s with dio := { s.dio with dropped := s.dio.dropped + 1, dropAll := min 0xFFFF (s.dio.dropAll + 1) } }).setBits
      .dioStat (bit 6)
  else
    { s with dio := { s.dio with fifo := s.dio.fifo ++ [(⟨c, rising, ns, s.dio.dropped⟩ : EdgeStamp)], dropped := 0 } }

/-- STAMP selects this edge: 1 rising, 2 falling, 3 both (13 R327). -/
def stampWanted (sel : Nat) (rising : Bool) : Bool := sel = 3 || (sel = 1 && rising) || (sel = 2 && !rising)

/-- The stamp of an accepted edge: the raw edge's time, a multiple of 100 ns (13 R312). -/
def edgeNs (x : Di) : Nat := x.edge / 100 * 100

/-- An accepted edge is stamped: the stamp enters the FIFO and waits for its value's write to staging (13 R312). -/
def stampEdge (c : Nat) (s : State) : State :=
  let x := s.di c
  if stampWanted (fld (s.rdA .dioDiCfgS c) 16 2) x.filt then
    let s1 := pushStamp c x.filt (edgeNs x) s
    s1.setDi c { x with stamp := some (edgeNs x) }
  else s

/-- The value of DI channel c goes to staging, with the stamp that waits for it into the owner's stamp word (13 R311,
R312). -/
def stageValue (c : Nat) (s : State) : State :=
  let s1 := stageDi c s
  match diOwner s c, (s.di c).stamp with
  | some n, some t =>
    let w := s.rdA .dioDiSposS c
    let s2 := s1.setDi c { s1.di c with stamp := none }
    if diMapped s n c && w.getLsbD 31 && !s.dio.lostL then stageBytes n (fld w 0 16) (leBytes 4 t) s2 else s2
  | none, some _ => s1.setDi c { s1.di c with stamp := none }
  | _, none => s1

/-- The filtered value is held by a test-pulse mask (13 R315). -/
def diMasked (s : State) (x : Di) : Bool := x.mask || decide (s.now < x.maskTo)

/-- FILTER_ACCEPT (13 R311 to R313): the filtered value takes the raw level; stamp, wake source in every power state,
and the write to staging without TTEN. -/
def filterAccept (c : Fin 96) (s : State) : State :=
  let x := s.di c
  let cfg := s.die .dioDiCfgS c
  if !diEn s c || x.raw = x.filt || diMasked s x || tbHeld s then s
  else
    let s1 := s.setDi c { x with filt := x.raw, out := if cfg.getLsbD 28 then x.out else x.raw }
    let s2 := stampEdge c s1
    let s3 := if cfg.getLsbD 29 then s2.setBits .supWakesrc (bit 4) else s2
    if cfg.getLsbD 28 then s3 else stageValue c s3

/-- FILTER_ACCEPT (13 R311). -/
def execFilterAccept (c : Fin 96) (s : State) : Host.Outcome State Fault Refusal := .next (filterAccept c s)

/-- A fire of comparator k with ACT.DI: the filtered values of its TTEN channels are latched and staged (13 R311). -/
def diLatch (k : Nat) (s : State) : State :=
  let cs := (List.range 96).filter (fun c =>
    let w := s.rdA .dioDiCfgS c
    w.getLsbD 31 && w.getLsbD 28 && fld w 23 5 = k)
  let s1 := cs.foldl (fun s c => s.setDi c { s.di c with out := (s.di c).filt }) s
  cs.foldl (fun s c => stageValue c s) s1

/-- A read of TSPOP0 by the foundry partition: pops an entry and latches its other words (13 R312, R313). -/
def tspopRead (b : Nat) (s : State) : State :=
  match s.dio.fifo with
  | [] => (((s.wrB b .dioTspop 0 0).wrB b .dioTspop 0 1).wrB b .dioTspop 0 2).answer .ok 0
  | e :: es =>
    let s1 := { s with dio := { s.dio with fifo := es } }
    let s2 := ((s1.wrB b .dioTspop (wd e.lost) 0).wrB b .dioTspop (lo32 e.ns) 1).wrB b .dioTspop (hi32 e.ns) 2
    s2.answer .ok (wd (2 ^ 31 + b2n (decide (e.lost ≠ 0)) * 2 ^ 30 + b2n e.rising * 2 ^ 29 + e.ch))

/-- TSPOP (13 R313); FAULT while the link is lost (13 R305). -/
def execTspop (w : Who) (s : State) : Host.Outcome State Fault Refusal :=
  .next (if s.dio.lostL then s.reply .fault else fndRead w .dioTspop0 s (tspopRead (whoBank w)))

/-! ### Test pulses (13 R314, R315) -/

/-- The DO channel that holds test-pulse source k, if any. -/
def pulseHolder (s : State) (k : Nat) : Option Nat :=
  (List.range 64).find? (fun c =>
    let w := s.die .dioDoCfgS c
    w.getLsbD 31 && fld w 28 3 = 4 && fld w 18 3 = k)

/-- The inputs with test-pulse checking. -/
def checkedInputs (s : State) : List Nat :=
  (List.range 96).filter (fun c => diEn s c && (s.die .dioDiCfgS c).getLsbD 19)

/-- The source of an input. -/
def diSource (s : State) (c : Nat) : Nat := fld (s.die .dioDiCfgS c) 20 3

/-- Clears the latches of an input and writes its bytes (13 R315). -/
def clearTest (c : Nat) (s : State) : State :=
  let s1 := s.setDi c { s.di c with noPulse := false, foreign := false, clean := 0 }
  if (s.rdA .dioDiCfgS c).getLsbD 28 then s1 else stageDi c s1

/-- An input's own source starts a pulse: the mask, and the count of test periods without a fault (13 R315). -/
def ownPulseStart (c : Nat) (s : State) : State :=
  let x := s.di c
  let n := if x.badNow then 0 else x.clean + 1
  let s1 := s.setDi c { x with mask := true, clean := n, badNow := false }
  if (s.rdA .dioDiCfgS c).getLsbD 18 && x.fault && n ≥ 2 then clearTest c s1 else s1

/-- Sets or clears bit k of a bit vector of 8. -/
def setBit8 (v : BitVec 8) (k : Nat) (b : Bool) : BitVec 8 :=
  if b then v ||| BitVec.ofNat 8 (2 ^ k) else v &&& ~~~ BitVec.ofNat 8 (2 ^ k)

/-- A pulse of source k starts (13 R314, R315). New test settings come into force with the first source's pulse, at the
start of a period (13 R325). -/
def pulseStart (k : Nat) (s : State) : State :=
  let tpw := s.die .dioTpcfgS
  let s1 := { s with dio := { s.dio with
    pulses := setBit8 s.dio.pulses k true
    tp := if k = 0 then (fld tpw 16 16, fld tpw 0 16) else s.dio.tp } }
  (checkedInputs s).foldl (fun s c =>
    if diSource s c = k then ownPulseStart c s
    else s.setDi c { s.di c with wasOn := setBit8 (s.di c).wasOn k (rawBefore s (s.di c)) }) s1

/-- A pulse of source k ends: the mask of its inputs lasts another 100 us (13 R315). -/
def pulseStop (k : Nat) (s : State) : State :=
  let s1 := { s with dio := { s.dio with pulses := setBit8 s.dio.pulses k false } }
  (checkedInputs s).foldl (fun s c =>
    if diSource s c = k then s.setDi c { s.di c with mask := false, maskTo := s.now + 100000 } else s) s1

/-- TEST_PULSE (13 R314): a source with a holder and VFDI in range starts or ends its pulse. -/
def testPulse (k : Fin 8) (start : Bool) (s : State) : State :=
  if (pulseHolder s k).isNone || !s.dio.vfdi || !s.dio.cfgd then s
  else if start then (if s.dio.pulses.getLsbD k then s else pulseStart k s)
  else if s.dio.pulses.getLsbD k then pulseStop k s else s

/-- TEST_PULSE (13 R314). -/
def execTestPulse (k : Fin 8) (start : Bool) (s : State) : Host.Outcome State Fault Refusal :=
  .next (testPulse k start s)

/-- Latches a test fault of an input (13 R315): alarm and record at each new latch. -/
def latchTest (c : Nat) (own : Bool) (s : State) : State :=
  let x := s.di c
  let x' := if own then { x with noPulse := true, badNow := true, clean := 0 }
            else { x with foreign := true, badNow := true, clean := 0 }
  let s1 := (s.setDi c x').setBits .dioStat (bit 0)
  let new := if own then !x.noPulse else !x.foreign
  let s2 := if new then alarmRec .dio .dioTestFault [wd c, wd (b2n own)] s1 else s1
  if (s.rdA .dioDiCfgS c).getLsbD 28 then s2 else stageDi c s2

/-- The check of one input at source k's sample point (13 R315); a reset has ended the checking of an input whose
settings only the field die keeps. -/
def checkInput (k c : Nat) (s : State) : State :=
  let x := s.di c
  if !(s.rdA .dioDiCfgS c).getLsbD 19 then s
  else if diSource s c = k then
    let s1 := s.setDi c { x with ownOk := !x.raw }
    if x.raw then latchTest c true s1 else s1
  else if !x.raw && x.wasOn.getLsbD k then latchTest c false s
  else s

/-- TEST_PULSE_CHECK (13 R315). -/
def testPulseCheck (k : Fin 8) (s : State) : State :=
  if s.dio.pulses.getLsbD k then (checkedInputs s).foldl (fun s c => checkInput k c s) s else s

/-- TEST_PULSE_CHECK (13 R315). -/
def execTestPulseCheck (k : Fin 8) (s : State) : Host.Outcome State Fault Refusal := .next (testPulseCheck k s)

/-- A write of DIO.DIACK (13 R315). -/
def diackWrite (w : Who) (v : Word) (s : State) : State :=
  asFnd w s fun s =>
    let c := fld v 0 7
    if !v.getLsbD 31 then s.reply .ok
    else if c ≥ 96 ∨ !(s.di c).ownOk then s.reply .denied
    else (clearTest c s).reply .ok

/-- DIACK (13 R315); FAULT while the link is lost (13 R305). -/
def execDiack (w : Who) (v : Word) (s : State) : Host.Outcome State Fault Refusal :=
  .next (if s.dio.lostL then s.reply .fault else diackWrite w v s)

/-! ### Digital outputs (13 R316 to R319) -/

/-- VFLDn of DO channel c is in range. -/
def vfldOk (s : State) (c : Nat) : Bool := s.dio.vfld.getLsbD (c / 8)

/-- The force-indication channel is c (07 R180). -/
def isForceLamp (s : State) (c : Nat) : Bool :=
  let w := s.rd .schForceind
  w.getLsbD 31 && fld w 0 6 = c

/-- Number of active force entries (07 R180). -/
def forceCount (s : State) : Nat := ((List.range 256).filter (fun i => (s.rdA .schFrcS i).getLsbD 31)).length

/-- The lead of DO channel c as the field die has it. -/
def dieLead (s : State) (c : Nat) : Nat := leadOf (fun i => s.die .dioDoCfgS i) c

/-- The field die drives the set of lead l: configured, its supplies in range, no entry that turns it off (13 R319;
01 R21, 02 R28). -/
def doPowered (s : State) (l : Nat) : Bool := s.dio.cfgd && s.dio.vfdi && vfldOk s l && !(s.dout l).off

/-- The level that the set of lead l, no test-pulse source, is to take (07 R180, 13 R306, R322). -/
def doLevel (s : State) (l : Nat) : Bool :=
  let x := s.dout l
  let cfg := s.die .dioDoCfgS l
  if isForceLamp s l then (if s.dio.fsafe then cfg.getLsbD 27 else decide (forceCount s ≠ 0))
  else if x.fsafe then cfg.getLsbD 27
  else cfg.getLsbD 31 && x.drive

/-- The set of lead l is push-pull (13 R316). -/
def doPushPull (s : State) (l : Nat) : Bool := fld (s.die .dioDoCfgS l) 28 3 = 3

/-- A push-pull transition of the set is in its dead time (13 R317). -/
def doDead (s : State) (l : Nat) : Bool := doPushPull s l && decide (s.now < (s.dout l).deadTo)

/-- The state of a DO channel's ball, by its high-side switch (13 R306, R314, R317, R319, R322; 01 R21): true is on. -/
def doBall (s : State) (c : Nat) : Bool :=
  let l := dieLead s c
  let cfg := s.die .dioDoCfgS l
  if fld cfg 28 3 = 4 then
    s.dio.cfgd && s.dio.vfdi && cfg.getLsbD 31 && !s.dio.pulses.getLsbD (fld cfg 18 3)
  else doPowered s l && !(doPushPull s l && c ≠ l) && !doDead s l && doLevel s l

/-- The low-side switch of the push-pull set of lead l is on: the level is off and no dead time runs (13 R316, R317). -/
def doLowSide (s : State) (l : Nat) : Bool :=
  doPushPull s l && (s.die .dioDoCfgS l).getLsbD 31 && doPowered s l && !doDead s l && !doLevel s l

/-- The push-pull set of lead l begins its dead time if the change from s0 to s has turned its level (13 R317). -/
def deadTime (l : Nat) (s0 s : State) : State :=
  if doPushPull s l && doLevel s l ≠ doLevel s0 l then
    s.setDout l { s.dout l with deadTo := s.now + fld (s.die .dioDoCfgS l) 0 7 * 500 }
  else s

/-- The dead times after a change that may turn several outputs. -/
def deadTimes (ls : List Nat) (s0 s : State) : State := ls.foldl (fun s l => deadTime l s0 s) s

/-- The dead time of the force-indication channel after a change of the force table (07 R180, 13 R317). -/
def lampTime (s0 s : State) : State :=
  let w := s.rd .schForceind
  if w.getLsbD 31 then deadTime (dieLead s (fld w 0 6)) s0 s else s

/-- An edge of the output now: the driver, and the 20 us minimum interval (13 R318). -/
def edgeNow (c : Nat) (b : Bool) (s : State) : State :=
  let x := s.dout c
  s.setDout c { x with drive := b, busy := true, wait := none }

/-- Starts an on pulse of PULSEW (13 R318). -/
def pulseNow (c : Nat) (s : State) : State :=
  let x := s.dout c
  s.setDout c { x with drive := true, busy := true, wait := none, pulse := true }

/-- A value's edge on an output: at once, or after the minimum interval; with PULSEW a rise makes one pulse and a fall
does nothing (13 R318). -/
def valueEdge (c : Nat) (b : Bool) (s0 : State) : State :=
  let old := (s0.dout c).val
  let s := s0.setDout c { s0.dout c with val := b }
  let x := s.dout c
  if fld (s.rdA .dioDoPulseS c) 0 16 ≠ 0 then
    if b && !old && !x.pulse then
      (if x.busy then s.setDout c { x with wait := some true } else pulseNow c s)
    else s
  else if x.busy then s.setDout c { x with wait := if b = x.drive then none else some b }
  else if b = x.drive then s else edgeNow c b s

/-- Applies a value to an output (13 R317, R318). -/
def applyValue (c : Nat) (b : Bool) (s : State) : State := deadTime c s (valueEdge c b s)

/-- A value that commits to DO channel c: the latch recovery of RTIME 0, the leaving of the field safe state, and the
edge, or the wait for the comparator (13 R306, R318, R319, R323). -/
def commitDo (c : Nat) (b safe : Bool) (s : State) : State :=
  deadTime c s <|
  let x := s.dout c
  let cfg := s.rdA .dioDoCfgS c
  let s1 := s.setDout c { x with cmd := b, sawOff := x.sawOff || !b, val := if s.dio.fsafe then b else x.val }
  if s.dio.fsafe then s1
  else
    let leave := x.fsafe
    let s2 := s1.setDout c { s1.dout c with fsafe := false }
    if safe then s2.setDout c { s2.dout c with drive := b, val := b, pend := none, wait := none, pulse := false }
    else if cfg.getLsbD 26 then
      s2.setDout c { s2.dout c with pend := some b, drive := if leave then false else (s2.dout c).drive }
    else valueEdge c b (if leave then s2.setDout c { s2.dout c with drive := false } else s2)

/-- A fire of comparator k with ACT.DO: pending values are applied (13 R318). -/
def doFire (k : Nat) (s : State) : State :=
  ((List.range 64).filter (fun c =>
    let w := s.rdA .dioDoCfgS c
    w.getLsbD 31 && w.getLsbD 26 && fld w 21 5 = k)).foldl (fun s c =>
      match (s.dout c).pend with
      | none => s
      | some b => if (s.dout c).fsafe then s else
          applyValue c b (s.setDout c { s.dout c with pend := none })) s

/-- PULSE_END (13 R318). -/
def pulseEnd (c : Fin 64) (s : State) : State :=
  let x := s.dout c
  if x.pulse then deadTime c s (s.setDout c { x with pulse := false, drive := false, busy := true }) else s

/-- PULSE_END (13 R318). -/
def execPulseEnd (c : Fin 64) (s : State) : Host.Outcome State Fault Refusal := .next (pulseEnd c s)

/-- MINIMUM_INTERVAL_EXPIRY (13 R318): the waiting edge is applied. -/
def minimumIntervalExpiry (c : Fin 64) (s : State) : State :=
  let x := s.dout c
  if !x.busy then s
  else
    deadTime c s <|
    let s1 := s.setDout c { x with busy := false, wait := none }
    match x.wait with
    | none => s1
    | some b =>
      if fld (s.rdA .dioDoPulseS c) 0 16 ≠ 0 then (if b then pulseNow c s1 else s1)
      else if b = x.drive then s1 else edgeNow c b s1

/-- MINIMUM_INTERVAL_EXPIRY (13 R318). -/
def execMinimumIntervalExpiry (c : Fin 64) (s : State) : Host.Outcome State Fault Refusal :=
  .next (minimumIntervalExpiry c s)

/-- An entry of 13 R319 on the set of channel c: it changes the lead's flags, sets DOFLT, raises an alarm, writes a
record unless it is OPEN or EXTV, and the diagnostic bit is staged. -/
def doEntry (c : Nat) (recd : Bool) (f : Do → Do) (s : State) : State :=
  let l := doLead s c
  let s1 := (s.setDout l (f (s.dout l))).setBits .dioStat (bit 1)
  let s2 := alarm .dio s1
  stageDo l (if recd then record .dioOutput 0 [wd l] s2 else s2)

/-- The commanded state of the set's driver is on and nothing holds it off. -/
def doOn (s : State) (c : Nat) : Bool :=
  let l := doLead s c
  if fld (s.die .dioDoCfgS l) 28 3 = 4 then doBall s l else doPowered s l && doLevel s l

/-- CURRENT_LIMIT (13 R319). -/
def execCurrentLimit (c : Fin 64) (s : State) : Host.Outcome State Fault Refusal :=
  .next (if doOn s c && !(s.dout (doLead s c)).limit then doEntry c true (fun x => { x with limit := true }) s else s)

/-- CURRENT_LIMIT_END (13 R319). -/
def execCurrentLimitEnd (c : Fin 64) (s : State) : Host.Outcome State Fault Refusal :=
  let l := doLead s c
  .next (if (s.dout l).limit then stageDo l (s.setDout l { s.dout l with limit := false }) else s)

/-- OVERLOAD (13 R319): off, OVLD. -/
def execOverload (c : Fin 64) (s : State) : Host.Outcome State Fault Refusal :=
  .next (if (s.dout (doLead s c)).limit then
    doEntry c true (fun x => { x with limit := false, ovld := true, sawOff := false }) s else s)

/-- THERMAL (13 R319): off, THERM. -/
def execThermal (c : Fin 64) (s : State) : Host.Outcome State Fault Refusal :=
  .next (doEntry c true (fun x => { x with limit := false, therm := true, sawOff := false }) s)

/-- The leads of the output sets of group g. -/
def groupLeads (s : State) (g : Nat) : List Nat :=
  ((List.range 8).map (8 * g + ·)).filter (fun c => doLead s c = c)

/-- GROUP_OVERCURRENT (13 R319): every channel of the group off, GRP. -/
def execGroupOvercurrent (g : Fin 8) (s : State) : Host.Outcome State Fault Refusal :=
  .next ((groupLeads s g).foldl (fun s c =>
    doEntry c true (fun x => { x with limit := false, grp := true, sawOff := false }) s)
    (s.setBits .dioGstat (bit 30) g))

/-- READBACK_FAULT (13 R319): commanded on and not limiting: off, RBK. -/
def execReadbackFault (c : Fin 64) (s : State) : Host.Outcome State Fault Refusal :=
  .next (if doOn s c && !(s.dout (doLead s c)).limit then
    doEntry c true (fun x => { x with rbk := true, sawOff := false }) s else s)

/-- OPEN_LOAD (13 R319): commanded on with OLEN: OPEN. -/
def execOpenLoad (c : Fin 64) (s : State) : Host.Outcome State Fault Refusal :=
  .next (if doOn s c && (s.rdA .dioDoCfgS (doLead s c)).getLsbD 17 then
    doEntry c false (fun x => { x with opn := true }) s else s)

/-- OPEN_LOAD_CLEAR (13 R319). -/
def execOpenLoadClear (c : Fin 64) (s : State) : Host.Outcome State Fault Refusal :=
  let l := doLead s c
  .next (if (s.dout l).opn then stageDo l (s.setDout l { s.dout l with opn := false }) else s)

/-- EXTERNAL_VOLTAGE (13 R319): commanded off: EXTV. -/
def execExternalVoltage (c : Fin 64) (s : State) : Host.Outcome State Fault Refusal :=
  .next (if !doOn s c then doEntry c false (fun x => { x with extv := true }) s else s)

/-- EXTV_CLEAR (13 R319). -/
def execExtvClear (c : Fin 64) (s : State) : Host.Outcome State Fault Refusal :=
  let l := doLead s c
  .next (if (s.dout l).extv then stageDo l (s.setDout l { s.dout l with extv := false }) else s)

/-- VFLD_LOW (13 R319): the group off, SUPLY. -/
def vfldLow (g : Fin 8) (s : State) : State :=
  let s1 := { s with dio := { s.dio with vfld := setBit8 s.dio.vfld g false } }
  (groupLeads s g).foldl (fun s c => doEntry c true (fun x => { x with suply := true }) s)
    (s1.clrBits .dioGstat (bit 31) g)

/-- VFLD_LOW (13 R319). -/
def execVfldLow (g : Fin 8) (s : State) : Host.Outcome State Fault Refusal :=
  .next (if s.dio.vfld.getLsbD g then vfldLow g s else s)

/-- VFDI_LOW (13 R314, R319; 01 R21): every DO off, the test-pulse sources stop. -/
def vfdiLow (s : State) : State :=
  let s1 := { s with dio := { s.dio with vfdi := false, pulses := 0 } }
  let s2 := alarmRec .dio .dioSupply [] (s1.setBits .dioStat (bit 2))
  (List.range 64).foldl (fun s c => stageDo c s) s2

/-- VFDI_LOW (13 R319). -/
def execVfdiLow (s : State) : Host.Outcome State Fault Refusal := .next (if s.dio.vfdi then vfdiLow s else s)

/-- SUPPLY_RESTORE (13 R319): VFLD0 to VFLD7 by g, VFDI by 8; the committed values are driven again. -/
def supplyRestore (g : Fin 9) (s : State) : State :=
  if g.val = 8 then
    if s.dio.vfdi then s
    else (List.range 64).foldl (fun s c => stageDo c s) { s with dio := { s.dio with vfdi := true } }
  else if s.dio.vfld.getLsbD g.val then s
  else
    let s1 := ({ s with dio := { s.dio with vfld := setBit8 s.dio.vfld g.val true } }).setBits .dioGstat (bit 31) g.val
    (List.range 8).foldl (fun s i =>
      let c := 8 * g.val + i
      stageDo c (s.setDout c { s.dout c with suply := false })) s1

/-- SUPPLY_RESTORE (13 R319). -/
def execSupplyRestore (g : Fin 9) (s : State) : Host.Outcome State Fault Refusal := .next (supplyRestore g s)

/-- FAULT_RECOVERY (13 R319): after RTIME if still commanded on; with RTIME 0 after a commit with the bit 0. -/
def faultRecovery (c : Fin 64) (s : State) : State :=
  let l := doLead s c
  let x := s.dout l
  let ok := if fld (s.rdA .dioCtlS) 16 8 = 0 then x.sawOff else x.cmd
  if x.off && ok then
    let s1 := s.setDout l { x with ovld := false, therm := false, grp := false, rbk := false, sawOff := false }
    let left := (groupLeads s1 (l / 8)).any (fun i => (s1.dout i).grp)
    stageDo l (if left then s1 else s1.clrBits .dioGstat (bit 30) (l / 8))
  else s

/-- FAULT_RECOVERY (13 R319). -/
def execFaultRecovery (c : Fin 64) (s : State) : Host.Outcome State Fault Refusal := .next (faultRecovery c s)

/-! ### Loop channels: what the field safe state and a commit do to them (14 R338 to R340) -/

/-- Rounds a fraction of 65 536ths to the nearest integer, halves up (14 R340; DESIGN CHOICE log 22). -/
def round16 (n : Int) : Int := (n + 32768) / 65536

/-- The trim (14 R340): value := round(raw x GAIN / 65 536) + ZERO. -/
def trimInt (s : State) (c raw : Nat) : Int :=
  round16 ((raw : Int) * (fld (s.rdA .alpCGainS c) 0 17 : Int)) + (BitVec.ofNat 16 (fld (s.rdA .alpCZeroS c) 0 16)).toInt

/-- The trimmed code: outside 0 to 65 535 the spec states no value, a free one (DESIGN CHOICE log 21). -/
def trimCode (s : State) (c raw : Nat) : Nat :=
  let v := trimInt s c raw
  if v < 0 ∨ v > 65535 then (Config.trimRange v).toNat else v.toNat

/-- The converter of an output drives a commanded code: trimmed, at most 48 000 (14 R329, R340). -/
def driveLoop (c code : Nat) (s : State) : State :=
  s.setLoop c { s.loop c with drive := min 48000 (trimCode s c code) }

/-- A code that commits to output channel c (14 R338, R339). -/
def commitLoop (c code : Nat) (safe : Bool) (s : State) : State :=
  let s1 := s.setLoop c { s.loop c with cmd := code }
  if s.dio.fsafe then s1
  else
    let s2 := s1.setLoop c { s1.loop c with fsafe := false }
    if safe then (driveLoop c code s2) |> fun s => s.setLoop c { s.loop c with pend := none }
    else if (s.rdA .alpCCfgS c).getLsbD 27 then s2.setLoop c { s2.loop c with pend := some code }
    else driveLoop c code s2

/-- A fire of comparator k applies waiting codes of output channels (14 R338). -/
def loopFire (k : Nat) (s : State) : State :=
  ((List.range 32).filter (fun c =>
    let w := s.rdA .alpCCfgS c
    w.getLsbD 31 && w.getLsbD 30 && w.getLsbD 27 && fld w 22 5 = k)).foldl (fun s c =>
      match (s.loop c).pend with
      | none => s
      | some v => if (s.loop c).fsafe then s else
          driveLoop c v (s.setLoop c { s.loop c with pend := none })) s

/-- The current that an output channel drives, in code units (14 R330, R338, R339; 01 R21). -/
def loopOut (s : State) (c : Nat) : Nat :=
  let x := s.loop c
  let cfg := s.die .alpCCfgS c
  if !s.dio.cfgd || !s.alp.vloop || !s.dio.vfdi || !cfg.getLsbD 31 || !cfg.getLsbD 30 || x.settle then 0
  else if x.fsafe then (if cfg.getLsbD 21 then min 48000 (fld (s.die .alpCSafeS c) 0 16) else 0)
  else x.drive

/-- Ends a HART transaction with a status (14 R343). -/
def hartEnd (c : Nat) (st : Status) (s : State) : State :=
  let s1 := s.setLoop c { s.loop c with hart := .idle, listen := false, hbytes := [] }
  s1.wr .alpHStat (fset (s1.rd .alpHStat c) 0 8 st.code) c

/-- A transaction runs on channel c. -/
def hartBusy (s : State) (c : Nat) : Bool := (s.loop c).hart ≠ .idle

/-- Ends the transaction of a channel with a status, if one runs. -/
def hartAbort (c : Nat) (st : Status) (s : State) : State := if hartBusy s c then hartEnd c st s else s

/-! ### The field safe state and the watchdog (13 R321 to R325) -/

/-- The causes of the field safe state that are present (13 R322). -/
def fieldCauses (s : State) : List Nat :=
  (if s.dio.tripped then [1] else []) ++ (if s.dio.lostF then [2] else []) ++
    (if s.dio.cmdSafe || s.dio.offSafe || s.dio.dozeSafe || s.pwr.fatal then [3] else []) ++
    (if s.dio.clkErr then [4] else [])

/-- DIO.WDG (13 R326): FSAFE and the lowest cause present. -/
def dioWdg (s : State) : Word := wd (b2n s.dio.fsafe * 256 + (fieldCauses s).headD 0)

/-- The field die enters the field safe state: every DO takes its field safe value, every loop output its safe value,
every HART transaction ends (13 R322, 14 R339). -/
def enterFieldSafe (s : State) : State :=
  let s1 := { s with dio := { s.dio with fsafe := true } }
  let s2 := (List.range 64).foldl (fun s c =>
    s.setDout c { s.dout c with fsafe := true, pend := none, wait := none, pulse := false }) s1
  let s3 := (List.range 32).foldl (fun s c =>
    hartAbort c .aborted (s.setLoop c { s.loop c with fsafe := true, pend := none })) (deadTimes (List.range 64) s s2)
  let s4 := (List.range 64).foldl (fun s c => stageDo c s) s3
  (List.range 32).foldl (fun s c => stageAlpDiag c s) s4

/-- WATCHDOG_EXPIRY (13 R321, R322). -/
def watchdogExpiry (s : State) : State :=
  if s.dio.wdg then
    enterFieldSafe (({ s with dio := { s.dio with wdg := false, tripped := true } }).setBits .dioStat (bit 3))
  else s

/-- WATCHDOG_EXPIRY (13 R321). -/
def execWatchdogExpiry (s : State) : Host.Outcome State Fault Refusal := .next (watchdogExpiry s)

/-- FIELD_CLOCK_ERROR (13 R322): cause 4h. -/
def execFieldClockError (s : State) : Host.Outcome State Fault Refusal :=
  .next (enterFieldSafe (({ s with dio := { s.dio with clkErr := true } }).setBits .dioStat (bit 5)))

/-- FIELD_LINK_LOSS (13 R322): cause 2h. -/
def execFieldLinkLoss (s : State) : Host.Outcome State Fault Refusal :=
  .next (enterFieldSafe { s with dio := { s.dio with lostF := true } })

/-- Every mapped byte of the field channels is written again. -/
def stageAll (s : State) : State :=
  let s1 := (List.range 96).foldl (fun s c => stageDi c s) s
  let s2 := (List.range 64).foldl (fun s c => stageDo c s) s1
  (List.range 32).foldl (fun s c => stageAlpDiag c s) s2

/-- The mapped words of the loop channels are written as 0 (14 R333). -/
def stageLoopZero (s : State) : State :=
  (List.range 32).foldl (fun s c =>
    match alpOwner s c with
    | none => s
    | some n =>
      if alpMapped s n c && !alpOutput s c then stageWord16 n (fld (s.rdA .alpCVposS c) 0 16) 0 s else s) s

/-- LINK_LOST (13 R307, 14 R333): values 0, diagnostic bits 1, LINKERR, an alarm. -/
def linkLost (s : State) : State :=
  if s.dio.lostL then s
  else
    let s1 := { s with dio := { s.dio with lostL := true } }
    let s2 := alarm .dio ((s1.setBits .dioStat (bit 4)).setBits .alpStat (bit 5))
    stageLoopZero (stageAll s2)

/-- LINK_LOST (13 R307). -/
def execLinkLost (s : State) : Host.Outcome State Fault Refusal := .next (linkLost s)

/-- A frame is taken: its CRC is right and its number is the expected one, or the link was lost (13 R305; DEDUCED log 23). -/
def frameTaken (lost : Bool) (expected : Nat) (seq : BitVec 16) (crcOk : Bool) : Bool :=
  crcOk && (lost || seq.toNat = expected % 65536)

/-- LINK_FRAME (13 R305): a frame toward the logic side or the field side. -/
def linkFrame (toLogic : Bool) (seq : BitVec 16) (crcOk : Bool) (s : State) : State :=
  if toLogic then
    let took := frameTaken s.dio.lostL s.dio.seqs.1 seq crcOk
    let back := took && s.dio.lostL
    let s1 := { s with dio := { s.dio with
      seqs := (if crcOk then seq.toNat + 1 else s.dio.seqs.1, s.dio.seqs.2)
      lostL := s.dio.lostL && !took } }
    if back then stageAll s1 else s1
  else
    let took := frameTaken s.dio.lostF s.dio.seqs.2 seq crcOk
    { s with dio := { s.dio with
      seqs := (s.dio.seqs.1, if crcOk then seq.toNat + 1 else s.dio.seqs.2)
      lostF := s.dio.lostF && !took } }

/-- LINK_FRAME (13 R305). -/
def execLinkFrame (toLogic : Bool) (seq : BitVec 16) (crcOk : Bool) (s : State) : Host.Outcome State Fault Refusal :=
  .next (linkFrame toLogic seq crcOk s)

/-- A bit of the image that the committed pointer names (07 R171, R174). -/
def commBit (s : State) (n pos : Nat) : Bool := (s.byte (s.commAddr n + pos / 8)).getLsbD (pos % 8)

/-- The DO channels that lead a set and are mapped to partition n. -/
def doLeads (s : State) (n : Nat) : List Nat := (List.range 64).filter (fun c => doMapped s n c)

/-- The loop outputs that are mapped to partition n. -/
def loopOuts (s : State) (n : Nat) : List Nat :=
  (List.range 32).filter (fun c => alpMapped s n c && alpOutput s c)

/-- The loop inputs that are mapped to partition n. -/
def loopIns (s : State) (n : Nat) : List Nat :=
  (List.range 32).filter (fun c => alpMapped s n c && !alpOutput s c)

/-- A loop input leaves the field safe state with its owner's first commit message after REARM (13 R323, 14 R339). -/
def leaveSafe (c : Nat) (s : State) : State :=
  if s.dio.fsafe || !(s.loop c).fsafe then s else stageAlpDiag c (s.setLoop c { s.loop c with fsafe := false })

/-- COMMIT_MESSAGE (13 R306, R321, R323, 14 R338, R339): the message of partition n reaches the field die with its DO bits
and loop codes; the watchdog restarts. -/
def commitMessage (n : Nat) (s : State) : State :=
  if s.dio.lostF || !s.dio.cfgd then s
  else
    let safe := (s.part n).safe
    let s1 := { s with dio := { s.dio with wdg := !s.dio.offSafe, tripped := false } }
    let s2 := (doLeads s n).foldl (fun s c =>
      commitDo c (commBit s n (fld (s.rdA .dioDoVposS c) 0 19)) safe s) s1
    let s3 := (loopOuts s n).foldl (fun s c =>
      commitLoop c (leNat (s.bytes (s.commAddr n + fld (s.rdA .alpCVposS c) 0 16) 2)) safe s) s2
    let s4 := (doLeads s n).foldl (fun s c => stageDo c s) s3
    let s5 := (loopOuts s n).foldl (fun s c => stageAlpDiag c s) s4
    (loopIns s n).foldl (fun s c => leaveSafe c s) s5

/-- COMMIT_MESSAGE (13 R306). -/
def execCommitMessage (n : Part) (s : State) : Host.Outcome State Fault Refusal := .next (commitMessage n.toNat s)

/-- START_MESSAGE (13 R324): cause 3h clears unless another condition of it is present, and the watchdog starts. -/
def startMessage (s : State) : State :=
  if s.schEn && !s.dio.lostF then { s with dio := { s.dio with offSafe := false, wdg := true, tripped := false } } else s

/-- START_MESSAGE (13 R324). -/
def execStartMessage (s : State) : Host.Outcome State Fault Refusal := .next (startMessage s)

/-- SCH.CTL.EN at 0 at the field die (13 R324): cause 3h, no watchdog, the field safe state. -/
def fieldStop (s : State) : State :=
  enterFieldSafe { s with dio := { s.dio with offSafe := true, wdg := false } }

/-- REARM (13 R323): DENIED while a cause is present. -/
def dioRearm (w : Who) (s : State) : State :=
  asFnd w s fun s =>
    if fieldCauses s ≠ [] then s.reply .denied
    else ({ s with dio := { s.dio with fsafe := false, kept := [] } }).reply .ok

/-- REARM (13 R323); FAULT while the link is lost (13 R305). -/
def execRearm (w : Who) (s : State) : Host.Outcome State Fault Refusal :=
  .next (if s.dio.lostL then s.reply .fault else dioRearm w s)

/-! ### Swaps at the owner's boundary (13 R308, R309) -/

/-- The shadow key k belongs to an _S register of a channel that satisfies p, in an array of channels. -/
def chanKey (base stride n regs : Nat) (p : Nat → Bool) (k : Nat) : Bool :=
  decide (base ≤ k) && decide (k < base + stride * n) && decide ((k - base) % stride < 4 * regs) &&
    p ((k - base) / stride)

/-- A loop channel's active CFG changed: a MODE change settles for 1 ms and ends a HART transaction (14 R330). -/
def alpModeSwap (c : Nat) (old : Word) (s : State) : State :=
  if old.getLsbD 30 = (s.rdA .alpCCfgS c).getLsbD 30 then s
  else hartAbort c .aborted (s.setLoop c { s.loop c with settle := true, settled := none, limit := false, opn := true })

/-- A DO channel or a loop output whose position lies outside its owner's image takes its field safe value, and MAPERR
is set (13 R309; for loop channels by 14 R333, DEDUCED log 174). -/
def mapCheck (n : Nat) (s : State) : State :=
  let badDi := (List.range 96).any (fun c => diOf s n c && !diMapped s n c)
  let badDo := (List.range 64).filter (fun c => doOf s n c && !doMapped s n c)
  let s1 := badDo.foldl (fun s c =>
    deadTime c s (s.setDout c { s.dout c with fsafe := true, pend := none, wait := none, pulse := false })) s
  let badAlp := (List.range 32).filter (fun c => alpOf s n c && !alpMapped s n c)
  let s2 := (badAlp.filter (fun c => alpOutput s c)).foldl (fun s c =>
    s.setLoop c { s.loop c with fsafe := true, pend := none }) s1
  if badDi || !badDo.isEmpty || !badAlp.isEmpty then s2.setBits .dioStat (bit 7) else s2

/-- The channel _S registers of partition n swap at its boundary (13 R308, 14 R340). -/
def fieldSwap (n : Nat) (s : State) : State :=
  let cs := (List.range 32).filter (fun c => alpOwner s c = some n)
  let olds := cs.map (fun c => (c, s.rdA .alpCCfgS c))
  let p (k : Nat) : Bool :=
    chanKey 0x6000801000 0x20 96 5 (fun c => diOwner s c = some n) k ||
    chanKey 0x6000803000 0x20 64 5 (fun c => doOwner s c = some n) k ||
    chanKey 0x6000901000 0x40 32 10 (fun c => alpOwner s c = some n) k
  let s1 := dropKept (fun k => p (k - 0x8000)) (s.swapAll p 0x8000)
  let s2 := deadTimes ((List.range 64).filter (fun c => doOwner s c = some n)) s s1
  mapCheck n (olds.foldl (fun s x => alpModeSwap x.1 x.2 s) s2)

/-- The global _S registers of DIO and ALP swap at the foundry partition's boundary (13 R326, 14 R345). -/
def fieldGlobalSwap (s : State) : State :=
  dropKept (fun k => k = Reg.dioTpcfgS.addr 0 0 + Reg.dioTpcfgS.row.aoff)
    (((s.swap .dioCtlS).swap .dioTpcfgS).swap .alpTrimcfgS)

/-- A partition stops, is shed, reset or held: the HART transactions of its channels end with ABORTED (14 R343). -/
def hartOwnerStop (n : Nat) (s : State) : State :=
  ((List.range 32).filter (fun c => alpOwner s c = some n)).foldl (fun s c => hartAbort c .aborted s) s

/-! ### Register writes (13 R308, R309, R314, R316, R318, R326 to R328) -/

/-- Shadow image sizes of partition n. -/
def iiShadow (s : State) (n : Nat) : Nat := (fld (s.rd .schPdSizeS n) 0 8 + 1) * 256
/-- Shadow OI size of partition n. -/
def oiShadow (s : State) (n : Nat) : Nat := (fld (s.rd .schPdSizeS n) 8 8 + 1) * 256

/-- A MAP_S write is refused: pin-ownership table (entry base + c), or an S channel for a partition that is not class S
in its shadow or active CTL (13 R308). -/
def mapRefused (s : State) (pin smap c : Nat) (v : Word) : Bool :=
  v.getLsbD 31 &&
    (!ownsPin s (pin + c) (fld v 0 10) ||
      (sChannel s smap c && !(s.isS (fld v 0 10) && clsShadow s (fld v 0 10) = 1)))

/-- Answers a refused MAP write: DENIED, recorded with requester and entry (00 R3). -/
def denyMap (w : Who) (pin : Nat) (s : State) : State := (recordDenied (whoPart w) pin s).reply .denied

/-- A write to a shadowed channel register: both copies while the active MAP is not valid or the scheduler is disabled
(13 R308). -/
def putChan (r mapr : Reg) (c : Nat) (v : Word) (s : State) : State :=
  let s1 := s.put r v c
  (if !(s.rdA mapr c).getLsbD 31 || !s.schEn then
    dropKept (fun k => k = r.addr c 0 + r.row.aoff) (s1.wrA r (s1.rd r c) c) else s1).reply .ok

/-- Positions of DI channel c under the register words after a write (13 R309). -/
def diPosBad (s : State) (map vpos dpos spos : Word) : Bool :=
  let n := iiShadow s (fld map 0 10)
  map.getLsbD 31 && (diPosOut n vpos dpos spos || (spos.getLsbD 31 && fld spos 0 2 ≠ 0))

/-- Positions of DO channel c under the register words after a write. -/
def doPosBad (s : State) (map vpos dpos : Word) : Bool :=
  map.getLsbD 31 && doPosOut (oiShadow s (fld map 0 10)) (iiShadow s (fld map 0 10)) vpos dpos

/-- A member of a lead's set is neither unmapped, under its MAP word, nor owned in the pin-ownership table by the
partition that owns the lead there (13 R316). -/
def memberBad (s : State) (lead i : Nat) (map : Word) : Bool :=
  map.getLsbD 31 && !(List.range 1024).any (fun n => ownsPin s (96 + lead) n && ownsPin s (96 + i) n)

/-- A DO CFG_S write is refused (13 R314, R316, R328). -/
def doCfgBad (s : State) (c : Nat) (v : Word) : Bool :=
  let m := fld v 28 3
  let lead := leadOf (fun i => s.rd .dioDoCfgS i) c
  let members := if m = 2 then [c + 1, c + 2, c + 3] else if m = 1 ∨ m = 3 then [c + 1] else []
  decide (m > 4) || decide (lead ≠ c) || (m = 2 && c % 4 ≠ 0) || ((m = 1 || m = 3) && c % 2 ≠ 0) ||
    (m = 3 && (fld v 0 7 = 0 || decide (fld v 0 7 > 100))) ||
    members.any (fun i => memberBad s c i (s.rd .dioDoMapS i))

/-- Another channel holds the test-pulse source (13 R314). -/
def tsnTaken (s : State) (c : Nat) (v : Word) : Bool :=
  fld v 28 3 = 4 && (List.range 64).any (fun i =>
    i ≠ c && fld (s.rd .dioDoCfgS i) 28 3 = 4 && fld (s.rd .dioDoCfgS i) 18 3 = fld v 18 3)

/-- The test-pulse settings are refused (13 R314). -/
def tpcfgBad (v : Word) : Bool :=
  let tper := fld v 16 16
  let tpw := fld v 0 16
  decide (tpw < 200) || decide (tpw > 2000) || decide (tper < 10) || decide (tper > 1000) ||
    decide (8 * (tpw + 100) > tper * 1000)

/-- Writes of DIO registers with checks of their own; none for the others. -/
def dioWrite (w : Who) (r : Reg) (c : Nat) (v : Word) (s : State) : Option State :=
  match r with
  | .dioCtlS => some (asFnd w s fun s =>
      if fld v 0 10 = 0 ∨ fld v 0 10 > 1000 then s.reply .denied else (s.put .dioCtlS v).reply .ok)
  | .dioTpcfgS => some (asFnd w s fun s =>
      if tpcfgBad v then s.reply .denied else (s.put .dioTpcfgS v).reply .ok)
  | .dioWdg => if v.getLsbD 31 then some (dioRearm w s) else some (asFnd w s (State.reply .ok))
  | .dioDiack => some (diackWrite w v s)
  | .dioDiCfgS => some (asFnd w s fun s =>
      if fld v 0 14 > 10000 then s.reply .denied else putChan .dioDiCfgS .dioDiMapS c v s)
  | .dioDiMapS => some (asFnd w s fun s =>
      if mapRefused s 0 5 c v then denyMap w c s
      else if diPosBad s v (s.rd .dioDiVposS c) (s.rd .dioDiDposS c) (s.rd .dioDiSposS c) then s.reply .denied
      else putChan .dioDiMapS .dioDiMapS c v s)
  | .dioDiVposS => some (asFnd w s fun s =>
      if diPosBad s (s.rd .dioDiMapS c) v (s.rd .dioDiDposS c) (s.rd .dioDiSposS c) then s.reply .denied
      else putChan .dioDiVposS .dioDiMapS c v s)
  | .dioDiDposS => some (asFnd w s fun s =>
      if diPosBad s (s.rd .dioDiMapS c) (s.rd .dioDiVposS c) v (s.rd .dioDiSposS c) then s.reply .denied
      else putChan .dioDiDposS .dioDiMapS c v s)
  | .dioDiSposS => some (asFnd w s fun s =>
      if diPosBad s (s.rd .dioDiMapS c) (s.rd .dioDiVposS c) (s.rd .dioDiDposS c) v then s.reply .denied
      else putChan .dioDiSposS .dioDiMapS c v s)
  | .dioDoCfgS => some (asFnd w s fun s =>
      if doCfgBad s c v then s.reply .denied
      else if tsnTaken s c v then (recordDenied (whoPart w) (fld v 18 3) s).reply .denied
      else putChan .dioDoCfgS .dioDoMapS c v s)
  | .dioDoMapS => some (asFnd w s fun s =>
      let l := leadOf (fun i => s.rd .dioDoCfgS i) c
      if mapRefused s 96 8 c v then denyMap w (96 + c) s
      else if l ≠ c && memberBad s l c v then s.reply .denied
      else if doPosBad s v (s.rd .dioDoVposS c) (s.rd .dioDoDposS c) then s.reply .denied
      else putChan .dioDoMapS .dioDoMapS c v s)
  | .dioDoVposS => some (asFnd w s fun s =>
      if doPosBad s (s.rd .dioDoMapS c) v (s.rd .dioDoDposS c) then s.reply .denied
      else putChan .dioDoVposS .dioDoMapS c v s)
  | .dioDoDposS => some (asFnd w s fun s =>
      if doPosBad s (s.rd .dioDoMapS c) (s.rd .dioDoVposS c) v then s.reply .denied
      else putChan .dioDoDposS .dioDoMapS c v s)
  | .dioDoPulseS => some (asFnd w s fun s =>
      if 1 ≤ fld v 0 16 ∧ fld v 0 16 ≤ 19 then s.reply .denied else putChan .dioDoPulseS .dioDoMapS c v s)
  | _ => none

/-- Reads of DIO registers that are computed; none for the others. -/
def dioRead (r : Reg) (i : Nat) (s : State) : Option Word :=
  match r with
  | .dioWdg => some (dioWdg s)
  | .dioTscnt => some (wd (s.dio.dropAll * 65536 + s.dio.fifo.length))
  | .dioSmapdi => some (if (s.fuse 0).getLsbD 18 then s.fuse (5 + i) else 0)
  | .dioSmapdo => some (if (s.fuse 0).getLsbD 18 then s.fuse (8 + i) else 0)
  | .dioDiStat =>
    let x := s.di i
    some (wd (b2n x.foreign * 8 + b2n x.noPulse * 4 + b2n x.filt * 2 + b2n x.raw))
  | .dioDoStat =>
    let x := s.dout (doLead s i)
    some (wd (b2n x.fsafe * 256 + b2n x.suply * 128 + b2n x.extv * 64 + b2n x.opn * 32 + b2n x.rbk * 16 +
      b2n x.grp * 8 + b2n x.therm * 4 + b2n x.ovld * 2 + b2n (doBall s i)))
  | _ => none

end Sys2Proof.Machine
end

