-- ==== Sys2Proof/Machine/LoopIo.lean ====
section
/-!
DEFINITION. The loop channels and their HART modems: conversions, limiter and compliance, trims, transactions and
registers (14).
-/

namespace Sys2Proof.Machine

/-! ### Conversion (14 R330, R331, R333, R337) -/

/-- The mean that a fire latches on channel c: 0 for a channel that the command does not name. -/
def meanOf (ms : List Meas) (c : Nat) : Nat :=
  match ms.find? (fun m => m.ch.val = c) with
  | some m => m.mean.toNat
  | none => 0

/-- One channel latches at a fire: too soon after the last latch is ignored and counted; the value, the diagnostic bit
and the readback are staged (14 R331, R333, R337). LOW and HIGH follow the value; the diagnostic bit and RANGE also need
RNGEN (DEDUCED log 173). -/
def convert (ms : List Meas) (c : Nat) (s : State) : State :=
  let x := s.loop c
  let soon := match x.latch with
    | none => false
    | some t => s.now < t + 1000000
  if soon then s.setBits .alpStat (bit 7)
  else
    let raw := meanOf ms c
    let s0 := s.setLoop c { x with latch := some s.now }
    let own := alpOwner s c
    if alpOutput s c then
      let w := s.rdA .alpCRbposS c
      match own with
      | none => s0
      | some n => if alpMapped s n c && w.getLsbD 31 then stageAlpDiag c (stageWord16 n (fld w 0 16) raw s0) else s0
    else
      let v := trimCode s c raw
      let lim := s.rdA .alpCLimS c
      let low := decide (v < fld lim 0 16)
      let high := decide (v > fld lim 16 16)
      let s1 := ((s0.setLoop c { s0.loop c with low := low, high := high }).wr .alpCRaw (wd v) c).spend
      let s2 := if (s.rdA .alpCCfgS c).getLsbD 20 && (low || high) then s1.setBits .alpStat (bit 0) else s1
      match own with
      | none => s2
      | some n => if alpMapped s n c then stageAlpDiag c (stageWord16 n (fld (s.rdA .alpCVposS c) 0 16) v s2) else s2

/-- A fire of comparator k with ACT.ALP: every enabled channel that names it converts (14 R331). -/
def alpFire (k : Nat) (ms : List Meas) (s : State) : State :=
  ((List.range 32).filter (fun c =>
    let w := s.rdA .alpCCfgS c
    w.getLsbD 31 && fld w 22 5 = k)).foldl (fun s c => convert ms c s) s

/-! ### Limiter, compliance, supply (14 R330, R334 to R338) -/

/-- Loop channel c is an enabled input. -/
def alpInput (s : State) (c : Nat) : Bool := (s.rdA .alpCCfgS c).getLsbD 31 && !alpOutput s c
/-- Loop channel c is an enabled output. -/
def alpOutEn (s : State) (c : Nat) : Bool := (s.rdA .alpCCfgS c).getLsbD 31 && alpOutput s c

/-- MODE_SETTLE_EXPIRY (14 R330). -/
def modeSettleExpiry (c : Fin 32) (s : State) : State :=
  let x := s.loop c
  if x.settle then
    stageAlpDiag c (s.setLoop c { x with settle := false, opn := false, settled := some s.now })
  else s

/-- MODE_SETTLE_EXPIRY (14 R330). -/
def execModeSettleExpiry (c : Fin 32) (s : State) : Host.Outcome State Fault Refusal := .next (modeSettleExpiry c s)

/-- The retry as it stands when limiting begins now: limiting belongs to the retry if it is detected within the 10 us
of 14 R334 (DEDUCED log 55). -/
def retryNow (x : Loop) (now : Nat) : Option Nat :=
  match x.retry with
  | none => none
  | some t => if now ≤ t + 10000 then some t else none

/-- LIMITING (14 R334). -/
def execLimiting (c : Fin 32) (s : State) : Host.Outcome State Fault Refusal :=
  let x := s.loop c
  .next (if alpInput s c && !x.opn && !x.limit then
    s.setLoop c { x with limit := true, retry := retryNow x s.now } else s)

/-- LIMITING_END (14 R334): a retry that limited is no retry without limiting. -/
def execLimitingEnd (c : Fin 32) (s : State) : Host.Outcome State Fault Refusal :=
  let x := s.loop c
  .next (if x.limit then s.setLoop c { x with limit := false, retry := none } else s)

/-- LIMITER_OPEN (14 R334, R343): OPEN and MISWIRE, an alarm, and a record but for an opening at a retry; a running HART
transaction ends with FAULT. -/
def limiterOpen (c : Fin 32) (s : State) : State :=
  let x := s.loop c
  if x.limit && !x.opn then
    let s1 := s.setLoop c { x with limit := false, opn := true, miswire := true, retry := none, opens := min 255 (x.opens + 1) }
    let s2 := hartAbort c .fault s1
    let s3 := alarm .alp (s2.setBits .alpStat (bit 1))
    stageAlpDiag c (if x.retry.isSome then s3 else record .alpMiswire 0 [wd c] s3)
  else s

/-- LIMITER_OPEN (14 R334). -/
def execLimiterOpen (c : Fin 32) (s : State) : Host.Outcome State Fault Refusal := .next (limiterOpen c s)

/-- LIMITER_RETRY (14 R334): the limiter closes. -/
def limiterRetry (c : Fin 32) (s : State) : State :=
  let x := s.loop c
  if x.opn && x.miswire && !x.settle then stageAlpDiag c (s.setLoop c { x with opn := false, retry := some s.now }) else s

/-- LIMITER_RETRY (14 R334). -/
def execLimiterRetry (c : Fin 32) (s : State) : Host.Outcome State Fault Refusal := .next (limiterRetry c s)

/-- MISWIRE_CLEAR (14 R334): closed after a retry, never limiting. -/
def miswireClear (c : Fin 32) (s : State) : State :=
  let x := s.loop c
  if x.miswire && x.retry.isSome && !x.opn && !x.limit then
    stageAlpDiag c (s.setLoop c { x with miswire := false, retry := none })
  else s

/-- MISWIRE_CLEAR (14 R334). -/
def execMiswireClear (c : Fin 32) (s : State) : Host.Outcome State Fault Refusal := .next (miswireClear c s)

/-- COMPL_RAISE (14 R336): an output channel; an alarm. -/
def complRaise (c : Fin 32) (s : State) : State :=
  if alpOutEn s c && !(s.loop c).compl then
    stageAlpDiag c (alarm .alp ((s.setLoop c { s.loop c with compl := true }).setBits .alpStat (bit 2)))
  else s

/-- COMPL_RAISE (14 R336). -/
def execComplRaise (c : Fin 32) (s : State) : Host.Outcome State Fault Refusal := .next (complRaise c s)

/-- COMPL_CLEAR (14 R336). -/
def execComplClear (c : Fin 32) (s : State) : Host.Outcome State Fault Refusal :=
  .next (if (s.loop c).compl then stageAlpDiag c (s.setLoop c { s.loop c with compl := false }) else s)

/-- OUTERR_RAISE (14 R337): an output with readback, while COMPL is clear; an alarm and a record. -/
def outerrRaise (c : Fin 32) (s : State) : State :=
  if alpOutEn s c && (s.rdA .alpCRbposS c).getLsbD 31 && !(s.loop c).compl && !(s.loop c).outerr then
    stageAlpDiag c (alarmRec .alp .alpOutErr [wd c]
      ((s.setLoop c { s.loop c with outerr := true }).setBits .alpStat (bit 3)))
  else s

/-- OUTERR_RAISE (14 R337). -/
def execOuterrRaise (c : Fin 32) (s : State) : Host.Outcome State Fault Refusal := .next (outerrRaise c s)

/-- OUTERR_CLEAR (14 R337). -/
def execOuterrClear (c : Fin 32) (s : State) : Host.Outcome State Fault Refusal :=
  .next (if (s.loop c).outerr then stageAlpDiag c (s.setLoop c { s.loop c with outerr := false }) else s)

/-- VLOOP_LOW (14 R338): no output current, VLOOPLO. -/
def execVloopLow (mv : BitVec 16) (s : State) : Host.Outcome State Fault Refusal :=
  .next ((({ s with alp := { s.alp with vloop := false } }).setBits .alpStat (bit 4)).wr .alpVloop (mv.setWidth 32))

/-- VLOOP_RESTORE (14 R338): the committed codes are driven again. -/
def execVloopRestore (mv : BitVec 16) (s : State) : Host.Outcome State Fault Refusal :=
  .next (({ s with alp := { s.alp with vloop := true } }).wr .alpVloop (mv.setWidth 32))

/-! ### Service mode (14 R341) -/

/-- A class S owner that may still run: not in OFF, STOPPED, SHED or HELD. -/
def ownerLive (s : State) (n : Nat) : Bool :=
  s.isS n &&
    (match (s.part n).state with
     | .wait | .queued | .run => true
     | .off | .stopped | .shed | .held => false)

/-- A TRIMCFG_S write with SVC is refused (14 R341). -/
def serviceBad (s : State) (v : Word) : Bool :=
  let c := fld v 24 5
  let own := match alpOwner s c with
    | some n => ownerLive s n
    | none => false
  v.getLsbD 31 && (alpOutput s c || own)

/-- A button channel that a TRIMCFG_S write with SVC names and that is not assigned to ALP (14 R341, 00 R3). -/
def buttonTaken (s : State) (v : Word) : Option Nat :=
  if !v.getLsbD 31 then none
  else [fld v 0 7, fld v 8 7].find? (fun c => decide (c ≥ 96) || !isButton s c)

/-- A write of TRIMCFG_S (14 R341, R345). -/
def trimcfgWrite (w : Who) (v : Word) (s : State) : State :=
  asFnd w s fun s =>
    match buttonTaken s v with
    | some c => (recordDenied (whoPart w) c s).reply .denied
    | none => if serviceBad s v then s.reply .denied else (s.put .alpTrimcfgS v).reply .ok

/-- SERVICE_MODE (14 R341). -/
def execServiceMode (w : Who) (v : Word) (s : State) : Host.Outcome State Fault Refusal := .next (trimcfgWrite w v s)

/-- BUTTON_PRESS (14 R341): a button whose filtered value has been on for 3 s; if both are on neither acts. -/
def buttonPress (span : Bool) (s : State) : State :=
  let w := s.rdA .alpTrimcfgS
  let own := if span then fld w 8 7 else fld w 0 7
  let other := if span then fld w 0 7 else fld w 8 7
  if w.getLsbD 31 && (s.di own).filt && !(s.di other).filt && s.alp.trim.isNone then { s with alp := { s.alp with trim := some span } }
  else s

/-- BUTTON_PRESS (14 R341). -/
def execButtonPress (span : Bool) (s : State) : Host.Outcome State Fault Refusal := .next (buttonPress span s)

/-- A rounded quotient, halves up, of a numerator by a positive denominator (DESIGN CHOICE log 22). -/
def roundDiv (a : Int) (b : Nat) : Int := (2 * a + b) / (2 * b)

/-- Writes ZERO and GAIN of a channel in both copies (14 R341). -/
def setTrim (c : Nat) (zero : Int) (gain : Nat) (s : State) : State :=
  let z := (BitVec.ofInt 16 zero).setWidth 32
  let g := wd (gain % 131072)
  (((s.wr .alpCZeroS z c).wrA .alpCZeroS z c).wr .alpCGainS g c).wrA .alpCGainS g c

/-- The new trim of a channel from the mean of its current: the zero button sets ZERO so that the value reads 8000; the
span button sets GAIN so that it reads 40 000 and the raw current that reads 8000 still does (14 R341; DEDUCED log 24). -/
def newTrim (s : State) (c : Nat) (span : Bool) (mean : Nat) : Int × Nat :=
  let gain := fld (s.rdA .alpCGainS c) 0 17
  let zero := (BitVec.ofNat 16 (fld (s.rdA .alpCZeroS c) 0 16)).toInt
  if span then
    let raw4 := roundDiv ((8000 - zero) * 65536) (max 1 gain)
    let g := roundDiv (32000 * 65536) (max 1 ((mean : Int) - raw4).toNat)
    (8000 - round16 (raw4 * g), g.toNat)
  else (8000 - round16 ((mean : Int) * (gain : Int)), gain)

/-- TRIM_COMPLETE (14 R341): OK within 1600 of the point, else DENIED and the trim unchanged; a record. -/
def trimComplete (mean : BitVec 16) (s : State) : State :=
  match s.alp.trim with
  | none => s
  | some span =>
    let c := fld (s.rdA .alpTrimcfgS) 24 5
    let point := if span then 40000 else 8000
    let m := mean.toNat
    let ok := decide (point ≤ m + 1600) && decide (m ≤ point + 1600)
    let s1 := { s with alp := { s.alp with trim := none } }
    let t := newTrim s c span m
    let s2 := if ok then setTrim c t.1 t.2 s1 else s1
    let st : Status := if ok then .ok else .denied
    let s3 := s2.wr .alpTrimstat (wd ((if span then 2 else 1) * 2 ^ 30 + st.code))
    record .alpTrim 0 [wd c, wd (b2n span), wd m] (s3.setBits .alpStat (bit 6))

/-- TRIM_COMPLETE (14 R341). -/
def execTrimComplete (mean : BitVec 16) (s : State) : Host.Outcome State Fault Refusal := .next (trimComplete mean s)

/-! ### HART (14 R342, R343, R347) -/

/-- The initiator is the owner of loop channel c or the foundry partition. -/
def hartMay (w : Who) (c : Nat) (s : State) : Bool := whoPart w = 0 || alpOwner s c = some (whoPart w)

/-- A write of a HART register: the owner and the foundry partition; BUSY while a transaction runs (14 R347). -/
def hartReg (w : Who) (c : Nat) (s : State) (f : State → State) : State :=
  if w = .dbg && !debugWrites s then refuseDebug s
  else if !hartMay w c s then s.reply .denied
  else if hartBusy s c then s.reply .busy
  else f s

/-- GO is refused: HEN = 0, OPEN, the field safe state, or a buffer range that fails the owner's region table
(14 R343). -/
def hartRefused (s : State) (c : Nat) (listen : Bool) : Bool :=
  let x := s.loop c
  let txl := fld (s.rd .alpHTxlen c) 0 9
  let rxm := fld (s.rd .alpHRxmax c) 0 9
  !(s.rdA .alpCCfgS c).getLsbD 29 || x.opn || x.fsafe ||
    (match alpOwner s c with
     | none => true
     | some n =>
       (!listen && (decide (txl = 0) || decide (txl > 300) || !s.mayUse n .load (s.rd .alpHTxaddr c).toNat txl)) ||
         decide (rxm = 0) || decide (rxm > 300) || !s.mayUse n .store (s.rd .alpHRxaddr c).toNat rxm)

/-- Reception starts: the first start bit is stamped, within 100 us (14 R343 step 5). -/
def hartReceive (c : Nat) (s : State) : State :=
  let s1 := s.setLoop c { s.loop c with hart := .receiving }
  let t := s.stampAt 9 100000
  (s1.wr .alpHTsLo (lo32 t) c).wr .alpHTsHi (hi32 t) c

/-- A transaction starts (14 R343 steps 1 to 4); a read of TXADDR that fails ends it with its status (08 R195; DEDUCED
DEDUCED log 175). -/
def hartStart (c : Nat) (listen : Bool) (s : State) : State :=
  let x := s.loop c
  if listen then
    let s1 := s.setLoop c { x with hart := .replyWait, listen := true, hbytes := [] }
    if x.carrier then hartReceive c s1 else s1
  else
    let n := (alpOwner s c).getD 0
    let r := partRead n (s.rd .alpHTxaddr c).toNat (fld (s.rd .alpHTxlen c) 0 9) s
    if r.1 ≠ .ok then hartEnd c r.1 r.2.2
    else r.2.2.setLoop c { x with hart := if x.carrier then .carrierWait else .sending, listen := false, hbytes := r.2.1 }

/-- A write of ALP.Hc_CTL (14 R343, R347): RXTO 1 to 65 535, LISTEN, and GO. -/
def hartCtlWrite (w : Who) (c : Nat) (v : Word) (s : State) : State :=
  hartReg w c s fun s =>
    if fld v 0 16 = 0 then s.reply .denied
    else if !v.getLsbD 31 then (s.put .alpHCtl v c).reply .ok
    else if hartRefused s c (v.getLsbD 30) then s.reply .denied
    else (hartStart c (v.getLsbD 30) (s.put .alpHCtl v c)).reply .ok

/-- HART_GO (14 R343): GO without LISTEN. -/
def execHartGo (w : Who) (c : Fin 32) (v : Word) (s : State) : Host.Outcome State Fault Refusal :=
  .next (hartCtlWrite w c v s)

/-- HART_LISTEN (14 R343): GO with LISTEN. -/
def execHartListen (w : Who) (c : Fin 32) (v : Word) (s : State) : Host.Outcome State Fault Refusal :=
  .next (hartCtlWrite w c v s)

/-- HART_TRANSMIT (14 R343 step 3): no carrier is present, the characters are sent and the reply is awaited. -/
def hartTransmit (c : Fin 32) (s : State) : State :=
  let x := s.loop c
  match x.hart with
  | .carrierWait | .sending => s.setLoop c { x with hart := .replyWait, carrier := false }
  | .idle | .replyWait | .receiving => s

/-- HART_TRANSMIT (14 R343). -/
def execHartTransmit (c : Fin 32) (s : State) : Host.Outcome State Fault Refusal := .next (hartTransmit c s)

/-- CARRIER_DETECT (14 R343): a carrier appears; in the wait for a reply reception starts. -/
def carrierDetect (c : Fin 32) (s : State) : State :=
  let x := s.loop c
  let s1 := s.setLoop c { x with carrier := true }
  match x.hart with
  | .replyWait => hartReceive c s1
  | .sending => s1.setLoop c { s1.loop c with hart := .carrierWait }
  | .idle | .carrierWait | .receiving => s1

/-- CARRIER_DETECT (14 R343). -/
def execCarrierDetect (c : Fin 32) (s : State) : Host.Outcome State Fault Refusal := .next (carrierDetect c s)

/-- HART_RXTO_EXPIRY (14 R343): BUSY with a carrier that persists, TIMEOUT without a carrier. -/
def hartRxtoExpiry (c : Fin 32) (s : State) : State :=
  match (s.loop c).hart with
  | .carrierWait => hartEnd c .busy s
  | .replyWait => hartEnd c .timeout s
  | .idle | .sending | .receiving => s

/-- HART_RXTO_EXPIRY (14 R343). -/
def execHartRxtoExpiry (c : Fin 32) (s : State) : Host.Outcome State Fault Refusal := .next (hartRxtoExpiry c s)

/-- The status of a reception: CRC with a parity error, FULL with more than RXMAX characters, else OK (14 R343;
DEDUCED log 25). -/
def hartStatus (chars : List HartChar) (rxmax : Nat) : Status :=
  if chars.any (·.parityErr) then .crc else if chars.length > rxmax then .full else .ok

/-- HART_REPLY_END (14 R343 steps 5 and 6): the characters are stored, RXLEN, the parity errors and the status are
written; where the region table no longer lets them be stored the status is that of the write (DEDUCED log 175). -/
def hartReplyEnd (c : Fin 32) (chars : List HartChar) (s : State) : State :=
  let x := s.loop c
  let s0 := s.setLoop c { x with carrier := false }
  if x.hart ≠ .receiving then s0
  else
    let m := fld (s.rd .alpHRxmax c) 0 9
    let kept := (chars.take m).map (·.ch)
    let r : Status × State := match alpOwner s c with
      | none => (Status.denied, s0)
      | some n => partWrite n (s.rd .alpHRxaddr c).toNat kept s0
    let s1 := r.2
    let errs := min 255 (chars.filter (·.parityErr)).length
    let w := fset (fset (s1.rd .alpHStat c) 17 9 kept.length) 8 8 errs
    hartEnd c (if r.1 = .ok then hartStatus chars m else r.1) (s1.wr .alpHStat w c)

/-- HART_REPLY_END (14 R343). -/
def execHartReplyEnd (c : Fin 32) (chars : List HartChar) (s : State) : Host.Outcome State Fault Refusal :=
  .next (hartReplyEnd c chars s)

/-! ### Registers (14 R345 to R347) -/

/-- The positions of loop channel c under the register words after a write lie outside its image (13 R309,
14 R346). -/
def alpPosBad (s : State) (cfg map vpos dpos rbpos : Word) : Bool :=
  let n := fld map 0 10
  map.getLsbD 31 &&
    (alpPosOut (if cfg.getLsbD 30 then oiShadow s n else iiShadow s n) (iiShadow s n) vpos dpos rbpos ||
      fld vpos 0 1 ≠ 0 || (rbpos.getLsbD 31 && fld rbpos 0 1 ≠ 0))

/-- The registers of loop channel c with one of them replaced: CFG, MAP, VPOS, DPOS, RBPOS. -/
def alpAfter (s : State) (c : Nat) (r : Reg) (v : Word) : Bool :=
  let g (q : Reg) : Word := if q = r then v else s.rd q c
  alpPosBad s (g .alpCCfgS) (g .alpCMapS) (g .alpCVposS) (g .alpCDposS) (g .alpCRbposS)

/-- A write of CFG_S of loop channel c: where both copies take it, a MODE change settles at once (14 R330). -/
def alpCfgWrite (c : Nat) (v : Word) (s : State) : State :=
  alpModeSwap c (s.rdA .alpCCfgS c) (putChan .alpCCfgS .alpCMapS c v s)

/-- Writes of ALP registers with checks of their own; none for the others. -/
def alpWrite (w : Who) (r : Reg) (c : Nat) (v : Word) (s : State) : Option State :=
  match r with
  | .alpTrimcfgS => some (trimcfgWrite w v s)
  | .alpCCfgS => some (asFnd w s fun s =>
      if alpAfter s c .alpCCfgS v then s.reply .denied else alpCfgWrite c v s)
  | .alpCMapS => some (asFnd w s fun s =>
      if mapRefused s 160 10 c v then denyMap w (160 + c) s
      else if alpAfter s c .alpCMapS v then s.reply .denied
      else putChan .alpCMapS .alpCMapS c v s)
  | .alpCVposS => some (asFnd w s fun s =>
      if alpAfter s c .alpCVposS v then s.reply .denied else putChan .alpCVposS .alpCMapS c v s)
  | .alpCDposS => some (asFnd w s fun s =>
      if alpAfter s c .alpCDposS v then s.reply .denied else putChan .alpCDposS .alpCMapS c v s)
  | .alpCRbposS => some (asFnd w s fun s =>
      if alpAfter s c .alpCRbposS v then s.reply .denied else putChan .alpCRbposS .alpCMapS c v s)
  | .alpCRburS => some (asFnd w s fun s =>
      if fld v 0 12 < 500 ∨ 2500 < fld v 0 12 then s.reply .denied else putChan .alpCRburS .alpCMapS c v s)
  | .alpCZeroS => some (asFnd w s fun s =>
      let z := (BitVec.ofNat 16 (fld v 0 16)).toInt
      if z < -2000 ∨ 2000 < z then s.reply .denied else putChan .alpCZeroS .alpCMapS c v s)
  | .alpCGainS => some (asFnd w s fun s =>
      if fld v 0 17 < 62259 ∨ 68813 < fld v 0 17 then s.reply .denied else putChan .alpCGainS .alpCMapS c v s)
  | .alpCLimS => some (asFnd w s (putChan .alpCLimS .alpCMapS c v ·))
  | .alpCSafeS => some (asFnd w s (putChan .alpCSafeS .alpCMapS c v ·))
  | .alpHTxaddr => some (hartReg w c s fun s => (s.put .alpHTxaddr v c).reply .ok)
  | .alpHRxaddr => some (hartReg w c s fun s => (s.put .alpHRxaddr v c).reply .ok)
  | .alpHTxlen => some (hartReg w c s fun s =>
      if fld v 0 9 = 0 ∨ 300 < fld v 0 9 then s.reply .denied else (s.put .alpHTxlen v c).reply .ok)
  | .alpHRxmax => some (hartReg w c s fun s =>
      if fld v 0 9 = 0 ∨ 300 < fld v 0 9 then s.reply .denied else (s.put .alpHRxmax v c).reply .ok)
  | .alpHCtl => some (hartCtlWrite w c v s)
  | _ => none

/-- Reads of ALP registers that are computed; none for the others. -/
def alpRead (r : Reg) (c : Nat) (s : State) : Option Word :=
  match r with
  | .alpSmap => some (if (s.fuse 0).getLsbD 18 then s.fuse 10 else 0)
  | .alpCStat =>
    let x := s.loop c
    some (wd (x.opens * 2 ^ 24 + b2n (alpService s c) * 128 + b2n x.fsafe * 64 + b2n x.outerr * 32 +
      b2n x.compl * 16 + b2n x.opn * 8 + b2n x.miswire * 4 + b2n x.low * 2 + b2n x.high))
  | .alpHCtl => some (fset (s.rd .alpHCtl c) 31 1 (b2n (hartBusy s c)))
  | .alpHStat =>
    some (fset (fset (s.rd .alpHStat c) 31 1 (b2n (hartBusy s c))) 30 1 (b2n (s.loop c).carrier))
  | _ => none

end Sys2Proof.Machine
end

