-- ==== Sys2Proof/Machine/Bridge.lean ====
section
/-!
DEFINITION. The Brass bridge (16): the rack window, posted writes, delayed reads, the semaphore, rack interrupts and the
bus cycles.
-/

namespace Sys2Proof.Machine

/-- Slot of a backplane byte address (16 R369). -/
def slotOf (a : Nat) : Nat := a / 0x200000 % 8

/-- Partition n may use slot k (16 R369). -/
def slotMay (s : State) (n k : Nat) : Bool :=
  n = 0 || ((s.rd .brbSlotOwn k).getLsbD 31 && fld (s.rd .brbSlotOwn k) 0 10 = n)

/-- The owner of slot k, if one is named. -/
def slotOwner (s : State) (k : Nat) : Option Nat :=
  if (s.rd .brbSlotOwn k).getLsbD 31 then some (fld (s.rd .brbSlotOwn k) 0 10) else none

/-- Another partition holds the semaphore for slot k (16 R377). -/
def semBlocks (s : State) (n k : Nat) : Bool :=
  match s.brb.sem with
  | some x => x.slot = k && x.part.toNat ≠ n
  | none => false

/-- Answers a rack access that is refused before it reaches the queue or the entries: not enabled or not the slot's
partition DENIED, 8 and 64 bits SIZE, a slot held by another RETRY (16 R369, R370, R377; DESIGN CHOICE log 28). -/
def rackCheck (n a : Nat) (sz : Size) (s : State) : Option Status :=
  if !(s.rd .brbCtl).getLsbD 31 || !slotMay s n (slotOf a) then some .denied
  else if sz = .b1 || sz = .b8 then some .size
  else if semBlocks s n (slotOf a) then some .retry
  else none

/-- The queue entries of a write: a 32-bit value puts bits 31:16 at A and bits 15:0 at A + 2 (16 R370, R371). -/
def rackWords (n : Part) (a : Nat) (sz : Size) (v : Word) : List RackW :=
  if sz = .b4 then
    [{ addr := a, data := v.extractLsb' 16 16, part := n, pair := true },
     { addr := a + 2, data := v.extractLsb' 0 16, part := n, pair := false }]
  else [{ addr := a, data := v.extractLsb' 0 16, part := n, pair := false }]

/-- A rack write (16 R369, R370, R374). -/
def rackWrite (n : Part) (a : Nat) (sz : Size) (v : Word) (s : State) : State :=
  match rackCheck n.toNat a sz s with
  | some st => s.reply st
  | none =>
    let es := rackWords n a sz v
    if s.brb.wq.length + es.length ≤ 32 then
      { s with brb := { s.brb with wq := s.brb.wq ++ es } }.reply .ok
    else s.reply .retry

/-- POSTED_WRITE (16 R374). -/
def execPostedWrite (_r : BitVec 8) (n : Part) (addr : BitVec 24) (sz : Size) (v : Word) (s : State) :
    Host.Outcome State Fault Refusal :=
  .next (rackWrite n addr.toNat sz v s)

/-- Read entry i. -/
def rackEntry (s : State) (i : Nat) : Option RackR := (s.brb.rd.find? (fun e => e.1 = i)).map (·.2)

/-- Frees read entry i; a cycle that runs for it completes with its data discarded (16 R376). -/
def freeEntry (i : Nat) (s : State) : State :=
  { s with brb := { s.brb with
      rd := Tab.erase s.brb.rd i
      cyc := if s.brb.cyc = .fetch (some i) then .fetch none else s.brb.cyc } }

/-- Sets read entry i. -/
def setEntry (i : Nat) (x : RackR) (s : State) : State :=
  { s with brb := { s.brb with rd := Tab.insert (Tab.erase s.brb.rd i) i x } }

/-- The value that the fetched halfwords make, first first (16 R371). -/
def gotValue (hs : List (BitVec 16)) : Word := wd (hs.foldl (fun a h => a * 65536 + h.toNat) 0)

/-- A rack read: the first issue allocates an entry, a matching re-issue takes the result (16 R376). -/
def rackRead (r : Nat) (n : Part) (a : Nat) (sz : Size) (s : State) : State :=
  match rackCheck n.toNat a sz s with
  | some st => s.reply st
  | none =>
    let wide := decide (sz = .b4)
    match s.brb.rd.find? (fun e => e.2.req = r && e.2.addr = a && e.2.wide = wide) with
    | some (i, x) =>
      match x.state with
      | .ended .ok => (freeEntry i s).answer .ok (gotValue x.got)
      | .ended st => (freeEntry i s).reply st
      | _ => s.reply .retry
    | none =>
      match (List.range 8).find? (fun i => (rackEntry s i).isNone) with
      | some i => (setEntry i { req := r, addr := a, wide := wide, state := .waiting, got := [] } s).reply .retry
      | none => s.reply .retry

/-- DELAYED_READ (16 R376). -/
def execDelayedRead (r : BitVec 8) (n : Part) (addr : BitVec 24) (sz : Size) (s : State) :
    Host.Outcome State Fault Refusal :=
  .next (rackRead r.toNat n addr.toNat sz s)

/-! ### Bus cycles (16 R372) -/

/-- Starts the fetch of entry i. -/
def startFetch (i : Nat) (x : RackR) (s : State) : State :=
  let s1 := setEntry i { x with state := .fetching } s
  { s1 with brb := { s1.brb with cyc := .fetch (some i) } }

/-- Starts the next cycle: the second half of a fetch, else the first queued write, else a waiting fetch, which one of
several being free (16 R370, R374, R376; DESIGN CHOICE log 26). No cycle starts while BRST_L is low (16 R373). -/
def busCycle (s : State) : State :=
  if s.brb.cyc ≠ .none || !s.pins.brst then s
  else
    match s.brb.rd.find? (fun e => e.2.state = .fetching) with
    | some (i, x) => startFetch i x s
    | none =>
      match s.brb.wq with
      | w :: _ => { s with brb := { s.brb with cyc := .write, ad := w.data } }
      | [] =>
        match s.brb.rd.filter (fun e => e.2.state = .waiting) with
        | [] => s
        | es =>
          match es[Config.fetchPick s.free % es.length]? with
          | some (i, x) => startFetch i x s.spend
          | none => s

/-- BUS_CYCLE (16 R372). -/
def execBusCycle (s : State) : Host.Outcome State Fault Refusal := .next (busCycle s)

/-- The running write cycle ends with a status (16 R374): a TIMEOUT or FAULT is kept in STAT, LASTERR and LASTERRP, with
alarm and record. -/
def endWrite (st : Status) (s : State) : State :=
  match s.brb.wq with
  | [] => { s with brb := { s.brb with cyc := .none } }
  | w :: ws =>
    let s1 := { s with brb := { s.brb with cyc := .none, wq := ws } }
    if st = .ok then s1 else
      let s2 := s1.setBits .brbStat (if st = .timeout then bit 2 else bit 3)
      let s3 := (s2.wr .brbLasterr (wd (st.code * 0x1000000 + w.addr))).wr .brbLasterrp (w.part.setWidth 32)
      record .rackWrite w.part.toNat [wd w.addr, wd st.code] (alarm .brb s3)

/-- The running fetch cycle of entry i ends with a halfword and a status: a 32-bit read ends as the later of its two
cycles ends (16 R370; DESIGN CHOICE log 27). -/
def endFetch (i : Nat) (h : BitVec 16) (st : Status) (s : State) : State :=
  let s1 := { s with brb := { s.brb with cyc := .none } }
  match rackEntry s i with
  | none => s1
  | some x =>
    let got := x.got ++ [h]
    if x.wide && got.length = 1 then setEntry i { x with got := got } s1
    else setEntry i { x with got := got, state := .ended st } s1

/-- A cycle ends. -/
def endCycle (h : BitVec 16) (st : Status) (s : State) : State :=
  match s.brb.cyc with
  | .none => s
  | .write => endWrite st s
  | .fetch none => { s with brb := { s.brb with cyc := .none } }
  | .fetch (some i) => endFetch i h st s

/-- A cycle ends without data. -/
def endBad (st : Status) (s : State) : State :=
  if s.brb.cyc = .none then s else endCycle (Config.rackData s.free) st s.spend

/-- ACK (16 R372): read data is latched. -/
def ack (data : BitVec 16) (s : State) : State :=
  match s.brb.cyc with
  | .fetch _ => endCycle data .ok { s with brb := { s.brb with ad := data } }
  | _ => endCycle data .ok s

/-- ACK (16 R372). -/
def execAck (data : BitVec 16) (s : State) : Host.Outcome State Fault Refusal := .next (ack data s)

/-- ERR (16 R372): the cycle ends with FAULT. -/
def execErr (s : State) : Host.Outcome State Fault Refusal := .next (endBad .fault s)

/-- CYCLE_TIMEOUT (16 R372): the cycle ends with TIMEOUT. -/
def execCycleTimeout (s : State) : Host.Outcome State Fault Refusal := .next (endBad .timeout s)

/-- UNCLAIMED_ENTRY_EXPIRY (16 R376). -/
def unclaimedEntryExpiry (i : Fin 8) (s : State) : State :=
  match rackEntry s i with
  | some x =>
    match x.state with
    | .ended _ => (freeEntry i s).setBits .brbStat (bit 1)
    | _ => s
  | none => s

/-- UNCLAIMED_ENTRY_EXPIRY (16 R376). -/
def execUnclaimedEntryExpiry (i : Fin 8) (s : State) : Host.Outcome State Fault Refusal :=
  .next (unclaimedEntryExpiry i s)

/-! ### The semaphore (16 R377, R378) -/

/-- A read of SEMk attempts to take the semaphore. -/
def semTake (n : Part) (k : Nat) (s : State) : State :=
  match s.brb.sem with
  | none => { s with brb := { s.brb with sem := some { slot := k, part := n } } }.answer .ok (wd Status.ok.code)
  | some x =>
    if x.slot = k && x.part = n then s.answer .ok (wd Status.ok.code) else s.answer .ok (wd Status.busy.code)

/-- SEMAPHORE_TAKE (16 R377). -/
def execSemaphoreTake (_r : BitVec 8) (n : Part) (k : Fin 8) (s : State) : Host.Outcome State Fault Refusal :=
  .next (semTake n k s)

/-- A write to SEMk releases the semaphore if the writer holds it for slot k (DEDUCED log 29). -/
def semRelease (n : Part) (k : Nat) (s : State) : State :=
  match s.brb.sem with
  | some x =>
    if x.part = n && x.slot = k then { s with brb := { s.brb with sem := none } }.reply .ok else s.reply .denied
  | none => s.reply .denied

/-- SEMAPHORE_RELEASE (16 R377). -/
def execSemaphoreRelease (_r : BitVec 8) (n : Part) (k : Fin 8) (s : State) : Host.Outcome State Fault Refusal :=
  .next (semRelease n k s)

/-- The job of partition n on requester r ends with code ec: its read entries are freed, and a semaphore it still holds
is released with SEMREL, alarm and record (16 R376, R378). -/
def rackJobEnd (n : Part) (r ec : Nat) (s : State) : State :=
  let s1 := (s.brb.rd.filter (fun e => e.2.req = r)).foldl (fun u e => freeEntry e.1 u) s
  match s1.brb.sem with
  | some x =>
    if x.part = n then
      let s2 := { s1 with brb := { s1.brb with sem := none } }.setBits .brbStat (bit 4)
      record .semReleased n.toNat [wd x.slot, wd ec] (alarm .brb s2)
    else s1
  | none => s1

/-! ### Rack interrupts (16 R379) -/

/-- The byte at a staging offset with the writes that are held. -/
def stagedByte (n off : Nat) (s : State) : Byte :=
  match ((s.part n).heldW.filter (fun c => c.1 = s.stagAddr n + off)).getLast? with
  | some c => c.2
  | none => s.byte (s.stagAddr n + off)

/-- A unit writes one bit of partition n's staging block. -/
def stageBit (n pos : Nat) (b : Bool) (s : State) : State :=
  if pos / 8 < s.iiSize n then
    let m : Byte := BitVec.ofNat 8 (2 ^ (pos % 8))
    let o := stagedByte n (pos / 8) s
    stageBytes n (pos / 8) [if b then o ||| m else o &&& ~~~ m] s
  else s

/-- The first assertion while VALID is 0 is stamped, within 1 us (18 R416); a further one sets OVR. -/
def irqStamp (k : Nat) (s : State) : State :=
  if (s.rd .brbIrqStat k).getLsbD 31 then s.setBits .brbIrqStat (bit 30) k
  else
    let t := s.stampAt 11 1000
    ((s.wr .brbIrqTsLo (lo32 t) k).wr .brbIrqTsHi (hi32 t) k).setBits .brbIrqStat (bit 31) k

/-- A change of the filtered level of IRQk_L. -/
def irqChange (k : Nat) (b : Bool) (s : State) : State :=
  if s.brb.irq.getLsbD k = b then s
  else
    let m : BitVec 8 := BitVec.ofNat 8 (2 ^ k)
    let s1 := { s with brb := { s.brb with irq := if b then s.brb.irq ||| m else s.brb.irq &&& ~~~ m } }
    let c := s1.rdA .brbIrqCtlS k
    if c.getLsbD 31 then
      let s2 :=
        match slotOwner s1 k with
        | some n => stageBit n (fld c 0 19) b s1
        | none => s1
      if b && c.getLsbD 30 then irqStamp k s2 else s2
    else s1

/-- IRQ_CHANGE (16 R379). -/
def execIrqChange (k : Fin 8) (asserted : Bool) (s : State) : Host.Outcome State Fault Refusal :=
  .next (irqChange k asserted s)

/-- A read of IRQk_TS_LO latches TS_HI and clears VALID. The latched copy is bank 0. -/
def irqTsRead (k : Nat) (s : State) : State :=
  ((s.wrB 0 .brbIrqTsHi (s.rd .brbIrqTsHi k) k).clrBits .brbIrqStat (bit 31) k).answer .ok (s.rd .brbIrqTsLo k)

/-- IRQ_STAMP_READ (16 R379). -/
def execIrqStampRead (w : Who) (k : Fin 8) (s : State) : Host.Outcome State Fault Refusal :=
  .next (asReader w .brbIrqTsLo s (fun _ => irqTsRead k))

/-! ### Control and registers (16 R373, R381, R382) -/

/-- BRST_L is low until EN has been written 1, and during the pulse of RST. -/
def setBrst (s : State) : State := { s with pins := { s.pins with brst := s.brb.live && !s.brb.pulse } }

/-- A write to BRB.CTL: TMO 0 is DENIED; EN releases BRST_L; RST starts its 10 us pulse. -/
def brbCtlWrite (v : Word) (s : State) : State :=
  if fld v 8 8 = 0 then s.reply .denied
  else
    let s1 := s.put .brbCtl v
    (setBrst { s1 with brb := { s1.brb with
      live := s1.brb.live || v.getLsbD 31
      pulse := s1.brb.pulse || v.getLsbD 30 } }).reply .ok

/-- BRIDGE_ENABLE (16 R373). -/
def execBridgeEnable (w : Who) (v : Word) (s : State) : Host.Outcome State Fault Refusal :=
  .next (asFnd w s (brbCtlWrite v))

/-- BUS_RESET (16 R382). -/
def execBusReset (w : Who) (v : Word) (s : State) : Host.Outcome State Fault Refusal :=
  .next (asFnd w s (brbCtlWrite v))

/-- BUS_RESET_END (16 R373). -/
def execBusResetEnd (s : State) : Host.Outcome State Fault Refusal :=
  .next (setBrst { s with brb := { s.brb with pulse := false } })

/-- A slot's owner register takes only a partition that holds the slot in the pin-ownership table (16 R381). -/
def slotOwnWrite (k : Nat) (v : Word) (s : State) : State :=
  if v.getLsbD 31 && !ownsPin s (212 + k) (fld v 0 10) then (recordDenied (fld v 0 10) (212 + k) s).reply .denied
  else (s.put .brbSlotOwn v k).reply .ok

/-- The writes of BRB registers that are not plain. -/
def brbWrite (w : Who) (r : Reg) (i : Nat) (v : Word) (s : State) : Option State :=
  match r with
  | .brbCtl => some (asFnd w s (brbCtlWrite v))
  | .brbSem => some (asAny w s (fun n u => semRelease (BitVec.ofNat 10 n) i u))
  | .brbSlotOwn => some (asFnd w s (slotOwnWrite i v))
  | _ => none

/-- The reads of BRB registers that are not plain. -/
def brbRead (w : Who) (r : Reg) (i : Nat) (s : State) : Option State :=
  match r with
  | .brbSem => some (asReader w r s (fun n u => semTake (BitVec.ofNat 10 n) i u))
  | .brbIrqTsLo => some (asReader w r s (fun _ => irqTsRead i))
  | .brbIrqTsHi => some (asReader w r s (fun _ u => u.answer .ok (u.rdB 0 .brbIrqTsHi i)))
  | .brbIrqStat => some (asReader w r s (fun _ u =>
      u.answer .ok (u.rd .brbIrqStat i ||| (if u.brb.irq.getLsbD i then 1 else 0))))
  | .brbQstat => some (asReader w r s (fun _ u => u.answer .ok (wd (u.brb.wq.length * 65536 + u.brb.rd.length))))
  | .brbSemstat => some (asReader w r s (fun _ u => u.answer .ok (
      match u.brb.sem with
      | some x => wd (0x80000000 + x.slot % 8 * 0x1000000 + x.part.toNat)
      | none => 0)))
  | _ => none

/-- The IRQ registers of partition n's slots swap at its boundary (16, Registers). -/
def rackSwap (n : Nat) (s : State) : State :=
  (List.range 8).foldl (fun u k => if slotOwner u k = some n then u.swap .brbIrqCtlS k else u) s

end Sys2Proof.Machine
end

