-- ==== Sys2Proof/Machine/Ethernet.lean ====
section
/-!
DEFINITION. The Ethernet switch, its partition channels, the transparent clock and the redundant port pairs (09).
-/

namespace Sys2Proof.Machine

/-! ### Settings in force -/

/-- VLAN entry of a VID: member and untag sets and the owner word; none for 0, 4095 and an entry not valid (09 R217). -/
def ethVlan (s : State) (vid : Nat) : Option (Word × Word × Word) :=
  let m := s.rdBA vid .ethVmemS
  if vid = 0 ∨ vid ≥ 4095 ∨ !m.getLsbD 31 then none else some (m, s.rdBA vid .ethVuntS, s.rdBA vid .ethVownS)

/-- Port or partition channel p is in the member set of a VID. -/
def ethMember (s : State) (vid p : Nat) : Bool :=
  match ethVlan s vid with
  | none => false
  | some e => e.1.getLsbD p

/-- The partition that owns a VID on the internal port (09 R217). -/
def ethOwner (s : State) (vid : Nat) : Option Nat :=
  match ethVlan s vid with
  | none => none
  | some e => if e.2.2.getLsbD 31 then some (fld e.2.2 0 10) else none

/-- Port p is enabled and its link is up. -/
def portUp (s : State) (p : Nat) : Bool := (s.rdA .ethPcfgS p).getLsbD 31 && (s.rd .ethPstat p).getLsbD 0

/-- Port A of pair k. -/
def pairA (s : State) (k : Nat) : Nat := fld (s.rdA .ethPrCfgS k) 4 4
/-- Port B of pair k. -/
def pairB (s : State) (k : Nat) : Nat := fld (s.rdA .ethPrCfgS k) 8 4
/-- Pair k is in use. -/
def pairValid (s : State) (k : Nat) : Bool := (s.rdA .ethPrCfgS k).getLsbD 31
/-- The valid pair that port p belongs to. -/
def pairOf (s : State) (p : Nat) : Option Nat :=
  (List.range 7).find? (fun k => pairValid s k && (pairA s k = p || pairB s k = p))
/-- The state of pair k's port A, or B. -/
def Pair.at (x : Pair) (b : Bool) : PairState := if b then x.b else x.a
/-- Sets the state of a pair's port A, or B. -/
def Pair.to (x : Pair) (b : Bool) (st : PairState) : Pair := if b then { x with b := st } else { x with a := st }
/-- The active port of a pair: true for port B. -/
def Pair.active (x : Pair) : Option Bool :=
  if x.a = .active then some false else if x.b = .active then some true else none

/-- The number by which forwarding and member sets name port p: a pair's lower number. -/
def logPort (s : State) (p : Nat) : Nat :=
  match pairOf s p with
  | some k => pairA s k
  | none => p

/-- Port p carries forwarded frames: it is no pair port, or the active one. -/
def portCarries (s : State) (p : Nat) : Bool :=
  match pairOf s p with
  | some k => (s.pair k).active = some (decide (p = pairB s k))
  | none => true

/-- The logical port can send: its active port is up. -/
def logUp (s : State) (p : Nat) : Bool :=
  match pairOf s p with
  | some k =>
    (match (s.pair k).active with
     | some b => portUp s (if b then pairB s k else pairA s k)
     | none => false)
  | none => portUp s p

/-- The MAC address of partition n's channel. -/
def chMac (s : State) (n : Nat) : BitVec 48 :=
  BitVec.ofNat 48 (fld (s.rdA .ethChMacHiS n) 0 16 * 4294967296 + (s.rdA .ethChMacLoS n).toNat)
/-- Partition n's channel is enabled. -/
def chEn (s : State) (n : Nat) : Bool := (s.rdA .ethChCtlS n).getLsbD 31
/-- Entries of partition n's receive ring. -/
def chRxN (s : State) (n : Nat) : Nat := 2 ^ fld (s.rdA .ethChCtlS n) 8 4
/-- Entries of partition n's transmit ring. -/
def chTxN (s : State) (n : Nat) : Nat := 2 ^ fld (s.rdA .ethChCtlS n) 0 4

/-- The PTP channel, if any (09 R229). -/
def ptpChan (s : State) : Option Nat :=
  let w := s.rdA .ethPtpchS
  if w.getLsbD 31 then some (fld w 0 10) else none

/-- The length of a frame at a port, FCS included (09 R216). -/
def frameLen (f : Frame) : Nat :=
  18 + (if f.tag.isSome then 4 else 0) + (if f.tag2 then 4 else 0) + f.payload.length

/-- Byte i of a payload. -/
def byteAt (l : List Byte) (i : Nat) : Nat := (l.getD i 0).toNat

/-- A group address. -/
def isGroup (m : BitVec 48) : Bool := m.getLsbD 40

/-- The destination of 802.1AS frames (09 R229). -/
def asAddr : BitVec 48 := 0x0180C200000E

/-! ### PTP messages (09 R223, R226; header layouts of IEEE 1588, PRESUMED log 37) -/

/-- Where the PTP header of a frame begins, and whether the transport is that of event messages. -/
def ptpAt (s : State) (f : Frame) : Option (Nat × Bool) :=
  if f.tag2 then none
  else if f.etype = 0x88F7 then some (0, true)
  else
    let h := 4 * (byteAt f.payload 0 % 16)
    let port := beNat (slice f.payload (h + 2) 2)
    if (s.rdA .ethPtpctlS).getLsbD 2 && f.etype = 0x0800 && byteAt f.payload 0 / 16 = 4 && byteAt f.payload 9 = 17 &&
      (port = 319 || port = 320) then some (h + 8, port = 319)
    else none

/-- The messageType of the header at an offset. -/
def ptpType (f : Frame) (o : Nat) : Nat := byteAt f.payload o % 16

/-- The message is an event message: its header's offset. -/
def ptpEvent (s : State) (f : Frame) : Option Nat :=
  match ptpAt s f with
  | some (o, true) => if ptpType f o < 4 then some o else none
  | _ => none

/-- A Pdelay message: Pdelay_Req, Pdelay_Resp or Pdelay_Resp_Follow_Up. -/
def isPdelay (t : Nat) : Bool := t = 2 || t = 3 || t = 10

/-- A stamp of port p in units of 2^-16 ns: the time of the unit's replica at the MDI or ball with the trim in ps, exact to
4 ns for an event message and to 24 ns for another (09 R223 to R225). The error within those bounds is a free value (DESIGN
CHOICE log 38). -/
def ethStamp (rx : Bool) (p : Nat) (ev : Bool) (s : State) : Nat × State :=
  let trim := (BitVec.ofNat 16 (fld (s.rdA (if rx then .ethPrxtrimS else .ethPtxtrimS) p) 0 16)).toInt
  let w := 65536 * (if ev then 4 else 24)
  let err : Int := (Config.stampError s.free % (2 * w + 1) : Nat) - (w : Int)
  ((s.nowAt 5 * 65536 + trim * 65536 / 1000 + err).toNat, s.spend)

/-- A stamp in whole ns, as a ring entry holds it (09 R219). -/
def stampNs (t : Nat) : Nat := t / 65536

/-! ### Ring entries (09 R219, R220) -/

/-- The 32-byte entry at va lies in a shared region that partition n maps with RD and W. -/
def ringOk (s : State) (n va : Nat) : Bool :=
  match s.xlate n .load va, s.xlate n .store va with
  | some (pa, sh), some _ => sh && isMem pa 32
  | _, _ => false

/-- Word i of an entry's bytes. -/
def entryWord (e : List Byte) (i : Nat) : Word := wd (leNat (slice e (4 * i) 4))

/-- A frame dropped at partition n's channel: counted in the channel's STAT from bit lo up. -/
def chDrop (n lo : Nat) (s : State) : State := (s.count16 .ethChStat lo n).setBits .ethStat (bit 0)

/-- The owner of a channel takes frames (09 R217). -/
def chOpen (s : State) (n : Nat) : Bool :=
  match (s.part n).state with
  | .off | .stopped | .shed | .held => false
  | .wait | .queued | .run => true

/-- The channel entry at va as the switch reads it: DENIED where the ring does not pass its check (09 R219). -/
def entryRead (n va : Nat) (s : State) : Status × List Byte × State :=
  if ringOk s n va then partRead n va 16 s else (.denied, [], s)

/-- Delivers a frame to partition n's channel (09 R217, R219, R220). The ring is full where RXHEAD has reached RXTAIL, the
first entry not returned (R221; DEDUCED log 85). A frame that a failed check or read ends completes its entry and is lost. -/
def ethDeliver (n port vid pcp stamp : Nat) (f : Frame) (s : State) : State :=
  let h := (s.rdB n .ethRxhead).toNat
  let va := (s.rdA .ethChRxbaseS n).toNat + 32 * h
  if !chEn s n || !chOpen s n || h = (s.rdB n .ethRxtail).toNat then chDrop n 16 s
  else
    let e := entryRead n va s
    let buf := (entryWord e.2.1 0).toNat
    let size := fld (entryWord e.2.1 1) 0 16
    let bs := beBytes 6 f.dst.toNat ++ beBytes 6 f.src.toNat ++ beBytes 2 f.etype.toNat ++ f.payload
    let d := bs.take size
    let w := if e.1 ≠ .ok then (e.1, e.2.2)
      else if s.mayUse n .store buf d.length then partWrite n buf d e.2.2 else (.denied, e.2.2)
    let st := if w.1 ≠ .ok then w.1 else if bs.length > size then .size else .ok
    let out := leBytes 4 (bs.length % 65536) ++
      leBytes 4 (2 ^ 31 + st.code * 65536 + port * 4096 + vid) ++ leBytes 4 pcp ++ leBytes 8 (stampNs stamp) ++ leBytes 8 0
    let s1 := (partWrite n (va + 4) out w.2).2.wrB n .ethRxhead (wd ((h + 1) % chRxN s n))
    if w.1 ≠ .ok then chDrop n 16 s1 else s1

/-- A transmit entry completes with a status and the egress stamp in ns (09 R219). -/
def txDone (n idx : Nat) (st : Status) (stamp : Nat) (s : State) : State :=
  let va := (s.rdA .ethChTxbaseS n).toNat + 32 * idx
  let e := partRead n (va + 8) 4 s
  let w := leNat e.2.1 % 65536 + 2 ^ 31 + st.code * 65536
  let s1 := (partWrite n (va + 8) (leBytes 4 w) e.2.2).2
  let s2 := (partWrite n (va + 16) (leBytes 8 stamp) s1).2
  if st = .ok then s2 else chDrop n 0 s2

/-! ### Egress queues (09 R218) -/

/-- Queue q of port p. -/
def ethQ (s : State) (p q : Nat) : List QFrame := Tab.get [] s.eth.q (8 * p + q)
/-- Replaces a queue. -/
def setEthQ (k : Nat) (l : List QFrame) (s : State) : State :=
  { s with eth := { s.eth with q := Tab.set [] s.eth.q k l } }
/-- Bytes that frames occupy in the frame buffer. -/
def qBytes (l : List QFrame) : Nat := (l.map (fun x => frameLen x.f)).sum
/-- Bytes in all queues. -/
def bufBytes (s : State) : Nat := (s.eth.q.map (fun x => qBytes x.2)).sum

/-- A copy of the frame of a channel entry is still queued at some port. -/
def chanQueued (s : State) (c : Part × Nat) : Bool := s.eth.q.any (fun x => x.2.any (fun y => y.chan = some c))

/-- The copies of a channel entry's frame that are still queued complete nothing more. -/
def clearChan (c : Part × Nat) (s : State) : State :=
  { s with eth := { s.eth with q := s.eth.q.map (fun x => (x.1, x.2.map (fun y => if y.chan = some c then { y with chan := none } else y))) } }

/-- A queued copy ends without leaving: its entry completes with a status where no other copy can leave (09 R220). -/
def qEnd (st : Status) (x : QFrame) (s : State) : State :=
  match x.chan with
  | some (n, i) => if chanQueued s (n, i) then s else txDone n.toNat i st 0 s
  | none => s

/-- A frame dropped at egress port p. -/
def txDrop (p : Nat) (s : State) : State := (s.count .ethPcnt 1 p 5).setBits .ethStat (bit 0)

/-- Puts a frame into queue q of port p: false, with the drop counted, where it would exceed a limit. -/
def ethEnqueue (p q : Nat) (x : QFrame) (s : State) : Bool × State :=
  let l := ethQ s p q
  if qBytes l + frameLen x.f > (s.rdA .ethQlimS).toNat ∨ bufBytes s + frameLen x.f > 4194304 then (false, txDrop p s)
  else (true, setEthQ (8 * p + q) (l ++ [x]) s)

/-- The queue that a PCP maps to. -/
def pcpQueue (s : State) (pcp : Nat) : Nat := fld (s.rdA .ethPcpmapS) (3 * pcp) 3

/-- Frames of port p's queues that satisfy a predicate end with FAULT and are dropped (09 R220, R233). -/
def ethFlush (p : Nat) (f : QFrame → Bool) (s : State) : State :=
  (List.range 8).foldl (fun s q =>
    let l := ethQ s p q
    let s1 := setEthQ (8 * p + q) (l.filter (fun x => !f x)) s
    (l.filter f).foldl (fun s x => qEnd .fault x (txDrop p s)) s1) s

/-- The ports a frame goes to: the learned port, or every other member of its VID (09 R217, R218). -/
def ethTargets (s : State) (vid inp : Nat) (dst : BitVec 48) : List Nat :=
  match (if isGroup dst then none else s.eth.fdb.find? (fun e => e.vid.toNat = vid && e.mac = dst)) with
  | some e => if ethMember s vid e.port && e.port ≠ inp then [e.port] else []
  | none => (List.range 15).filter (fun p => ethMember s vid p && p ≠ inp && logPort s p = p)

/-- Learns a source address (09 R215, R237 LEARN). -/
def ethLearn (vid inp : Nat) (mac : BitVec 48) (s : State) : State :=
  if !(s.rdA .ethCtlS).getLsbD 1 || isGroup mac then s
  else
    let t := s.eth.fdb.filter (fun e => !(e.vid.toNat = vid && e.mac = mac))
    if t.length ≥ 8192 then s
    else { s with eth := { s.eth with fdb := t ++ [{ vid := BitVec.ofNat 12 vid, mac := mac, port := inp }] } }

/-- Queues a frame at each external port of a list that is up; the first copy to leave completes the channel entry.
Answers how many ports were up and how many copies were queued. -/
def ethSpread : List Nat → QFrame → State → Nat × Nat × State
  | [], _, s => (0, 0, s)
  | p :: ps, x, s =>
    if !logUp s p then
      let r := ethSpread ps x (txDrop p s)
      (r.1, r.2.1, r.2.2)
    else
      let e := ethEnqueue p (pcpQueue s x.pcp.toNat) x s
      let r := ethSpread ps x e.2
      (r.1 + 1, r.2.1 + b2n e.1, r.2.2)

/-! ### Pairs (09 R231 to R235) -/

/-- A role change of pair k: FAILOVER, the alarm, the record, and learning frames due (09 R233). -/
def roleChange (k : Nat) (s : State) : State :=
  let x := s.pair k
  alarmRec .eth .pairRole [wd k] ((s.setPair k { x with learn := true }).setBits .ethStat (bit 2))

/-- Port A, or B, of pair k becomes path-good: HOLD beside an active port, ACTIVE at once in a down pair (09 R233,
R235). -/
def portGood (k : Nat) (b : Bool) (s : State) : State :=
  let x := s.pair k
  if x.at b ≠ .down ∧ x.at b ≠ .nochk then s
  else if x.active.isSome then s.setPair k (x.to b .hold)
  else roleChange k ((s.setPair k (x.to b .active)).count16 .ethPrCnt 16 k)

/-- Port A, or B, of pair k enters DOWN or NOCHK: the standby takes over, or the pair is down (09 R232, R233). -/
def portFails (k : Nat) (b : Bool) (st : PairState) (s : State) : State :=
  let x := s.pair k
  if x.at b = .hidden then s
  else if x.at b ≠ .active then s.setPair k (x.to b st)
  else if x.at (!b) = .standby then
    let s1 := s.setPair k { (x.to b st).to (!b) .active with verify := none, lastRx := none }
    roleChange k (s1.count16 .ethPrCnt 16 k)
  else
    ethFlush (pairA s k) (fun q => !q.direct) (s.setPair k { x.to b st with verify := none, lastRx := none })

/-- Pair k can swap: one port ACTIVE, the other STANDBY; true where port B is the standby. -/
def canPairSwap (s : State) (k : Nat) : Option Bool :=
  let x := s.pair k
  match x.active with
  | some b => if pairValid s k && x.at (!b) = .standby then some (!b) else none
  | none => none

/-- VERIFY of pair k in ns (09 R241). -/
def verifyNs (s : State) (k : Nat) : Nat := fld (s.rdA .ethPrTimS k) 16 8 * 10000000

/-- The swap of pair k to port b: the roles, the verification window, the count (09 R234). -/
def pairSwap (k : Nat) (b : Bool) (s : State) : State :=
  let x := s.pair k
  let old := match x.lastRx with
    | some t => if s.now < t + verifyNs s k then some t else none
    | none => none
  let x1 := { (x.to b .active).to (!b) .standby with verify := some b, newRx := false, oldRx := old, lastRx := none }
  roleChange k ((s.setPair k x1).count16 .ethPrCnt 0 k)

/-- SCHEDULED_SWAP (09 R234): made, or counted as skipped. -/
def scheduledSwap (k : Fin 7) (s : State) : State :=
  if !pairValid s k || fld (s.rdA .ethPrSwapS k) 0 16 = 0 then s
  else
    match canPairSwap s k with
    | some b => pairSwap k b s
    | none => s.setPair k { s.pair k with skipped := (s.pair k).skipped + 1 }

/-- SCHEDULED_SWAP (09 R234). -/
def execScheduledSwap (k : Fin 7) (s : State) : Host.Outcome State Fault Refusal := .next (scheduledSwap k s)

/-- CMD.SWAP (09 R234, R241). -/
def pairSwapCmd (w : Who) (k : Nat) (s : State) : State :=
  asFnd w s fun s =>
    match canPairSwap s k with
    | some b => (pairSwap k b s).reply .ok
    | none => s.reply .denied

/-- PAIR_SWAP (09 R234). -/
def execPairSwap (w : Who) (k : Fin 7) (s : State) : Host.Outcome State Fault Refusal := .next (pairSwapCmd w k s)

/-- CMD.CLRFAIL moves a HIDDEN port to HOLD (09 R235). -/
def clrFail (k : Nat) (s : State) : State :=
  let x := s.pair k
  let y := if x.a = .hidden then { x with a := .hold } else x
  s.setPair k (if y.b = .hidden then { y with b := .hold } else y)

/-- CMD.CLRFAIL by its initiator. -/
def clrFailCmd (w : Who) (k : Nat) (s : State) : State := asFnd w s fun s => (clrFail k s).reply .ok

/-- CLRFAIL (09 R235). -/
def execClrfail (w : Who) (k : Fin 7) (s : State) : Host.Outcome State Fault Refusal := .next (clrFailCmd w k s)

/-- VERIFY_EXPIRY (09 R234): on failure the roles change back and the new port enters HIDDEN. -/
def verifyExpiry (k : Fin 7) (s : State) : State :=
  let x := s.pair k
  match x.verify with
  | none => s
  | some b =>
    let s1 := s.setPair k { x with verify := none }
    if !x.newRx && x.oldRx.isSome && x.at b = .active && x.at (!b) = .standby then
      let s2 := s1.setPair k { (x.to b .hidden).to (!b) .active with verify := none, lastRx := none }
      let s3 := roleChange k (s2.count16 .ethPrCnt 16 k)
      alarmRec .eth .pairHidden [wd k] (s3.setBits .ethStat (bit 3))
    else s1

/-- VERIFY_EXPIRY (09 R234). -/
def execVerifyExpiry (k : Fin 7) (s : State) : Host.Outcome State Fault Refusal := .next (verifyExpiry k s)

/-- Applies an operation to the pair of port p, with whether p is its port B. -/
def onPair (p : Nat) (f : Nat → Bool → State → State) (s : State) : State :=
  match pairOf s p with
  | some k => f k (p = pairB s k) s
  | none => s

/-- HOLDOFF_EXPIRY (09 R235): HOLD becomes STANDBY; ACTIVE where the pair is down (09 R233; DEDUCED log 39). -/
def holdoffExpiry (p : Fin 14) (s : State) : State :=
  onPair p (fun k b s =>
    let x := s.pair k
    if x.at b ≠ .hold then s
    else if !portUp s p then s.setPair k (x.to b .down)
    else if !(s.rd .ethPstat p).getLsbD 2 then s.setPair k (x.to b .nochk)
    else if x.active.isSome then s.setPair k (x.to b .standby)
    else roleChange k ((s.setPair k (x.to b .active)).count16 .ethPrCnt 16 k)) s

/-- HOLDOFF_EXPIRY (09 R235). -/
def execHoldoffExpiry (p : Fin 14) (s : State) : Host.Outcome State Fault Refusal := .next (holdoffExpiry p s)

/-- CHECK_LOSS (09 R231, R233): the port is no longer path-good and enters NOCHK. -/
def checkLoss (p : Fin 14) (s : State) : State :=
  let s1 := s.clrBits .ethPstat (bit 2) p
  onPair p (fun k b s => if (s.pair k).at b = .down then s else portFails k b .nochk s) s1

/-- CHECK_LOSS (09 R233). -/
def execCheckLoss (p : Fin 14) (s : State) : Host.Outcome State Fault Refusal := .next (checkLoss p s)

/-- LINK_LOSS (09 R233): the port enters DOWN; frames bound for it alone complete with FAULT. -/
def linkLoss (p : Fin 14) (s : State) : State :=
  let s1 := s.clrBits .ethPstat (bit 0 ||| bit 1) p
  match pairOf s1 p with
  | some k => portFails k (p = pairB s1 k) .down (ethFlush p (fun x => x.direct) s1)
  | none => ethFlush p (fun _ => true) s1

/-- LINK_UP (09 R232, R233, R235): in Run and not under XA fallback (02 R35, 03 R55). FEC is active on a KR port whose FEC is set. -/
def linkUp (p : Fin 14) (s : State) : State :=
  let c := s.rdA .ethPcfgS p
  if !c.getLsbD 31 || !netsUp s then s
  else
    let fec := p.val < 2 && fld c 28 2 = 0 && c.getLsbD 27
    let s1 := s.setBits .ethPstat (if fec then bit 0 ||| bit 1 else bit 0) p
    onPair p (fun k b s =>
      if (s.pair k).at b ≠ .down then s
      else if (s.rd .ethPstat p).getLsbD 2 then portGood k b s
      else s.setPair k ((s.pair k).to b .nochk)) s1

/-- LINK_UP (09 R235). -/
def execLinkUp (p : Fin 14) (s : State) : Host.Outcome State Fault Refusal := .next (linkUp p s)

/-- The destination of check frames. -/
def chkDa (s : State) : BitVec 48 :=
  BitVec.ofNat 48 (fld (s.rdA .ethChkdaHiS) 0 16 * 4294967296 + (s.rdA .ethChkdaLoS).toNat)

/-- The check frame of a port of pair k (09 R231). Its fields stand one after another, most significant byte first; its
source address is 0 (DEDUCED log 40). -/
def checkFrame (s : State) (k p : Nat) : Frame :=
  { dst := chkDa s, src := 0, tag := none, tag2 := false, etype := 0x88B5
    payload := padTo 0 46 (beBytes 2 1 ++ beBytes 6 (devid s) ++ [BitVec.ofNat 8 k, BitVec.ofNat 8 p]), fcsOk := true }

/-- A frame that the device itself queues at a port in queue 7. -/
def ownFrame (p : Nat) (f : Frame) (s : State) : State :=
  if !portUp s p then s
  else (ethEnqueue p 7 { f := f, vid := 0, pcp := 7, inp := 14, stamp := 0, chan := none, direct := true } s).2

/-- CHECK_FRAME (09 R231): each port of a valid pair sends one. -/
def checkFrames (k : Fin 7) (s : State) : State :=
  if !pairValid s k then s
  else
    let a := pairA s k
    let b := pairB s k
    ownFrame b (checkFrame s k b) (ownFrame a (checkFrame s k a) s)

/-- CHECK_FRAME (09 R231). -/
def execCheckFrame (k : Fin 7) (s : State) : Host.Outcome State Fault Refusal := .next (checkFrames k s)

/-- The lowest VID that partition n owns and that includes port a, from 1 up. -/
def lowVid (s : State) (n a : Nat) : Option Nat :=
  (List.range 4094).map (· + 1) |>.find? (fun v => ethOwner s v = some n && ethMember s v a)

/-- The learning frame of partition n's channel (09 R233). -/
def learnFrame (s : State) (n vid : Nat) : Frame :=
  { dst := 0xFFFFFFFFFFFF, src := chMac s n, tag := some (7, BitVec.ofNat 12 vid), tag2 := false, etype := 0x88B5
    payload := padTo 0 46 (beBytes 2 2), fcsOk := true }

/-- LEARNING_FRAMES (09 R233): one for each enabled channel whose owned VIDs include the pair. -/
def learningFrames (k : Fin 7) (s : State) : State :=
  let x := s.pair k
  match x.learn, x.active with
  | true, some b =>
    let p := if b then pairB s k else pairA s k
    (List.range 1024).foldl (fun s n =>
      if !chEn s n then s else
        match lowVid s n (pairA s k) with
        | some v => ownFrame p (learnFrame s n v) s
        | none => s) (s.setPair k { x with learn := false })
  | _, _ => s

/-- LEARNING_FRAMES (09 R233). -/
def execLearningFrames (k : Fin 7) (s : State) : Host.Outcome State Fault Refusal := .next (learningFrames k s)

/-! ### Frames arriving (09 R216 to R218, R229) -/

/-- A check frame seen on port p: one that carries another DEVID makes the port path-good (09 R231). -/
def checkSeen (p : Nat) (f : Frame) (s : State) : State :=
  if beNat (slice f.payload 2 6) = devid s then s
  else
    let s1 := s.setBits .ethPstat (bit 2) p
    onPair p (fun k b s => if portUp s p then portGood k b s else s) s1

/-- The storm limit of port p admits one more frame in this millisecond; the count with it (09 R238). -/
def stormAdmits (p : Nat) (s : State) : Bool × State :=
  let lim := fld (s.rdA .ethPstormS p) 0 16
  let ms := s.now / 1000000
  let c := Tab.get (0, 0) s.eth.storm p
  let n := if c.1 = ms then c.2 else 0
  if lim = 0 then (true, s)
  else if n < lim then (true, { s with eth := { s.eth with storm := Tab.set (0, 0) s.eth.storm p (ms, n + 1) } })
  else (false, s.count .ethPcnt 1 p 6)

/-- An ordinary frame on port p: what the verification of a swap looks at (09 R234). -/
def pairHears (p : Nat) (s : State) : State :=
  onPair p (fun k _ s =>
    let x := s.pair k
    s.setPair k { x with newRx := x.newRx || x.verify.isSome, lastRx := some s.now }) s

/-- A frame that passed the port's checks is classified, filtered and forwarded; got is the channel that has had it as
a PTP message (09 R217, R218). -/
def ethForward (p : Nat) (f : Frame) (stamp : Nat) (got : Option Nat) (s : State) : State :=
  let c := s.rdA .ethPcfgS p
  let lp := logPort s p
  let own := match f.tag with
    | some (pcp, vid) => if vid = 0 then none else some (pcp.toNat, vid.toNat)
    | none => none
  let cl := own.getD (fld c 24 3, fld c 0 12)
  let vid := cl.2
  if c.getLsbD 30 && !ethMember s vid lp then s.count .ethPcnt 1 p 3
  else
    let known := !isGroup f.dst && s.eth.fdb.any (fun e => e.vid.toNat = vid && e.mac = f.dst)
    let a := if known then (true, s) else stormAdmits p s
    if !a.1 then a.2
    else
      let s1 := ethLearn vid lp f.src a.2
      let t := ethTargets s1 vid lp f.dst
      let x : QFrame := { f := { f with tag := none }, vid := BitVec.ofNat 12 vid, pcp := BitVec.ofNat 3 cl.1,
                          inp := p, stamp := stamp, chan := none, direct := false }
      let s2 := (ethSpread (t.filter (· ≠ 14)) x s1).2.2
      if !t.contains 14 then s2
      else
        match ethOwner s2 vid with
        | none => s2
        | some n =>
          if got = some n then s2
          else if f.tag2 then s2.count .ethPcnt 1 p 3
          else ethDeliver n p vid cl.1 stamp f s2

/-- A PTP message that goes to the PTP channel (09 R229): addressed to the device, a Pdelay message under P2P, or an
802.1AS frame under AS. -/
def ptpToChan (s : State) (n : Nat) (f : Frame) : Bool :=
  let c := s.rdA .ethPtpctlS
  let ptp := match ptpAt s f with
    | some (o, _) => (isGroup f.dst && f.dst ≠ asAddr) || f.dst = chMac s n || (c.getLsbD 1 && isPdelay (ptpType f o))
    | none => false
  !f.tag2 && (ptp || (c.getLsbD 3 && f.dst = asAddr))

/-- A frame that is not forwarded: 802.1AS, Pdelay and Delay_Req under P2P, and PTP to the device's own address (09
R215, R227). -/
def ptpKept (s : State) (f : Frame) : Bool :=
  f.dst = asAddr ||
    (match ptpAt s f with
     | some (o, _) => ((s.rdA .ethPtpctlS).getLsbD 1 && (isPdelay (ptpType f o) || ptpType f o = 1)) ||
         (match ptpChan s with
          | some n => f.dst = chMac s n
          | none => false)
     | none => false)

/-- The VID and PCP that a PTP message is delivered with. -/
def ptpTag (s : State) (p : Nat) (f : Frame) : Nat × Nat :=
  match f.tag with
  | some (pcp, vid) => if vid = 0 then (fld (s.rdA .ethPcfgS p) 0 12, fld (s.rdA .ethPcfgS p) 24 3) else (vid.toNat, pcp.toNat)
  | none => (fld (s.rdA .ethPcfgS p) 0 12, fld (s.rdA .ethPcfgS p) 24 3)

/-- An accepted frame: to the PTP channel, and forwarded from a port that carries traffic (09 R218, R229, pairs). -/
def ethAccept (p : Nat) (f : Frame) (s : State) : State :=
  let st := ethStamp true p (ptpEvent s f).isSome s
  let s1 := st.2
  let got := match ptpChan s1 with
    | some n => if ptpToChan s1 n f then some n else none
    | none => none
  let s2 := match got with
    | some n => ethDeliver n p (ptpTag s1 p f).1 (ptpTag s1 p f).2 st.1 f s1
    | none => s1
  if !portCarries s2 p then s2
  else
    let s3 := if (ptpAt s2 f).isNone && f.dst ≠ asAddr then pairHears p s2 else s2
    if ptpKept s3 f || !(s3.rdA .ethCtlS).getLsbD 0 then s3 else ethForward p f st.1 got s3

/-- FRAME_RECEIVE (09 R215 to R218): checks at the ingress port, then the frame's way. -/
def frameReceive (p : Fin 14) (f : Frame) (s : State) : State :=
  if !portUp s p then s
  else if !f.fcsOk then s.count .ethPcnt 1 p 1
  else if frameLen f < 64 ∨ frameLen f > 2000 then s.count .ethPcnt 1 p 2
  else if f.etype = 0x8808 then s
  else
    let s1 := s.count .ethPcnt 1 p 0
    if f.etype = 0x88B5 && slice f.payload 0 2 = [0, 1] then checkSeen p f s1 else ethAccept p f s1

/-- FRAME_RECEIVE (09 R218). -/
def execFrameReceive (p : Fin 14) (f : Frame) (s : State) : Host.Outcome State Fault Refusal :=
  .next (frameReceive p f s)

/-- FORWARDING_AGE_EXPIRY (09 R237 AGE): 0 never ages. -/
def forwardingAgeExpiry (vid : BitVec 12) (mac : BitVec 48) (s : State) : State :=
  if fld (s.rdA .ethAgeS) 0 16 = 0 then s
  else { s with eth := { s.eth with fdb := s.eth.fdb.filter (fun e => !(e.vid = vid && e.mac = mac)) } }

/-- FORWARDING_AGE_EXPIRY (09 R237). -/
def execForwardingAgeExpiry (vid : BitVec 12) (mac : BitVec 48) (s : State) : Host.Outcome State Fault Refusal :=
  .next (forwardingAgeExpiry vid mac s)

/-! ### Frames leaving (09 R218, R226) -/

/-- Tokens of queue q at port p now, in bits times 1000 (bits are rate x ns / 1000), capped by the burst. -/
def tokensNow (s : State) (p q : Nat) : Int :=
  let w := s.rdA .ethPqshpS p q
  let t := Tab.get (0, 0) s.eth.tok (8 * p + q)
  min (fld w 20 12 * 8192000 : Nat) (t.1 + ((s.now - t.2) * fld w 0 16 : Nat))

/-- Queue q of port p is not held by its rate limit. -/
def rateOk (s : State) (p q : Nat) : Bool := fld (s.rdA .ethPqshpS p q) 0 16 = 0 || decide (tokensNow s p q > 0)

/-- A frame takes its length in tokens. -/
def takeTokens (p q len : Nat) (s : State) : State :=
  if fld (s.rdA .ethPqshpS p q) 0 16 = 0 then s
  else { s with eth := { s.eth with tok := Tab.set (0, 0) s.eth.tok (8 * p + q) (tokensNow s p q - (len * 8000 : Nat), s.now) } }

/-- The frame that port p sends from its queue q: its own direct frames, and the logical port's where it carries
traffic; with the key of the queue it stands in. -/
def pickFrame (s : State) (p q : Nat) : Option (Nat × QFrame) :=
  let lp := logPort s p
  let own := if lp = p && portCarries s p then (ethQ s p q).head? else (ethQ s p q).find? (fun x => x.direct)
  match own with
  | some x => some (8 * p + q, x)
  | none =>
    if lp ≠ p && portCarries s p then ((ethQ s lp q).find? (fun x => !x.direct)).map (fun x => (8 * lp + q, x)) else none

/-- The first of the queues q - 1 down to 0 with a frame to send and tokens. -/
def serveFrom (s : State) (p : Nat) : Nat → Option (Nat × Nat × QFrame)
  | 0 => none
  | q + 1 =>
    match pickFrame s p q with
    | some (k, x) => if rateOk s p q then some (q, k, x) else serveFrom s p q
    | none => serveFrom s p q

/-- The key of a follow-up: domain, source port identity and sequence number of the header at o (IEEE 1588). -/
def fupKey (f : Frame) (o : Nat) : Byte × List Byte × BitVec 16 :=
  (f.payload.getD (o + 4) 0, slice f.payload (o + 20) 10, BitVec.ofNat 16 (beNat (slice f.payload (o + 30) 2)))

/-- Adds a residence time in units of 2^-16 ns to the correctionField of the header at o, and clears the checksum of
UDP over IPv4 (09 R226). -/
def ptpCorrect (f : Frame) (o res : Nat) : Frame :=
  let c := beBytes 8 ((beNat (slice f.payload (o + 8) 8) + res) % 2 ^ 64)
  let b := f.payload.take (o + 8) ++ c ++ f.payload.drop (o + 16)
  { f with payload := if f.etype = 0x0800 then b.take (o - 2) ++ [0, 0] ++ b.drop o else b }

/-- The Follow_Up table of port p takes an entry: the oldest of 64 is dropped (09 R226). -/
def fupAdd (p : Nat) (key : Byte × List Byte × BitVec 16) (res : Nat) (s : State) : State :=
  let t := s.eth.fup.filter (fun e => !(e.port = p && (e.domain, e.src, e.seq) = key))
  let mine := t.filter (fun e => e.port = p)
  let t1 := if mine.length ≥ 64 then
      match mine.head? with
      | some e => t.erase e
      | none => t
    else t
  { s with eth := { s.eth with fup := t1 ++ [{ port := p, domain := key.1, src := key.2.1, seq := key.2.2, res := res }] } }

/-- The residence time of a frame that leaves port p at a stamp, with the link delay for a Sync under P2P. -/
def residence (s : State) (x : QFrame) (typ out : Nat) : Nat :=
  let ldly := if (s.rdA .ethPtpctlS).getLsbD 1 && typ = 0 then fld (s.rd .ethPldly x.inp) 0 24 * 256 else 0
  (((out : Int) - (x.stamp : Int) + (ldly : Int)) % (2 ^ 64 : Int)).toNat

/-- The transparent clock on a forwarded frame that leaves port p: the frame, or none where a follow-up has no
entry (09 R226, R227). -/
def tcApply (p : Nat) (x : QFrame) (out : Nat) (s : State) : Option Frame × State :=
  if !(s.rdA .ethPtpctlS).getLsbD 0 || x.inp = 14 then (some x.f, s)
  else
    match ptpAt s x.f with
    | none => (some x.f, s)
    | some (o, _) =>
      let t := ptpType x.f o
      let key := fupKey x.f o
      if (ptpEvent s x.f).isSome then
        let r := residence s x t out
        if (x.f.payload.getD (o + 6) 0).getLsbD 1 then (some x.f, fupAdd p key r s) else (some (ptpCorrect x.f o r), s)
      else if t = 8 || t = 10 then
        match s.eth.fup.find? (fun e => e.port = p && (e.domain, e.src, e.seq) = key) with
        | some e => (some (ptpCorrect x.f o e.res), s)
        | none => (none, (s.count .ethPcnt 1 p 7).setBits .ethStat (bit 1))
      else (some x.f, s)

/-- The frame as it leaves: tagged unless the logical port is in the untag set, and padded to 64 bytes (09 R218, R219). -/
def egressFrame (s : State) (p : Nat) (x : QFrame) (f : Frame) : Frame :=
  let untag := match ethVlan s x.vid.toNat with
    | some e => e.2.1.getLsbD (logPort s p)
    | none => false
  let f1 := if x.direct then f else { f with tag := if untag then none else some (x.pcp, x.vid) }
  { f1 with payload := f1.payload ++ List.replicate (64 - frameLen f1) 0 }

/-- FRAME_TRANSMIT (09 R218, R219, R223, R226): port p serves its queues. -/
def frameTransmit (p : Fin 14) (s : State) : State :=
  if !portUp s p then s
  else
    match serveFrom s p 8 with
    | none => s
    | some (q, k, x) =>
      let s1 := setEthQ k ((Tab.get [] s.eth.q k).erase x) s
      let st := ethStamp false p (ptpEvent s1 x.f).isSome s1
      let r := tcApply p x st.1 st.2
      match r.1 with
      | none => r.2
      | some f =>
        let g := egressFrame r.2 p x f
        let s2 := (takeTokens p q (frameLen g) r.2).count .ethPcnt 1 p 4
        let s3 := { s2 with eth := { s2.eth with tx := some (p.val, g) } }
        match x.chan with
        | some (n, i) => txDone n.toNat i .ok (stampNs st.1) (clearChan (n, i) s3)
        | none => s3

/-- FRAME_TRANSMIT (09 R218). -/
def execFrameTransmit (p : Fin 14) (s : State) : Host.Outcome State Fault Refusal := .next (frameTransmit p s)

/-- The frame that port p is sending is cut off: it is lost and counted, with no residence time kept for its follow-up, and
the entry of its only copy completes with FAULT (09 R228, R233; DEDUCED log 168). -/
def cutFrame (p : Nat) (s : State) : State :=
  if !portUp s p then s
  else
    match serveFrom s p 8 with
    | none => s
    | some (_, k, x) => qEnd .fault x (txDrop p (setEthQ k ((Tab.get [] s.eth.q k).erase x) s))

/-- LINK_LOSS (09 R228, R233): cut says that the loss cuts off a frame in transmission. -/
def execLinkLoss (loss : PortLoss) (s : State) : Host.Outcome State Fault Refusal :=
  .next (linkLoss loss.port (if loss.cut then cutFrame loss.port s else s))

/-- FOLLOW_UP_EXPIRY (09 R226): the oldest entry of port p's table. -/
def followUpExpiry (p : Fin 14) (s : State) : State :=
  match s.eth.fup.find? (fun e => e.port = p.val) with
  | some e => { s with eth := { s.eth with fup := s.eth.fup.erase e } }
  | none => s

/-- FOLLOW_UP_EXPIRY (09 R226). -/
def execFollowUpExpiry (p : Fin 14) (s : State) : Host.Outcome State Fault Refusal := .next (followUpExpiry p s)

/-! ### Transmit entries (09 R219, R220, R222, R229) -/

/-- Sends the frame of a transmit entry whose bytes have been read. -/
def txSend (n idx port vid pcp : Nat) (direct : Bool) (bs : List Byte) (s : State) : State :=
  let f : Frame := { dst := BitVec.ofNat 48 (beNat (slice bs 0 6)), src := chMac s n, tag := none, tag2 := false
                     etype := BitVec.ofNat 16 (beNat (slice bs 12 2)), payload := bs.drop 14, fcsOk := true }
  let x : QFrame := { f := f, vid := BitVec.ofNat 12 vid, pcp := BitVec.ofNat 3 pcp, inp := 14, stamp := s.now * 65536
                      chan := some (BitVec.ofNat 10 n, idx), direct := direct }
  if direct then
    let untag := match ethVlan s vid with
      | some e => e.2.1.getLsbD (logPort s port)
      | none => false
    let y := { x with f := { f with tag := if untag then none else some (x.pcp, x.vid) } }
    if !portUp s port then txDone n idx .fault 0 s
    else
      let e := ethEnqueue port (pcpQueue s pcp) y s
      if e.1 then e.2 else txDone n idx .full 0 e.2
  else if !(s.rdA .ethCtlS).getLsbD 0 then txDone n idx .fault 0 s
  else
    let s1 := ethLearn vid 14 f.src s
    let r := ethSpread ((ethTargets s1 vid 14 f.dst).filter (· ≠ 14)) x s1
    if r.1 = 0 then txDone n idx .fault 0 r.2.2
    else if r.2.1 = 0 then txDone n idx .full 0 r.2.2
    else r.2.2

/-- The switch takes transmit entry idx of partition n. -/
def txTake (n idx : Nat) (s : State) : State :=
  let e := entryRead n ((s.rdA .ethChTxbaseS n).toNat + 32 * idx) s
  let buf := (entryWord e.2.1 0).toNat
  let len := fld (entryWord e.2.1 1) 0 16
  let port := fld (entryWord e.2.1 2) 12 4
  let vid := fld (entryWord e.2.1 2) 0 12
  let pcp := fld (entryWord e.2.1 3) 0 3
  let direct := (entryWord e.2.1 3).getLsbD 3
  if e.1 ≠ .ok then txDone n idx e.1 0 e.2.2
  else if ethOwner s vid ≠ some n ∨ (direct ∧ (ptpChan s ≠ some n ∨ port > 13)) then txDone n idx .denied 0 e.2.2
  else if len < 14 ∨ len > 1992 then txDone n idx .size 0 e.2.2
  else if !s.mayUse n .load buf len then txDone n idx .denied 0 e.2.2
  else
    let d := partRead n buf len e.2.2
    if d.1 ≠ .ok then txDone n idx d.1 0 d.2.2 else txSend n idx port vid pcp direct d.2.1 d.2.2

/-- Takes entries from TXHEAD up to an index, at most k of them. -/
def txTakeTo (n lim : Nat) : Nat → State → State
  | 0, s => s
  | k + 1, s =>
    let h := (s.rdB n .ethTxhead).toNat
    if h = lim then s
    else txTakeTo n lim k ((txTake n h s).wrB n .ethTxhead (wd ((h + 1) % chTxN s n)))

/-- Takes every entry up to an index. -/
def txRun (n lim : Nat) (s : State) : State := txTakeTo n lim (chTxN s n) s

/-- TXCOMMIT of partition n's channel. -/
def txCommitOn (s : State) (n : Nat) : Bool := (s.rdA .ethChCtlS n).getLsbD 29

/-- An access to the channel registers: the initiator's own channel, DENIED where it is not enabled (09 R221). -/
def asChan (w : Who) (s : State) (f : Nat → State → State) : State :=
  asAny w s fun n s => if chEn s n then f n s else s.reply .denied

/-- TXTAIL_WRITE (09 R221, R222). -/
def txtailWrite (w : Who) (v : Word) (s : State) : State :=
  asChan w s fun n s =>
    let t := v.toNat % chTxN s n
    let s1 := s.wrB n .ethTxtail (wd t)
    (if txCommitOn s n then s1 else txRun n t s1).reply .ok

/-- TXTAIL_WRITE (09 R222). -/
def execTxtailWrite (w : Who) (v : Word) (s : State) : Host.Outcome State Fault Refusal := .next (txtailWrite w v s)

/-- RXTAIL_WRITE (09 R221). -/
def rxtailWrite (w : Who) (v : Word) (s : State) : State :=
  asChan w s fun n s => (s.wrB n .ethRxtail (wd (v.toNat % chRxN s n))).reply .ok

/-- RXTAIL_WRITE (09 R221). -/
def execRxtailWrite (w : Who) (v : Word) (s : State) : Host.Outcome State Fault Refusal := .next (rxtailWrite w v s)

/-! ### Releases, commits, misses and swaps (09 R221, R222, R236) -/

/-- Partition n's release: RXHEAD is snapped. -/
def ethRelease (n : Nat) (s : State) : State :=
  { s with eth := { s.eth with snap := Tab.set 0 s.eth.snap n (s.rdB n .ethRxhead).toNat } }

/-- Partition n's CYEND: the TXTAIL that its commit will take. -/
def ethCyend (n : Nat) (s : State) : State :=
  { s with eth := { s.eth with cyTail := Tab.set 0 s.eth.cyTail n (s.rdB n .ethTxtail).toNat } }

/-- Partition n's commit: entries up to the TXTAIL at CYEND are taken. -/
def ethCommit (n : Nat) (s : State) : State :=
  if chEn s n && txCommitOn s n then txRun n (Tab.get 0 s.eth.cyTail n) s else s

/-- Entries from an index up to another complete with ABORTED. -/
def txAbortTo (n lim : Nat) : Nat → Nat → State → State
  | 0, _, s => s
  | k + 1, i, s => if i = lim then s else txAbortTo n lim k ((i + 1) % chTxN s n) (txDone n i .aborted 0 s)

/-- Partition n's job misses: TXTAIL returns to its value at the last commit, which is TXHEAD, since that commit, or the
writes of TXTAIL before TXCOMMIT was set, had every entry before it taken; the entries beyond end with ABORTED. -/
def ethMiss (n : Nat) (s : State) : State :=
  if !(chEn s n && txCommitOn s n) then s
  else
    let t := (s.rdB n .ethTxhead).toNat
    (txAbortTo n (s.rdB n .ethTxtail).toNat (chTxN s n) t s).wrB n .ethTxtail (wd t)

/-- The shadow keys of the registers that swap at the foundry partition's boundary. -/
def ethGlobalKey (k : Nat) : Bool :=
  let a := k % 2 ^ 40
  if k < 2 ^ 40 then
    decide (0x6000500000 ≤ a) && decide (a < 0x6000506000) &&
      !(a = 0x6000500000 || a = 0x6000500018 || a = 0x6000500020)
      && !(decide (0x6000501000 ≤ a) && decide (a < 0x6000502000) && (a % 256 = 4 || a % 256 = 16 || decide (64 ≤ a % 256)))
      && !(decide (0x6000505000 ≤ a) && decide (12 ≤ a % 32))
  else a = 0x6000500024 || a = 0x6000500028 || a = 0x600050002C

/-- The shadow keys of partition n's channel. -/
def ethChanKey (n k : Nat) : Bool :=
  decide (0x6000510000 + n * 0x20 ≤ k) && decide (k < 0x6000510014 + n * 0x20)

/-- A pair comes into use: its ports take the states that links and checks give, and a path-good port becomes ACTIVE,
the one that PREF names before the other (09 R232, R233, R241; DEDUCED log 41). -/
def pairStart (k : Nat) (s : State) : State :=
  let st (p : Nat) : PairState :=
    if !portUp s p then .down else if (s.rd .ethPstat p).getLsbD 2 then .standby else .nochk
  let x : Pair := { a := st (pairA s k), b := st (pairB s k) }
  let pref := (s.rdA .ethPrCfgS k).getLsbD 0
  if x.at pref = .standby then s.setPair k (x.to pref .active)
  else if x.at (!pref) = .standby then s.setPair k (x.to (!pref) .active)
  else s.setPair k x

/-- Pairs whose active settings differ from those of an earlier state start anew; a pair not in use has no state. -/
def pairsRenew (old s : State) : State :=
  (List.range 7).foldl (fun s k =>
    if old.rdA .ethPrCfgS k = s.rdA .ethPrCfgS k then s
    else if pairValid s k then pairStart k s else s.setPair k {}) s

/-- The swap at the foundry partition's boundary (09 R236). -/
def ethGlobalSwap (s : State) : State := pairsRenew s (s.swapAll ethGlobalKey 0x8000)

/-- The swap of partition n's channel at its boundary (09 R236). -/
def ethSwap (n : Nat) (s : State) : State := s.swapAll (ethChanKey n) 0x8000

/-! ### Register writes (09 R236 to R241) -/

/-- Writes an _S register, and its active copy while the scheduler is disabled (09 R236). -/
def ethPutS (r : Reg) (i j : Nat) (v : Word) (s : State) : State :=
  let s1 := s.put r v i j
  (if s.schEn then s1 else pairsRenew s1 (s1.wrA r (s1.rd r i j) i j)).reply .ok

/-- Writes a word of the VLAN window. -/
def ethVlanPut (r : Reg) (v : Word) (s : State) : State :=
  let b := fld (s.rd .ethVidsel) 0 12
  if b = 0 ∨ b = 4095 then s.reply .denied
  else
    let x := r.merge 0 v
    let s1 := s.wrB b r x
    (if s.schEn then s1 else s1.wrBA b r x).reply .ok

/-- An enabling write is refused: a ring size outside 3 to 12, or a class S partition without both discipline bits. -/
def chBad (s : State) (n : Nat) (v : Word) : Bool :=
  v.getLsbD 31 && (decide (fld v 8 4 < 3 ∨ fld v 8 4 > 12 ∨ fld v 0 4 < 3 ∨ fld v 0 4 > 12) ||
    (clsShadow s n = 1 && !(v.getLsbD 30 && v.getLsbD 29)))

/-- A write of CHn_CTL_S (09 R222, R240). -/
def chCtlWrite (w : Who) (n : Nat) (v : Word) (s : State) : State :=
  asFnd w s fun s => if chBad s n v then s.reply .denied else ethPutS .ethChCtlS n 0 v s

/-- CHANNEL_ENABLE (09 R222, R240). -/
def execChannelEnable (w : Who) (n : Part) (v : Word) (s : State) : Host.Outcome State Fault Refusal :=
  .next (chCtlWrite w n.toNat v s)

/-- A write that sets VALID is refused (09 R241). -/
def pairBad (s : State) (k : Nat) (v : Word) : Bool :=
  let a := fld v 4 4
  let b := fld v 8 4
  let taken (p : Nat) : Bool := (List.range 7).any (fun i =>
    let c := s.rd .ethPrCfgS i
    i ≠ k && c.getLsbD 31 && (fld c 4 4 = p || fld c 8 4 = p))
  v.getLsbD 31 && (decide (a ≥ b) || decide (b ≥ 14) || (decide (a < 2) != decide (b < 2)) || taken a || taken b ||
    !(s.rd .ethChkdaHiS).getLsbD 8)

/-- A write of PRk_CFG_S (09 R241). -/
def pairCfgWrite (w : Who) (k : Nat) (v : Word) (s : State) : State :=
  asFnd w s fun s => if pairBad s k v then s.reply .denied else ethPutS .ethPrCfgS k 0 v s

/-- PAIR_CFG_WRITE (09 R241). -/
def execPairCfgWrite (w : Who) (k : Fin 7) (v : Word) (s : State) : Host.Outcome State Fault Refusal :=
  .next (pairCfgWrite w k v s)

/-- Writes of ETH registers with rules of their own, by any of the unit's registers; none for the others. -/
def ethWrite (w : Who) (r : Reg) (i j : Nat) (v : Word) (s : State) : Option State :=
  match r with
  | .ethCtlS | .ethAgeS | .ethPcpmapS | .ethPtpctlS | .ethPtpchS | .ethChkdaLoS | .ethChkdaHiS | .ethPrxtrimS
  | .ethPtxtrimS | .ethPstormS | .ethPqshpS | .ethPrSwapS | .ethChMacLoS | .ethChMacHiS =>
    some (asFnd w s (ethPutS r i j v ·))
  | .ethChRxbaseS | .ethChTxbaseS => some (asFnd w s (ethPutS r i j (v &&& ~~~ 31) ·))
  | .ethQlimS => some (asFnd w s fun s =>
      if v.toNat < 4096 ∨ v.toNat > 4194304 then s.reply .denied else ethPutS r i j v s)
  | .ethVmemS | .ethVuntS => some (asFnd w s (ethVlanPut r v ·))
  | .ethVownS => some (asFnd w s fun s =>
      let old := s.rdB (fld (s.rd .ethVidsel) 0 12) .ethVownS
      if old.getLsbD 31 && v.getLsbD 31 && fld old 0 10 ≠ fld v 0 10 then
        (recordDenied (fld v 0 10) (fld (s.rd .ethVidsel) 0 12) s).reply .denied
      else ethVlanPut r v s)
  | .ethPcfgS => some (asFnd w s fun s =>
      if fld v 0 12 = 0 ∨ fld v 0 12 = 4095 ∨ (i < 2 ∧ fld v 28 2 > 1) then s.reply .denied else ethPutS r i j v s)
  | .ethPcnt => some (asFnd w s (clearOnZero .ethPcnt v · i j))
  | .ethPrCfgS => some (pairCfgWrite w i v s)
  | .ethPrTimS => some (asFnd w s fun s =>
      if fld v 24 8 = 0 ∨ fld v 16 8 = 0 ∨ fld v 8 4 < 2 ∨ fld v 0 8 = 0 then s.reply .denied else ethPutS r i j v s)
  | .ethPrCmd => some (asFnd w s fun s =>
      let s1 := if v.getLsbD 1 then clrFail i s else s
      if v.getLsbD 0 then
        match canPairSwap s1 i with
        | some b => (pairSwap i b s1).reply .ok
        | none => s1.reply .denied
      else s1.reply .ok)
  | .ethPrCnt => some (asFnd w s (clearOnZero .ethPrCnt v · i))
  | .ethChCtlS => some (chCtlWrite w i v s)
  | .ethRxhead | .ethTxhead => some (asChan w s fun _ s => s.reply .ok)
  | .ethRxtail => some (rxtailWrite w v s)
  | .ethTxtail => some (txtailWrite w v s)
  | _ => none

/-- The code of a pair port's state (09 R232). -/
def PairState.code : PairState → Nat
  | .active => 0 | .standby => 1 | .down => 2 | .nochk => 3 | .hold => 4 | .hidden => 5

/-- ETH.PRk_STAT (09 R241). -/
def pairStat (s : State) (k : Nat) : Word :=
  let x := s.pair k
  wd (b2n x.verify.isSome * 256 + x.a.code * 16 + x.b.code)

/-- RXHEAD as partition n reads it (09 R221). -/
def rxheadSeen (s : State) (n : Nat) : Word :=
  if (s.rdA .ethChCtlS n).getLsbD 30 then wd (Tab.get 0 s.eth.snap n) else s.rdB n .ethRxhead

/-- A read of the initiator's own channel (09 R221). -/
def chanRead (w : Who) (r : Reg) (s : State) (f : Nat → Word) : State :=
  asReader w r s fun n s => if chEn s n then s.answer .ok (f n) else s.reply .denied

/-- Reads of ETH registers with a rule of their own; none for the others. -/
def ethRead (w : Who) (r : Reg) (i : Nat) (act : Bool) (s : State) : Option State :=
  let b := fld (s.rd .ethVidsel) 0 12
  match r with
  | .ethVmemS | .ethVuntS | .ethVownS => some (s.answer .ok (if act then s.rdBA b r else s.rdB b r))
  | .ethPrStat => some (s.answer .ok (pairStat s i))
  | .ethRxhead => some (chanRead w r s (rxheadSeen s))
  | .ethRxtail => some (chanRead w r s (s.rdB · .ethRxtail))
  | .ethTxtail => some (chanRead w r s (s.rdB · .ethTxtail))
  | .ethTxhead => some (chanRead w r s (s.rdB · .ethTxhead))
  | _ => none

end Sys2Proof.Machine
end

