-- ==== Sys2Proof/Machine/Fabric.lean ====
section
/-!
DEFINITION. Triads and executors (04): which executors run, the capacity in service, entry to FAULTED, and the copies of
whole memory lines that the copy engines make.
-/

namespace Sys2Proof.Machine

/-! ### Executors (04 R76, R77; 07 R182) -/

/-- The triad of an executor. -/
def execTriad (e : Nat) : Nat := e / 3

/-- The active mode of triad t is split (04 R103). -/
def splitMode (s : State) (t : Nat) : Bool := fld (s.rd .fabTctlA t) 0 2 = 1
/-- The requested mode of triad t is split. -/
def wantsSplit (s : State) (t : Nat) : Bool := fld (s.rd .fabTctlS t) 0 2 = 1

/-- Triad t runs as one alloy executor: ALLOY3, ALLOY2, or QUIESCE in alloy mode. -/
def alloyRuns (s : State) (t : Nat) : Bool :=
  match (s.triad t).state with
  | .alloy3 | .alloy2 => true
  | .quiesce => !splitMode s t
  | _ => false

/-- Triad t runs as engines: SPLIT, or QUIESCE in split mode. -/
def splitRuns (s : State) (t : Nat) : Bool :=
  match (s.triad t).state with
  | .split => true
  | .quiesce => splitMode s t
  | _ => false

/-- Engine e's lane is neither retired nor stopped by an error (04 R90, R94). -/
def laneGood (s : State) (e : Nat) : Bool :=
  !(s.triad (e / 3)).retired.getLsbD (e % 3) && !(s.triad (e / 3)).stopped.getLsbD (e % 3)

/-- Executor e is an alloy triad. -/
def execAlloy (s : State) (e : Nat) : Bool := e % 3 = 0 && alloyRuns s (e / 3)
/-- Executor e is a split engine. -/
def execSplit (s : State) (e : Nat) : Bool := splitRuns s (e / 3) && laneGood s e
/-- Executor e exists at present. -/
def execRuns (s : State) (e : Nat) : Bool := execAlloy s e || execSplit s e

/-- Executor e may start a job: in service and not in QUIESCE, RESYNC, HANDOVER or BIST (07 R168), in Run and not in the
fatal halt, where every partition is held (02 R35, R46). -/
def execTakes (s : State) (e : Nat) : Bool :=
  !s.pwr.fatal && s.pwr.state = .run &&
    (match (s.triad (e / 3)).state with
     | .alloy3 | .alloy2 => e % 3 = 0
     | .split => laneGood s e
     | _ => false)

/-- Executor e runs no job. -/
def execIdle (s : State) (e : Nat) : Bool := (s.eng e).job.isNone

/-- No job runs on triad t: a job boundary (04 R78). -/
def triadIdle (s : State) (t : Nat) : Bool := execIdle s (3 * t) && execIdle s (3 * t + 1) && execIdle s (3 * t + 2)

/-- Executor e's lanes are halted for debug (04 R97). -/
def execHalted (s : State) (e : Nat) : Bool := (s.triad (e / 3)).halted.getLsbD (e % 3)

/-- Triad t counts in A: ALLOY3, ALLOY2 or RESYNC, or QUIESCE with alloy requested (07 R182). -/
def countsA (s : State) (t : Nat) : Bool :=
  match (s.triad t).state with
  | .alloy3 | .alloy2 | .resync => true
  | .quiesce => !wantsSplit s t
  | _ => false

/-- Engine e counts in E: an in-service engine of a split triad. -/
def countsE (s : State) (e : Nat) : Bool := (s.triad (e / 3)).state = .split && laneGood s e

/-- A of 07 R182. -/
def capA (s : State) : Nat := ((List.range 32).filter (countsA s)).length
/-- E of 07 R182. -/
def capE (s : State) : Nat := ((List.range 96).filter (countsE s)).length

/-! ### Entry to FAULTED (04 R91) -/

/-- Sets bits of TEVn, each of which raises an alarm (04 R105). -/
def triadEvent (t : Nat) (m : Word) (s : State) : State := alarm .fab (s.setBits .fabTev m t)

/-- Stamps the last odd or fault event (04 R102). -/
def triadStamp (t : Nat) (s : State) : State :=
  let x := s.stampAt 1 10
  (s.wr .fabTlastLo (lo32 x) t).wr .fabTlastHi (hi32 x) t

/-- Triad t is FAULTED and its lanes are held; nothing that they presented is issued. Its partitions look for new homes
(04 R91, 07 R184). The job it ran is abandoned by the caller. -/
def triadDown (t : Nat) (s : State) : State :=
  let x := s.triad t
  let s1 := s.setTriad t { x with state := .faulted, shown := [], await := [], late := [], inj := none, req := false
                                  swapped := false, rsPend := false, rsDue := false }
  record .triadFault 0 [wd t] (triadStamp t (triadEvent t (bit 4) s1))

/-! ### Whole-line copies (07 R167, R171; 08 R195) -/

/-- A copy engine reads the line at source: the line at destination takes its poison, or its bytes. -/
def copyLine (src dst : Nat) (s : State) : State :=
  let r := memRead src 64 s
  if r.1 = .ok then (lineWrite dst r.2.1 r.2.2).2
  else if r.2.2.poison.contains (dst / 64) then r.2.2 else { r.2.2 with poison := (dst / 64) :: r.2.2.poison }

/-- Copies k lines. -/
def copyLines : Nat → Nat → Nat → State → State
  | 0, _, _, s => s
  | k + 1, src, dst, s => copyLines k (src + 64) (dst + 64) (copyLine src dst s)

/-- Copies n bytes, a multiple of 64. -/
def copyBlock (src dst n : Nat) (s : State) : State := copyLines (n / 64) src dst s

/-- Fills k lines with 0. -/
def zeroLines : Nat → Nat → State → State
  | 0, _, s => s
  | k + 1, a, s => zeroLines k (a + 64) (lineWrite a (List.replicate 64 0) s).2

/-- Writes cells to memory, but not into poisoned lines (08 R195). -/
def writeCells (cs : List Host.Cell) (s : State) : State :=
  cs.foldl (fun s c => (lineWrite c.1 [c.2] s).2) s

/-- The lines that dirty bytes lie in, each once. -/
def dirtyLines (cs : List Host.Cell) : List Nat := (cs.map (fun c => c.1 / 64)).eraseDups

/-- The dirty lines of a job that ends without CYEND: a line may already have reached memory (05 R136; DESIGN CHOICE log 33). -/
def evictSome (cs : List Host.Cell) (s : State) : State :=
  (dirtyLines cs).foldl (fun s l =>
    let s1 := s.spend
    if Config.evicted s.free l then writeCells (cs.filter (fun c => c.1 / 64 = l)) s1 else s1) s

end Sys2Proof.Machine
end

