-- ==== Sys2Proof/Machine/Crypto.lean ====
section
/-!
DEFINITION. The named algorithms that the crypto engines, the codecs and the update unit run (08 R204, 11 R277, 17
R392): SHA-256 and SHA-512 (FIPS 180-4), AES (FIPS 197), CMAC (SP 800-38B), the key unwrap of RFC 3394 and Ed25519
verification (RFC 8032). All take and give byte lists.
-/

namespace Sys2Proof.Machine

/-! ### Hashes -/

/-- The integer part of the k-th root of n (k 2 or 3), found bit by bit from bit j down. -/
def rootBits (k n : Nat) : Nat → Nat → Nat
  | 0, r => r
  | j + 1, r => if (r + 2 ^ j) ^ k ≤ n then rootBits k n j (r + 2 ^ j) else rootBits k n j r

/-- The first 80 primes. -/
def primes : List Nat :=
  (List.range 410).filter (fun n => 2 ≤ n && (List.range 21).all (fun d => d < 2 || n ≤ d || n % d ≠ 0))

/-- The first w bits of the fractional part of the k-th root of p: the constants of FIPS 180-4. -/
def rootFrac (k w p : Nat) : Nat := rootBits k (p * 2 ^ (k * w)) (w + 6) 0 % 2 ^ w

/-- The numbers of a SHA-2 variant: word width, rounds, the rotations of the two sums and the two schedules. -/
structure Sha where
  w : Nat
  rounds : Nat
  sumA : Nat × Nat × Nat
  sumE : Nat × Nat × Nat
  sig0 : Nat × Nat × Nat
  sig1 : Nat × Nat × Nat
  deriving DecidableEq, Repr

/-- SHA-256. -/
def sha256V : Sha :=
  { w := 32, rounds := 64, sumA := (2, 13, 22), sumE := (6, 11, 25), sig0 := (7, 18, 3), sig1 := (17, 19, 10) }
/-- SHA-512. -/
def sha512V : Sha :=
  { w := 64, rounds := 80, sumA := (28, 34, 39), sumE := (14, 18, 41), sig0 := (1, 8, 7), sig1 := (19, 61, 6) }

/-- Rotation right in w bits. -/
def Sha.rot (h : Sha) (x n : Nat) : Nat := (x >>> n ||| x <<< (h.w - n)) % 2 ^ h.w
/-- A sum function: three rotations. -/
def Sha.sum (h : Sha) (t : Nat × Nat × Nat) (x : Nat) : Nat := (h.rot x t.1) ^^^ (h.rot x t.2.1) ^^^ (h.rot x t.2.2)
/-- A schedule function: two rotations and a shift. -/
def Sha.sig (h : Sha) (t : Nat × Nat × Nat) (x : Nat) : Nat := (h.rot x t.1) ^^^ (h.rot x t.2.1) ^^^ (x >>> t.2.2)

/-- The message schedule, last word first. -/
def Sha.schedule (h : Sha) : Nat → List Nat → List Nat
  | 0, ws => ws
  | k + 1, ws =>
    let g (i : Nat) := ws.getD (i - 1) 0
    Sha.schedule h k (((h.sig h.sig1 (g 2)) + g 7 + (h.sig h.sig0 (g 15)) + g 16) % 2 ^ h.w :: ws)

/-- One round on the eight working variables. -/
def Sha.round (h : Sha) (v : List Nat) (kw : Nat) : List Nat :=
  match v with
  | [a, b, c, d, e, f, g, hh] =>
    let ch := (e &&& f) ^^^ ((2 ^ h.w - 1 - e) &&& g)
    let maj := (a &&& b) ^^^ (a &&& c) ^^^ (b &&& c)
    let t1 := hh + h.sum h.sumE e + ch + kw
    [(t1 + h.sum h.sumA a + maj) % 2 ^ h.w, a, b, c, (d + t1) % 2 ^ h.w, e, f, g]
  | _ => v

/-- One block. -/
def Sha.block (h : Sha) (ks : List Nat) (v : List Nat) (bs : List Byte) : List Nat :=
  let n := h.w / 8
  let ws := (List.range 16).map (fun i => beNat (slice bs (i * n) n))
  let sch := (h.schedule (h.rounds - 16) ws.reverse).reverse
  let out := (List.zipWith (· + ·) ks sch).foldl h.round v
  List.zipWith (fun x y => (x + y) % 2 ^ h.w) v out

/-- The blocks of a padded message. -/
def Sha.blocks (h : Sha) (ks : List Nat) : Nat → List Nat → List Byte → List Nat
  | 0, v, _ => v
  | k + 1, v, bs => Sha.blocks h ks k (h.block ks v (bs.take (2 * h.w))) (bs.drop (2 * h.w))

/-- A hash. -/
def Sha.hash (h : Sha) (m : List Byte) : List Byte :=
  let bb := 2 * h.w
  let lb := h.w / 4
  let z := (2 * bb - (m.length + 1 + lb) % bb) % bb
  let p := m ++ [0x80] ++ List.replicate z 0 ++ beBytes lb (8 * m.length)
  let ks := (primes.take h.rounds).map (rootFrac 3 h.w)
  let v := (primes.take 8).map (rootFrac 2 h.w)
  (h.blocks ks (p.length / bb) v p).flatMap (beBytes (h.w / 8))

/-- SHA-256. -/
def sha256 (m : List Byte) : List Byte := sha256V.hash m
/-- SHA-512. -/
def sha512 (m : List Byte) : List Byte := sha512V.hash m

/-! ### AES -/

/-- Multiplication by x in GF(2^8). -/
def xtime (b : Byte) : Byte := (b <<< 1) ^^^ (if b.getLsbD 7 then 0x1B else 0)

/-- The S-box of FIPS 197: eight rows of 32 entries, the first of a row its least significant byte. -/
def sboxRows : List Nat :=
  [0xC072A49CAFA2D4ADF04759FA7DC982CA76ABD7FE2B670130C56F6BF27B777C63,
    0x75B227EBE28012079A059618C323C7041531D871F1E5A534CCF73F362693FDB7,
    0xCF584C4A39BECB6A5BB1FC20ED00D153842FE329B3D63B52A05A6E1B1A2C8309,
    0xD2F3FF1021DAB6BCF5389D928F40A351A89F3C507F02F94585334D43FBAAEFD0,
    0xDB0B5EDE14B8EE4688902A22DC4F816073195D643D7EA7C41744975FEC130CCD,
    0x08AE7A65EAF4566CA94ED58D6D37C8E779E4959162ACD3C25C2406490A3A32E0,
    0x9E1DC186B95735610EF6034866B53E708A8BBD4B1F74DDE8C6B4A61C2E2578BA,
    0x16BB54B00F2D99416842E6BF0D89A18CDF2855CEE9871E9B948ED9691198F8E1]

/-- The inverse S-box, in the same form. -/
def sboxInvRows : List Nat :=
  [0xCBE9DEC444438E3487FF2F9B8239E37CFBD7F3819EA340BF38A53630D56A0952,
    0x25D18B6D49A25B76B224D92866A12E084EC3FA420B954CEE3D23C2A632947B54,
    0x849D8DA75746155EDAB9EDFD5048706C92B6655DCC5CA4D41698688664F6F872,
    0x6B8A130103BDAFC1020F3FCA8F1E2CD00645B3B80558E4F70AD3BC8C00ABD890,
    0x6EDF751CE837F9E28535ADE72274AC9673E6B4F0CECFF297EADC674F4111913A,
    0xF45ACD78FEC0DB9A2079D2C64B3E56FC1BBE18AA0E62B76F89C5291D711AF147,
    0xEF9CC9939F7AE52D0D4AB519A97F51605FEC8027591012B131C7078833A8DD1F,
    0x7D0C2155631469E126D677BA7E042B17619953833CBBEBC8B0F52AAE4D3BE0A0]

/-- An entry of such a table. -/
def boxAt (t : List Nat) (a : Byte) : Byte := BitVec.ofNat 8 (t.getD (a.toNat / 32) 0 >>> (8 * (a.toNat % 32)))
/-- The S-box. -/
def sbox (a : Byte) : Byte := boxAt sboxRows a
/-- The inverse S-box. -/
def sboxInv (a : Byte) : Byte := boxAt sboxInvRows a

/-- Bytes xored in pairs. -/
def xorBytes (a b : List Byte) : List Byte := List.zipWith (· ^^^ ·) a b

/-- The expanded key of nk words, n words still to make, last word first. -/
def expandKey (nk : Nat) : Nat → List (List Byte) → List (List Byte)
  | 0, ws => ws
  | n + 1, ws =>
    let i := ws.length
    let t := ws.headD []
    let u :=
      if i % nk = 0 then
        xorBytes ((t.drop 1 ++ t.take 1).map sbox) [(List.range (i / nk - 1)).foldl (fun r _ => xtime r) 1, 0, 0, 0]
      else if 6 < nk && i % nk = 4 then t.map sbox
      else t
    expandKey nk n (xorBytes (ws.getD (nk - 1) []) u :: ws)

/-- The round keys of a key of 16 or 32 bytes. -/
def roundKeys (key : List Byte) : List (List Byte) :=
  let nk := key.length / 4
  let ws := (expandKey nk (4 * (nk + 7) - nk) ((List.range nk).map (fun i => slice key (4 * i) 4)).reverse).reverse
  (List.range (nk + 7)).map (fun r => (slice ws (4 * r) 4).flatten)

/-- ShiftRows, k the column step: 1 forward, 3 inverse. -/
def shiftRows (k : Nat) (s : List Byte) : List Byte :=
  (List.range 16).map (fun i => s.getD ((i / 4 + k * (i % 4)) % 4 * 4 + i % 4) 0)

/-- A column as one number, its bytes moved up by n places: byte i takes byte i + n. -/
def colRot (n w : Nat) : Nat := w >>> (8 * n) ||| (w <<< (32 - 8 * n)) % 2 ^ 32
/-- xtime on each byte of a column. -/
def colX (w : Nat) : Nat := ((w &&& 0x7F7F7F7F) <<< 1) ^^^ ((w >>> 7 &&& 0x01010101) * 0x1B)
/-- A column times 2, 3, 1, 1 (FIPS 197, MixColumns). -/
def colMix (w : Nat) : Nat := colX (w ^^^ colRot 1 w) ^^^ colRot 1 w ^^^ colRot 2 w ^^^ colRot 3 w
/-- A column times 14, 11, 13, 9: the product of 5, 0, 4, 0 and 2, 3, 1, 1 (FIPS 197, InvMixColumns). -/
def colUnmix (w : Nat) : Nat := colMix (w ^^^ colX (colX (w ^^^ colRot 2 w)))
/-- A function of each column of a state. -/
def onColumns (f : Nat → Nat) (s : List Byte) : List Byte :=
  (List.range 4).flatMap (fun c => leBytes 4 (f (leNat (slice s (4 * c) 4))))

/-- The inner rounds of encryption. -/
def encRounds : List (List Byte) → List Byte → List Byte
  | [], s => s
  | [k], s => xorBytes (shiftRows 1 (s.map sbox)) k
  | k :: ks, s => encRounds ks (xorBytes (onColumns colMix (shiftRows 1 (s.map sbox))) k)

/-- AES encryption of one block. -/
def aesEnc (key : List Byte) (b : List Byte) : List Byte :=
  match roundKeys key with
  | [] => b
  | k :: ks => encRounds ks (xorBytes b k)

/-- The inner rounds of decryption, keys last first. -/
def decRounds : List (List Byte) → List Byte → List Byte
  | [], s => s
  | [k], s => xorBytes ((shiftRows 3 s).map sboxInv) k
  | k :: ks, s => decRounds ks (onColumns colUnmix (xorBytes ((shiftRows 3 s).map sboxInv) k))

/-- AES decryption of one block. -/
def aesDec (key : List Byte) (b : List Byte) : List Byte :=
  match (roundKeys key).reverse with
  | [] => b
  | k :: ks => decRounds ks (xorBytes b k)

/-- CTR over n blocks from a counter block; the counter is 128 bits, most significant byte first (PRESUMED log 14). -/
def aesCtr (key : List Byte) (ctr : Nat) : Nat → List Byte → List Byte
  | 0, _ => []
  | n + 1, m => xorBytes (aesEnc key (beBytes 16 ctr)) (m.take 16) ++ aesCtr key ((ctr + 1) % 2 ^ 128) n (m.drop 16)

/-- CBC encryption of n blocks. -/
def cbcEnc (key : List Byte) : Nat → List Byte → List Byte → List Byte
  | 0, _, _ => []
  | n + 1, iv, m =>
    let c := aesEnc key (xorBytes iv (m.take 16))
    c ++ cbcEnc key n c (m.drop 16)

/-- CBC decryption of n blocks. -/
def cbcDec (key : List Byte) : Nat → List Byte → List Byte → List Byte
  | 0, _, _ => []
  | n + 1, iv, m => xorBytes (aesDec key (m.take 16)) iv ++ cbcDec key n (m.take 16) (m.drop 16)

/-- Doubling in GF(2^128), for the subkeys of CMAC. -/
def cmacDouble (n : Nat) : Nat := if n < 2 ^ 127 then 2 * n else (2 * n - 2 ^ 128) ^^^ 0x87

/-- The CBC-MAC of whole blocks. -/
def macBlocks (key : List Byte) : Nat → List Byte → List Byte → List Byte
  | 0, c, _ => c
  | n + 1, c, m => macBlocks key n (aesEnc key (xorBytes c (m.take 16))) (m.drop 16)

/-- The AES-CMAC tag of a message (SP 800-38B). -/
def cmac (key : List Byte) (m : List Byte) : List Byte :=
  let k1 := cmacDouble (beNat (aesEnc key (List.replicate 16 0)))
  let n := (m.length + 15) / 16 - 1
  let last := m.drop (16 * n)
  let lastX :=
    if last.length = 16 then xorBytes last (beBytes 16 k1)
    else xorBytes (padTo 0 16 (last ++ [0x80])) (beBytes 16 (cmacDouble k1))
  aesEnc key (xorBytes (macBlocks key n (List.replicate 16 0) (m.take (16 * n))) lastX)

/-- The steps of RFC 3394 unwrap: step t down to 1 on A and the registers R. -/
def unwrapSteps (key : List Byte) (n : Nat) : Nat → Nat → List (List Byte) → Nat × List (List Byte)
  | 0, a, rs => (a, rs)
  | t + 1, a, rs =>
    let i := t % n
    let b := aesDec key (beBytes 8 (a ^^^ (t + 1)) ++ rs.getD i [])
    unwrapSteps key n t (beNat (b.take 8)) (rs.set i (b.drop 8))

/-- The key data that a wrapped blob holds, none where the integrity check fails (RFC 3394). -/
def keyUnwrap (kek : List Byte) (c : List Byte) : Option (List Byte) :=
  let n := c.length / 8 - 1
  let r := unwrapSteps kek n (6 * n) (beNat (c.take 8)) ((List.range n).map (fun i => slice c (8 * i + 8) 8))
  if r.1 = 0xA6A6A6A6A6A6A6A6 then some r.2.flatten else none

/-! ### Ed25519 (RFC 8032) -/

/-- The field's prime. -/
def edP : Nat := 2 ^ 255 - 19
/-- The order of the base point. -/
def edL : Nat := 2 ^ 252 + 27742317777372353535851937790883648493

/-- A power modulo m, over the low k bits of the exponent. -/
def powMod (m : Nat) : Nat → Nat → Nat → Nat
  | 0, _, _ => 1 % m
  | k + 1, b, e => (if e % 2 = 1 then b else 1) * powMod m k (b * b % m) (e / 2) % m

/-- The inverse in the field. -/
def edInv (x : Nat) : Nat := powMod edP 255 x (edP - 2)
/-- The curve constant d. -/
def edD : Nat := (edP - 121665) * edInv 121666 % edP

/-- A point in extended coordinates X, Y, Z, T. -/
abbrev EdPoint := Nat × Nat × Nat × Nat

/-- Addition of points. -/
def edAdd (p q : EdPoint) : EdPoint :=
  let (x1, y1, z1, t1) := p
  let (x2, y2, z2, t2) := q
  let a := (y1 + edP - x1) * (y2 + edP - x2) % edP
  let b := (y1 + x1) * (y2 + x2) % edP
  let c := 2 * t1 * t2 % edP * edD % edP
  let d := 2 * z1 * z2 % edP
  let e := b + edP - a
  let f := d + edP - c
  let g := d + c
  let h := b + a
  (e * f % edP, g * h % edP, f * g % edP, e * h % edP)

/-- The neutral point. -/
def edZero : EdPoint := (0, 1, 1, 0)

/-- A multiple of a point, over the low k bits of n. -/
def edMul : Nat → Nat → EdPoint → EdPoint
  | 0, _, _ => edZero
  | k + 1, n, p => edAdd (if n % 2 = 1 then p else edZero) (edMul k (n / 2) (edAdd p p))

/-- Two points are equal. -/
def edEq (p q : EdPoint) : Bool :=
  p.1 * q.2.2.1 % edP = q.1 * p.2.2.1 % edP && p.2.1 * q.2.2.1 % edP = q.2.1 * p.2.2.1 % edP

/-- The point with a given y and x parity, if there is one. -/
def edRecover (y par : Nat) : Option EdPoint :=
  if y ≥ edP then none
  else
    let u := (y * y + edP - 1) % edP
    let v := (edD * (y * y) + 1) % edP
    let x2 := u * edInv v % edP
    let r := powMod edP 255 x2 ((edP + 3) / 8)
    let x := if r * r % edP = x2 then r else r * powMod edP 255 2 ((edP - 1) / 4) % edP
    if x * x % edP ≠ x2 then none
    else if x = 0 && par = 1 then none
    else
      let x' := if x % 2 = par then x else edP - x
      some (x', y, 1, x' * y % edP)

/-- The point that 32 bytes encode. -/
def edDecode (bs : List Byte) : Option EdPoint :=
  let n := leNat bs
  edRecover (n % 2 ^ 255) (n / 2 ^ 255)

/-- Verification of an Ed25519 signature of 64 bytes under a key of 32 bytes. RFC 8032 leaves open whether the equation
is multiplied by the cofactor (DESIGN CHOICE log 31). -/
def edVerify (key sig m : List Byte) : Bool :=
  match edDecode key, edDecode (sig.take 32), edRecover (4 * edInv 5 % edP) 0 with
  | some a, some r, some b =>
    let sc := leNat (sig.drop 32)
    let k := leNat (sha512 (sig.take 32 ++ key ++ m)) % edL
    let lhs := edMul 253 sc b
    let rhs := edAdd r (edMul 253 k a)
    if sc ≥ edL then false
    else if Config.edCofactor then edEq (edMul 4 8 lhs) (edMul 4 8 rhs)
    else edEq lhs rhs
  | _, _, _ => false

end Sys2Proof.Machine
end

