-- ==== Sys2Proof/Machine/Shared.lean ====
section
/-!
DEFINITION. The shared engines (08 R204 to R212) and the safety codecs (11): submission, queues, segments, the work of
each kind of job, completion, and the key slots. Engine k is codec k for k below 8, crypto engine k - 8 below 12, and DMA
channel k - 12 above.
-/

namespace Sys2Proof.Machine

/-! ### Jobs -/

/-- The kinds that engine k runs (08 R204). -/
def engineKinds (k : Nat) : List Nat :=
  if k < 8 then [2, 3] else if k < 12 then [4, 5, 6, 7, 8, 9, 10] else [0, 1]

/-- The length is one that R204 and 11 R284 allow for the kind. -/
def lenOk (kind len : Nat) : Bool :=
  match kind with
  | 0 | 1 => 4 ≤ len && len ≤ 1048576 && len % 4 = 0
  | 2 => len ≤ 1024
  | 3 => len = 0 || (20 ≤ len && len ≤ 1052)
  | 7 | 8 => 16 ≤ len && len ≤ 1048576 && len % 16 = 0
  | 9 | 10 => len ≤ 1048576
  | _ => 1 ≤ len && len ≤ 1048576

/-- The number of segments of a job (08 R204, 11 R284). -/
def SJob.segs (j : SJob) : Nat :=
  if j.kind = 2 || j.kind = 3 then 1 else max 1 ((j.len + 4095) / 4096) + (if j.kind = 5 then 8 else 0)

/-- The offset and length of the current segment's source bytes. -/
def SJob.piece (j : SJob) : Nat × Nat := (j.seg * 4096, min 4096 (j.len - j.seg * 4096))

/-- A word of partition n's data space; 0 where it cannot be read. -/
def wordAt (n va : Nat) (s : State) : Word := wd (leNat (partRead n va 4 s).2.1)

/-- The context of a codec job asks for a CMAC (11 R278). -/
def ctxMac (n : Nat) (par : Word) (s : State) : Bool := (wordAt n par.toNat s).getLsbD 8

/-- The ranges of a job, or of bytes off to off + len of it: virtual address, length and the right needed (08 R207; the
layouts of PRESUMED log 14). The 8 curve segments of kind 5h have no source. -/
def SJob.ranges (j : SJob) (off len : Nat) (s : State) : List (Nat × Nat × Right) :=
  let src := (j.src.toNat + off, len, Right.load)
  let dst := (j.dst.toNat + off, len, Right.store)
  let par (n : Nat) := (j.par.toNat, n, Right.load)
  let mac := if ctxMac j.part.toNat j.par s then 8 else 0
  match j.kind with
  | 0 => [src, dst]
  | 1 => [dst]
  | 2 => [(j.src.toNat, j.len, .load), (j.dst.toNat, 20 + j.len + mac, .store), par 128, (j.par.toNat, 128, .store)]
  | 3 => [(j.src.toNat, j.len, .load), (j.dst.toNat, j.len - 20 - mac, .store), par 128, (j.par.toNat, 128, .store)]
  | 4 => [src, (j.dst.toNat, 32, .store)]
  | 5 => if j.segs ≤ j.seg + 8 then [par 96] else [src, par 96]
  | 6 | 7 | 8 => [src, dst, par 16]
  | 9 => [src, (j.dst.toNat, 16, .store)]
  | _ => [src, par 16]

/-- Partition n may use every range (08 R194, R207). -/
def rangesOk (n : Nat) (rs : List (Nat × Nat × Right)) (s : State) : Bool :=
  rs.all (fun r => s.mayUse n r.2.2 r.1 r.2.1)

/-- The key slot of a job is used: the AES and CMAC kinds, and a codec job whose context asks for a CMAC (08 R204, 11
R279, R280). -/
def usesKey (j : SJob) (s : State) : Bool :=
  (6 ≤ j.kind && j.kind ≤ 10) || ((j.kind = 2 || j.kind = 3) && ctxMac j.part.toNat j.par s)

/-- Partition n may use key slot k (08 R205, R210). -/
def slotFor (s : State) (n k : Nat) : Bool :=
  let c := s.rd .sheKsCtl k
  c.getLsbD 30 || fld c 0 10 = n

/-- The release time that a codec job captures: that of the submitting job, or the timebase for the foundry partition
while the scheduler is disabled (11 R279). -/
def submitRel (s : State) (n : Nat) : Nat := if n = 0 && !s.schEn then s.now else (s.part n).jib.rel

/-- The job that a descriptor describes (08 R206). -/
def jobOf (n : Nat) (desc : Word) (bs : List Byte) (s : State) : SJob :=
  let w (i : Nat) : Word := wd (leNat (slice bs (4 * i) 4))
  { tag := s.she.tag, part := BitVec.ofNat 10 n, kind := fld (w 0) 28 4, slot := fld (w 0) 16 5, flags := fld (w 0) 0 16,
    len := (w 1).toNat, src := w 2, dst := w 3, par := w 4, desc := desc, band := if s.urgent n then 0 else 1, pre := 0,
    eng := none, seg := 0, key := none, keyType := 0, rel := submitRel s n, worked := false, fin := none, result := 0,
    chain := [] }

/-- Jobs wait in a queue for each kind and band; those of one engine type for a kind (08 R208). -/
def queued (s : State) (kind band : Nat) : Nat :=
  (s.she.jobs.filter (fun j => j.kind = kind && j.band = band && j.eng = none)).length

/-- The status of a submission (08 R205; the order of its checks is DESIGN CHOICE log 34). -/
def submitStatus (j : SJob) (bs : List Byte) (s : State) : Status :=
  let n := j.part.toNat
  if bs.length ≠ 32 || !s.mayUse n .store j.desc.toNat 32 || j.kind > 10 then .denied
  else if !lenOk j.kind j.len then .size
  else if !rangesOk n (j.ranges 0 j.len s) s || (usesKey j s && !slotFor s n j.slot) then .denied
  else if (s.she.jobs.filter (fun q => q.part = j.part)).length ≥ 4 || queued s j.kind j.band ≥ 128 then .full
  else .ok

/-- A read of SHE.SUBMIT by partition n (08 R205). -/
def submit (n : Nat) (s : State) : State :=
  let desc := s.rdB n .sheSubmitAddr
  let r := partRead n desc.toNat 32 s
  let bs := if r.1 = .ok then r.2.1 else []
  let s1 := r.2.2
  let j := jobOf n desc bs s1
  match submitStatus j bs s1 with
  | .ok =>
    { s1 with she := { s1.she with
        jobs := s1.she.jobs ++ [j]
        tag := if s1.she.tag = 0xFFFF then 1 else s1.she.tag + 1 } }.answer .ok (wd (j.tag * 65536))
  | st => s1.answer .ok (wd st.code)

/-- SUBMIT (08 R205). -/
def execSubmit (w : Who) (s : State) : Host.Outcome State Fault Refusal :=
  .next (asReader w .sheSubmit s submit)

/-! ### Queues and engines (08 R207 to R209) -/

/-- The job on engine k. -/
def jobOn (s : State) (k : Nat) : Option SJob := s.she.jobs.find? (fun j => j.eng = some k)

/-- Replaces the job with the tag of j. -/
def setJob (j : SJob) (s : State) : State :=
  { s with she := { s.she with jobs := s.she.jobs.map (fun q => if q.tag = j.tag then j else q) } }

/-- A codec job whose context a running job, or an earlier job, uses is passed over (11 R284). -/
def ctxFree (s : State) (j : SJob) : Bool :=
  !(j.kind = 2 || j.kind = 3) ||
    !(s.she.jobs.any (fun q => q.eng.isSome && (q.kind = 2 || q.kind = 3) && q.part = j.part && q.par = j.par))

/-- The job that engine k takes: the first of the urgent band, or else of the normal band, among its kinds (08 R208). -/
def headFor (s : State) (k : Nat) : Option SJob :=
  let waits (band : Nat) := s.she.jobs.find? (fun j =>
    j.eng = none && j.band = band && (engineKinds k).contains j.kind && ctxFree s j)
  match waits 0 with
  | some j => some j
  | none => waits 1

/-- The captured key of a slot: none where the slot is empty (08 R209). -/
def captured (s : State) (k : Nat) : Option Nat :=
  if (s.rd .sheKsStat k).getLsbD 0 then some (Tab.get 0 s.she.keys k) else none

/-- The status with which a job that is about to start its segment ends at once: no key, a key of a type that the kind
does not use (DEDUCED log 35), or a range refused (08 R207, R209). -/
def startFails (j : SJob) (s : State) : Option Status :=
  let p := j.piece
  if (6 ≤ j.kind && j.kind ≤ 10) && j.key = none then some .keyEmpty
  else if (6 ≤ j.kind && j.kind ≤ 8) && 2 ≤ j.keyType then some .denied
  else if (j.kind = 9 || j.kind = 10) && j.keyType ≠ 3 then some .denied
  else if !rangesOk j.part.toNat (j.ranges p.1 p.2 s) s then some .denied
  else none

/-- JOB_START (08 R208): a free engine takes its head job, captures the key and checks the first segment. -/
def jobStart (k : Nat) (s : State) : State :=
  if !s.awake then s else
  match jobOn s k, headFor s k with
  | none, some j =>
    let j1 := { j with eng := some k, seg := 0, key := captured s j.slot, keyType := fld (s.rd .sheKsCtl j.slot) 24 2,
                       worked := false, fin := none, result := 0, chain := [] }
    setJob { j1 with fin := startFails j1 s } s
  | _, _ => s

/-- JOB_START (08 R208). -/
def execJobStart (k : Fin 28) (s : State) : Host.Outcome State Fault Refusal := .next (jobStart k.val s)

/-- The engines of engine k's type that run no job: each is free for one of the jobs that wait. -/
def freeEngines (s : State) (k : Nat) : Nat :=
  ((List.range 28).filter (fun e => engineKinds e = engineKinds k && (jobOn s e).isNone)).length

/-- An urgent job waits for engine k's type and no engine of that type is free, or has already been taken, for it. -/
def urgentWaits (s : State) (k : Nat) : Bool :=
  decide (freeEngines s k <
    (s.she.jobs.filter (fun j => j.eng = none && j.band = 0 && (engineKinds k).contains j.kind)).length)

/-- A normal job is preempted at a segment boundary: it returns to the head of the normal queue, or after the third time
to the tail of the urgent queue (08 R208). -/
def preemptJob (j : SJob) (s : State) : State :=
  let rest := s.she.jobs.filter (fun q => q.tag ≠ j.tag)
  let j1 := { j with eng := none, pre := j.pre + 1, seg := 0, worked := false, fin := none, result := 0, chain := [] }
  let s1 := s.setBits .sheStat (bit 1)
  if j.pre + 1 ≥ 3 then
    ({ s1 with she := { s1.she with jobs := rest ++ [{ j1 with band := 0 }] } }).setBits .sheStat (bit 2)
  else { s1 with she := { s1.she with jobs := j1 :: rest } }

/-- SEGMENT_BOUNDARY (08 R207, R208): the segment that has been worked ends; a normal job gives way to the urgent queue,
else the next segment's ranges are checked. -/
def segmentBoundary (k : Nat) (s : State) : State :=
  if !s.awake then s else
  match jobOn s k with
  | none => s
  | some j =>
    if !j.worked || j.fin.isSome || j.seg + 1 ≥ j.segs then s
    else if j.band = 1 && urgentWaits s k then preemptJob j s
    else
      let j1 := { j with seg := j.seg + 1, worked := false }
      setJob { j1 with fin := startFails j1 s } s

/-- SEGMENT_BOUNDARY (08 R207). -/
def execSegmentBoundary (k : Fin 28) (s : State) : Host.Outcome State Fault Refusal := .next (segmentBoundary k.val s)

/-- The completion word (08 R206). -/
def doneWord (j : SJob) (st : Status) : Word := wd (2 ^ 31 + j.pre % 256 * 256 + st.code)

/-- The result word as the job ends: a check job that ends before its verdict, and writes no context line, reports no reason,
no length, and the STATE that its context holds, 0 where that cannot be read; a build job has no STATE (11 R284, R285). -/
def endResult (j : SJob) (s : State) : Word :=
  if (j.kind = 2 || j.kind = 3) && !(j.worked && j.fin.isSome) then
    if j.kind = 3 then wd (fld (wordAt j.part.toNat (j.par.toNat + 0x48) s) 30 2 * 65536) else 0
  else j.result

/-- Writes the result word, then the completion word (08 R207), and takes the job out. -/
def finishJob (j : SJob) (st : Status) (s : State) : State :=
  let n := j.part.toNat
  let a := j.desc.toNat
  let s1 := (partWrite n (a + 0x1C) (leBytes 4 (endResult j s).toNat) s).2
  let s2 := (partWrite n (a + 0x18) (leBytes 4 (doneWord j st).toNat) s1).2
  { s2 with she := { s2.she with jobs := s2.she.jobs.filter (fun q => q.tag ≠ j.tag) } }

/-- JOB_COMPLETION (08 R207): the job has failed, or its last segment has been worked. -/
def jobCompletion (k : Nat) (s : State) : State :=
  if !s.awake then s else
  match jobOn s k with
  | none => s
  | some j =>
    match j.fin with
    | some st => finishJob j st s
    | none => if j.worked && j.seg + 1 = j.segs then finishJob j .ok s else s

/-- JOB_COMPLETION (08 R207). -/
def execJobCompletion (k : Fin 28) (s : State) : Host.Outcome State Fault Refusal := .next (jobCompletion k.val s)

/-- The status of a job that is aborted: ABORTED, but a codec job whose work is done, its context line written, has ended
with the status of that work, since ABORTED writes no line (08 R211, 11 R284; DEDUCED log 167). -/
def abortStatus (j : SJob) : Status :=
  match j.fin with
  | some st => if j.worked && (j.kind = 2 || j.kind = 3) then st else .aborted
  | none => .aborted

/-- Ends every job of partition n (08 R211). -/
def abortJobs (n : Nat) (s : State) : State :=
  let js := s.she.jobs.filter (fun j => j.part.toNat = n)
  let s1 := js.foldl (fun u j => finishJob j (abortStatus j) u) s
  if js.isEmpty then s1 else s1.setBits .sheStat (bit 0)

/-- A transfer of engine k's job is cut off (08 R202). -/
def cutJob (k : Nat) (s : State) : State :=
  match jobOn s k with
  | some j => if j.fin.isNone then setJob { j with fin := some .cutoff } s else s
  | none => s

/-! ### The work of a segment -/

/-- Runs the work of the current segment of engine k's job, if it is of one of the kinds and has not been worked. -/
def workOn (k : Nat) (kinds : List Nat) (f : SJob → State → State) (s : State) : State :=
  if !s.awake then s else
  match jobOn s k with
  | some j => if kinds.contains j.kind && !j.worked && j.fin.isNone then f j s else s
  | none => s

/-- The segment is done with a status: OK goes on, any other ends the job. -/
def segDone (j : SJob) (st : Status) (s : State) : State :=
  setJob (if st = .ok then { j with worked := true } else { j with fin := some st }) s

/-- Reads the segment's source bytes. -/
def segRead (j : SJob) (s : State) : Status × List Byte × State :=
  partRead j.part.toNat (j.src.toNat + j.piece.1) j.piece.2 s

/-- Writes the segment's destination bytes. -/
def segWrite (j : SJob) (bs : List Byte) (s : State) : Status × State :=
  partWrite j.part.toNat (j.dst.toNat + j.piece.1) bs s

/-- Reads, turns and writes a segment. -/
def segMap (j : SJob) (f : List Byte → List Byte × List Byte) (s : State) : State :=
  let r := segRead j s
  if r.1 ≠ .ok then segDone j r.1 r.2.2
  else
    let o := f r.2.1
    let w := segWrite j o.1 r.2.2
    segDone { j with result := wd (j.piece.1 + j.piece.2), chain := o.2 } w.1 w.2

/-- Kind 0h (08 R204). -/
def dmaCopy (j : SJob) (s : State) : State := segMap j (fun bs => (bs, [])) s

/-- The pattern over n bytes. -/
def pattern (w : Word) (n : Nat) : List Byte := (List.range (n / 4)).flatMap (fun _ => leBytes 4 w.toNat)

/-- Kind 1h (08 R204): the pattern is the parameter word itself. -/
def dmaFill (j : SJob) (s : State) : State :=
  let w := segWrite j (pattern j.par j.piece.2) s
  segDone { j with result := wd (j.piece.1 + j.piece.2) } w.1 w.2

/-- DMA_COPY (08 R204). -/
def execDmaCopy (k : Fin 28) (s : State) : Host.Outcome State Fault Refusal := .next (workOn k.val [0] dmaCopy s)

/-- DMA_FILL (08 R204). -/
def execDmaFill (k : Fin 28) (s : State) : Host.Outcome State Fault Refusal := .next (workOn k.val [1] dmaFill s)

/-- The key bytes of a job: KEY0 is the least significant word of the key read as a big-endian number (PRESUMED log 14). -/
def SJob.keyBytes (j : SJob) : List Byte :=
  beBytes (if j.keyType = 1 then 32 else 16) (j.key.getD 0)

/-- The result word of a completed hash or tag job (DESIGN CHOICE log 32). -/
def tagResult (j : SJob) (outLen : Nat) : Word := if Config.resultIsOutput j.kind then wd outLen else wd j.len

/-- Reads a segment into the job's chain; at the last segment the final step runs on all of it. -/
def segHash (j : SJob) (last : SJob → List Byte → State → State) (s : State) : State :=
  let r := segRead j s
  if r.1 ≠ .ok then segDone j r.1 r.2.2
  else
    let j1 := { j with chain := j.chain ++ r.2.1, result := wd (j.piece.1 + j.piece.2) }
    if j.seg + 1 = j.segs then last j1 j1.chain r.2.2 else segDone j1 .ok r.2.2

/-- Writes a digest or tag to the destination. -/
def putTag (j : SJob) (bs : List Byte) (s : State) : State :=
  let w := partWrite j.part.toNat j.dst.toNat bs s
  segDone { j with result := tagResult j bs.length } w.1 w.2

/-- Compares a tag with the parameter block (08 R207). -/
def checkTag (j : SJob) (ok : List Byte → Bool) (n : Nat) (s : State) : State :=
  let r := partRead j.part.toNat j.par.toNat n s
  if r.1 ≠ .ok then segDone j r.1 r.2.2 else segDone j (if ok r.2.1 then .ok else .crc) r.2.2

/-- SHA_256 (08 R204, kind 4h). -/
def execSha256 (k : Fin 28) (s : State) : Host.Outcome State Fault Refusal :=
  .next (workOn k.val [4] (fun j => segHash j (fun j1 m => putTag j1 (sha256 m))) s)

/-- Kind 5h: the data segments, then 8 segments of the curve step, the last of which decides (08 R204; PRESUMED log 14). -/
def edSegment (j : SJob) (s : State) : State :=
  if j.seg + 8 < j.segs then
    let r := segRead j s
    if r.1 ≠ .ok then segDone j r.1 r.2.2
    else segDone { j with chain := j.chain ++ r.2.1, result := wd (j.piece.1 + j.piece.2) } .ok r.2.2
  else if j.seg + 1 = j.segs then
    checkTag { j with result := wd j.len } (fun p => edVerify (p.drop 64) (p.take 64) j.chain) 96 s
  else segDone j .ok s

/-- ED25519_VERIFICATION (08 R204, kind 5h). -/
def execEd25519Verification (k : Fin 28) (s : State) : Host.Outcome State Fault Refusal :=
  .next (workOn k.val [5] edSegment s)

/-- The initial vector of a job from its parameter block. -/
def ivOf (j : SJob) (s : State) : Status × List Byte × State := partRead j.part.toNat j.par.toNat 16 s

/-- Kind 6h (08 R204). -/
def ctrSegment (j : SJob) (s : State) : State :=
  let v := ivOf j s
  if v.1 ≠ .ok then segDone j v.1 v.2.2
  else
    segMap j (fun bs => (aesCtr j.keyBytes ((beNat v.2.1 + j.piece.1 / 16) % 2 ^ 128) ((bs.length + 15) / 16) bs, [])) v.2.2

/-- AES_CTR (08 R204, kind 6h). -/
def execAesCtr (k : Fin 28) (s : State) : Host.Outcome State Fault Refusal := .next (workOn k.val [6] ctrSegment s)

/-- Kinds 7h and 8h: the chain holds the last ciphertext block of the segment before. -/
def cbcSegment (enc : Bool) (j : SJob) (s : State) : State :=
  let v := if j.seg = 0 then ivOf j s else (.ok, j.chain, s)
  if v.1 ≠ .ok then segDone j v.1 v.2.2
  else
    segMap j (fun bs =>
      let o := if enc then cbcEnc j.keyBytes (bs.length / 16) v.2.1 bs else cbcDec j.keyBytes (bs.length / 16) v.2.1 bs
      let c := if enc then o else bs
      (o, c.drop (c.length - 16))) v.2.2

/-- AES_CBC_ENCRYPT (08 R204, kind 7h). -/
def execAesCbcEncrypt (k : Fin 28) (s : State) : Host.Outcome State Fault Refusal :=
  .next (workOn k.val [7] (cbcSegment true) s)

/-- AES_CBC_DECRYPT (08 R204, kind 8h). -/
def execAesCbcDecrypt (k : Fin 28) (s : State) : Host.Outcome State Fault Refusal :=
  .next (workOn k.val [8] (cbcSegment false) s)

/-- CMAC_GENERATE (08 R204, kind 9h). -/
def execCmacGenerate (k : Fin 28) (s : State) : Host.Outcome State Fault Refusal :=
  .next (workOn k.val [9] (fun j => segHash j (fun j1 m => putTag j1 (cmac j1.keyBytes m))) s)

/-- CMAC_VERIFY (08 R204, kind Ah). -/
def execCmacVerify (k : Fin 28) (s : State) : Host.Outcome State Fault Refusal :=
  .next (workOn k.val [10] (fun j => segHash j (fun j1 m => checkTag { j1 with result := tagResult j1 16 }
    (fun t => decide (t = cmac j1.keyBytes m)) 16)) s)

/-! ### Safety envelopes (11) -/

/-- The reason codes of R285. -/
inductive Reason where
  | none | context | len | ver | format | crc | mac | conn | repeated | old | outwin | age | future | late | dup | diff
  | expect | recovering | tick
  deriving DecidableEq, Repr

/-- The code of a reason (11 R285). -/
def Reason.code (r : Reason) : Nat := r.ctorIdx

/-- A connection context as words and bytes (11 R278). -/
structure Ctx where
  cfg : Word
  conn : Word
  peerDev : Nat
  peerPart : Nat
  win : Nat
  recov : Nat
  futtol : Nat
  maxAge : Nat
  expect : Nat
  /-- Next SEQ, or the last accepted one. -/
  seq : Nat
  tlast : Nat
  /-- 0 INIT, 1 RUN, 2 FAILED. -/
  state : Nat
  held : Bool
  tvalid : Bool
  recs : Nat
  fails : Nat
  heldCrc : Nat
  heldHead : List Byte
  heldMac : List Byte
  deriving DecidableEq, Repr

/-- The context that 128 bytes hold. -/
def ctxOf (bs : List Byte) : Ctx :=
  let w (o : Nat) : Word := wd (leNat (slice bs o 4))
  let st := w 0x48
  { cfg := w 0, conn := w 4, peerDev := (w 8).toNat + fld (w 0xC) 0 16 * 2 ^ 32, peerPart := fld (w 0xC) 16 10,
    win := fld (w 0x10) 24 8, recov := fld (w 0x10) 16 8, futtol := fld (w 0x10) 0 16, maxAge := (w 0x14).toNat,
    expect := (w 0x18).toNat, seq := (w 0x40).toNat, tlast := (w 0x44).toNat, state := fld st 30 2,
    held := st.getLsbD 29, tvalid := st.getLsbD 28, recs := fld st 16 8, fails := fld st 0 16, heldCrc := (w 0x4C).toNat,
    heldHead := slice bs 0x50 16, heldMac := slice bs 0x60 8 }

/-- The line that a receiver's job writes: bytes 40h to 7Fh (11 R278). -/
def Ctx.line (c : Ctx) : List Byte :=
  leBytes 4 c.seq ++ leBytes 4 c.tlast ++
    leBytes 4 (c.state * 2 ^ 30 + b2n c.held * 2 ^ 29 + b2n c.tvalid * 2 ^ 28 + c.recs % 256 * 65536 + c.fails % 65536) ++
    leBytes 4 c.heldCrc ++ c.heldHead ++ c.heldMac ++ List.replicate 24 0

/-- CFG names this role, and versions other than 1 nowhere; its other bits are 0 (11 R278; DEDUCED log 36). -/
def Ctx.valid (c : Ctx) (role : Nat) : Bool :=
  fld c.cfg 28 4 = role && fld c.cfg 24 4 = 1 && fld c.cfg 11 9 = 0 && fld c.cfg 0 8 = 0 &&
    (if role = 2 then fld c.cfg 20 4 = 1 else true)
/-- MAC of the context. -/
def Ctx.mac (c : Ctx) : Bool := c.cfg.getLsbD 8
/-- DUAL of the context. -/
def Ctx.dual (c : Ctx) : Bool := c.cfg.getLsbD 9
/-- RELATCH of the context. -/
def Ctx.relatch (c : Ctx) : Bool := c.cfg.getLsbD 10

/-- The identity block (11 R276). -/
def identity (dev1 part1 dev2 part2 : Nat) : List Byte := beBytes 6 dev1 ++ beBytes 2 part1 ++ beBytes 6 dev2 ++ beBytes 2 part2

/-- The check value as it stands in an envelope. -/
def envCrc (ident body : List Byte) : Nat := (crc32c (ident ++ body)).toNat

/-- The first 8 bytes of the CMAC over the identity and the envelope's bytes before it (11 R277). -/
def envMac (key : Nat) (ident body : List Byte) : List Byte := (cmac (beBytes 16 key) (ident ++ body)).take 8

/-- floor(release / 1000) mod 2^32 (11 R279, R280). -/
def SJob.ref (j : SJob) : Nat := j.rel / 1000 % 2 ^ 32

/-- The job ends with a status, a reason, STATE and a length in its result word (11 R285). -/
def codecEnd (j : SJob) (st : Status) (r : Reason) (state len : Nat) (s : State) : State :=
  setJob { j with fin := some st, worked := true,
                  result := wd (r.code * 2 ^ 24 + state % 4 * 65536 + len % 2048) } s

/-- The key of a codec job is of the wrong type (11 R280 step 1). -/
def badKeyType (j : SJob) (c : Ctx) : Bool := c.mac && j.keyType ≠ 3

/-- Builds an envelope (11 R275, R279). -/
def envelope (j : SJob) (c : Ctx) (dev : Nat) (payload : List Byte) : List Byte :=
  let head := beBytes 1 0x10 ++ beBytes 1 (b2n c.mac) ++ beBytes 2 j.len ++ beBytes 4 c.conn.toNat ++ beBytes 4 c.seq ++
    beBytes 4 j.ref
  let ident := identity dev j.part.toNat c.peerDev c.peerPart
  let body := head ++ payload
  let mac := if c.mac then envMac (j.key.getD 0) ident body else []
  body ++ mac ++ beBytes 4 (envCrc ident (body ++ mac))

/-- A build job (11 R279). -/
def envelopeBuild (j : SJob) (s : State) : State :=
  let n := j.part.toNat
  let cr := partRead n j.par.toNat 128 s
  let pr := partRead n j.src.toNat j.len cr.2.2
  let c := ctxOf cr.2.1
  if cr.1 ≠ .ok then segDone j cr.1 cr.2.2
  else if j.flags ≠ 0 || !c.valid 1 || badKeyType j c then codecEnd j .denied .context 0 0 cr.2.2
  else if c.mac && j.key = none then codecEnd j .keyEmpty .none 0 0 cr.2.2
  else if pr.1 ≠ .ok then segDone j pr.1 pr.2.2
  else
    let env := envelope j c (devid s) pr.2.1
    let w := partWrite n j.dst.toNat env pr.2.2
    if w.1 ≠ .ok then segDone j w.1 w.2
    else
      let x := partWrite n (j.par.toNat + 0x40) (leBytes 4 (c.seq + 1)) w.2
      if x.1 ≠ .ok then segDone j x.1 x.2 else codecEnd j .ok .none 0 env.length x.2

/-- ENVELOPE_BUILD (11 R279). -/
def execEnvelopeBuild (k : Fin 28) (s : State) : Host.Outcome State Fault Refusal :=
  .next (workOn k.val [2] envelopeBuild s)

/-- The fields of a received envelope. -/
structure Env where
  ver : Nat
  res : Bool
  mac : Bool
  len : Nat
  conn : Nat
  seq : Nat
  ts : Nat
  head : List Byte
  payload : List Byte
  tag : List Byte
  crc : Nat
  /-- Every byte before the CRC. -/
  body : List Byte
  deriving DecidableEq, Repr

/-- Reads an envelope (11 R275). res: a reserved bit is set. -/
def envOf (bs : List Byte) : Env :=
  let b (i : Nat) : Nat := (bs.getD i 0).toNat
  let l := beNat (slice bs 2 2)
  let len := l % 2048
  let m := if b 1 % 2 = 1 then 8 else 0
  { ver := b 0 / 16, res := b 0 % 16 ≠ 0 || b 1 / 2 ≠ 0 || l / 2048 ≠ 0, mac := b 1 % 2 = 1, len := len,
    conn := beNat (slice bs 4 4), seq := beNat (slice bs 8 4), ts := beNat (slice bs 12 4), head := bs.take 16,
    payload := slice bs 16 len, tag := slice bs (16 + len) m, crc := beNat (slice bs (16 + len + m) 4),
    body := bs.take (16 + len + m) }

/-- a - b modulo 2^32. -/
def sub32 (a b : Nat) : Nat := (a + 2 ^ 32 - b % 2 ^ 32) % 2 ^ 32

/-- Step 9 (11 R280): the sequence number. -/
def seqCheck (c : Ctx) (e : Env) : Option (Status × Reason) :=
  let d := sub32 e.seq c.seq
  let win := if c.state = 2 then 2 ^ 31 - 1 else c.win
  if c.state = 0 || (c.state = 2 && !c.held) then none
  else if d = 0 then some (.stale, .repeated)
  else if c.dual && d ≥ 2 ^ 32 - win then some (.stale, .late)
  else if d ≥ 2 ^ 31 then some (.stale, .old)
  else if d > win then some (.stale, .outwin)
  else none

/-- Step 10 (11 R280): the age, read as a signed value. -/
def ageCheck (c : Ctx) (e : Env) (ref : Nat) : Option (Status × Reason) :=
  let a : Int := (BitVec.ofNat 32 (sub32 ref e.ts)).toInt
  if a > c.maxAge then some (.stale, .age)
  else if a < -(c.futtol : Int) then some (.stale, .future)
  else none

/-- Steps 2 to 7 (11 R280). -/
def formCheck (j : SJob) (c : Ctx) (e : Env) (dev : Nat) : Option (Status × Reason) :=
  let ident := identity c.peerDev c.peerPart dev j.part.toNat
  if j.len < 20 || e.len > 1024 || j.len ≠ 20 + e.len + (if e.mac then 8 else 0) then some (.size, .len)
  else if e.ver ≠ 1 then some (.version, .ver)
  else if e.res || e.mac ≠ c.mac then some (.denied, .format)
  else if e.crc ≠ envCrc ident e.body then some (.crc, .crc)
  else if c.mac && j.key = none then some (.keyEmpty, .none)
  else if c.mac && e.tag ≠ envMac (j.key.getD 0) ident (e.body.take (16 + e.len)) then some (.crc, .mac)
  else if e.conn ≠ c.conn.toNat then some (.denied, .conn)
  else none

/-- What a check job decides: status, reason, the context after it, whether the payload is written, and the length it
reports. -/
structure Verdict where
  st : Status
  why : Reason
  ctx : Ctx
  write : Bool
  len : Nat
  deriving DecidableEq, Repr

/-- The recovery count after one more acceptance; what its 8 bits hold past 255 is open (DESIGN CHOICE log 142). -/
def recRise (n : Nat) : Nat := if n < 255 then n + 1 else if Config.recoveryWraps then 0 else 255

/-- An accepted envelope (11 R281). -/
def acceptEnv (j : SJob) (c : Ctx) (e : Env) : Verdict :=
  let c1 := { c with seq := e.seq, tlast := j.ref, tvalid := true, heldHead := e.head,
                     heldMac := padTo 0 8 e.tag, heldCrc := beNat (leBytes 4 e.crc), held := true }
  if c.state = 2 then
    let r := recRise c.recs
    if !c.relatch && r ≥ c.recov then
      { st := .ok, why := .none, ctx := { c1 with state := 1, recs := 0, fails := 0 }, write := true, len := e.len }
    else { st := .timeout, why := .recovering, ctx := { c1 with recs := r }, write := false, len := 0 }
  else { st := .ok, why := .none, ctx := { c1 with state := 1, fails := 0 }, write := true, len := e.len }

/-- Step 8 with DUAL = 1 (11 R283): the copy is compared with the held envelope and the payload in the destination. -/
def dualCheck (c : Ctx) (e : Env) (dest : List Byte) : Verdict :=
  if e.head = c.heldHead && e.payload = dest && padTo 0 8 e.tag = c.heldMac && beNat (leBytes 4 e.crc) = c.heldCrc then
    { st := .ok, why := .dup, ctx := c, write := false, len := e.len }
  else { st := .mismatch, why := .diff, ctx := { c with state := 2, held := false, recs := 0 }, write := false, len := 0 }

/-- Steps 1 to 10 and acceptance on a receiver context; a tick checks nothing (11 R280, R281, R283). -/
def checkEnv (j : SJob) (c : Ctx) (bs dest : List Byte) (dev : Nat) : Verdict :=
  let e := envOf bs
  let bad (v : Status × Reason) : Verdict := { st := v.1, why := v.2, ctx := c, write := false, len := 0 }
  if j.len = 0 then { st := .ok, why := .tick, ctx := c, write := false, len := 0 }
  else if badKeyType j c then bad (.denied, .context)
  else
    match formCheck j c e dev with
    | some v => bad v
    | none =>
      if c.dual && c.held && e.seq = c.seq then dualCheck c e dest
      else
        match seqCheck c e with
        | some v => bad v
        | none =>
          match ageCheck c e j.ref with
          | some v => bad v
          | none => acceptEnv j c e

/-- The time expectation at the end of a check job (11 R282): the verdict after it, and whether the connection has just
entered FAILED by it. -/
def expectation (j : SJob) (before : Nat) (v : Verdict) : Verdict × Bool :=
  if v.write && before ≠ 2 then (v, false)
  else
    let c := if v.ctx.tvalid then v.ctx else { v.ctx with tlast := j.ref, tvalid := true }
    if sub32 j.ref c.tlast > c.expect then
      if c.state = 2 then ({ v with ctx := { c with recs := 0 } }, false)
      else ({ st := .timeout, why := .expect, ctx := { c with state := 2, held := false, recs := 0 }, write := false,
              len := 0 }, true)
    else ({ v with ctx := c }, false)

/-- Every job that ends with a status other than OK raises the consecutive-failure count, but for reason LATE (11
R281). -/
def countFail (v : Verdict) : Verdict :=
  if v.st = .ok || v.why = .late then v else { v with ctx := { v.ctx with fails := min 0xFFFF (v.ctx.fails + 1) } }

/-- The alarm, count and record of a connection that enters FAILED (11 R282, R283, R286). -/
def envAlarm (n : Nat) (why : Reason) (toFailed : Bool) (s : State) : State :=
  let s1 := if why = .diff then s.count16 .sheEnvcnt 16 else s
  let s2 := if toFailed then s1.count16 .sheEnvcnt 0 else s1
  let s3 := s2.wr .sheEnvlast (wd (why.code * 2 ^ 24 + n))
  record .envelope n [wd why.code] (alarm .she s3)

/-- The check reaches step 8 with a second copy to compare with the destination (11 R283). -/
def comparesDest (j : SJob) (c : Ctx) (bs : List Byte) (dev : Nat) : Bool :=
  let e := envOf bs
  j.len ≠ 0 && !badKeyType j c && formCheck j c e dev = none && c.dual && c.held && e.seq = c.seq

/-- A check job ends at step 1 before its source is read: flags, or for a length other than 0 a context that is no
receiver's (11 R280, R284). -/
def ctxBad (j : SJob) (c : Ctx) : Bool := j.flags ≠ 0 || (j.len ≠ 0 && !c.valid 2)

/-- A check job (11 R280 to R284): every end but a FAULT or DENIED of a read or write evaluates the expectation, counts a
failure, and writes the context line. -/
def envelopeCheck (j : SJob) (s : State) : State :=
  let n := j.part.toNat
  let cr := partRead n j.par.toNat 128 s
  let c := ctxOf cr.2.1
  let bad := ctxBad j c
  let er := if bad then (.ok, [], cr.2.2) else partRead n j.src.toNat j.len cr.2.2
  let dr := if !bad && comparesDest j c er.2.1 (devid s) then partRead n j.dst.toNat (envOf er.2.1).len er.2.2
    else (.ok, [], er.2.2)
  if cr.1 ≠ .ok then segDone j cr.1 cr.2.2
  else if er.1 ≠ .ok then segDone j er.1 er.2.2
  else if dr.1 ≠ .ok then segDone j dr.1 dr.2.2
  else
    let v0 : Verdict := if bad then { st := .denied, why := .context, ctx := c, write := false, len := 0 }
      else checkEnv j c er.2.1 dr.2.1 (devid s)
    let x := expectation j c.state v0
    let v := countFail x.1
    let s1 := dr.2.2
    let w := if v.write then partWrite n j.dst.toNat (envOf er.2.1).payload s1 else (.ok, s1)
    if w.1 ≠ .ok then segDone j w.1 w.2
    else
      let y := partWrite n (j.par.toNat + 0x40) v.ctx.line w.2
      if y.1 ≠ .ok then segDone j y.1 y.2
      else
        let s2 := if v0.why = .diff then envAlarm n .diff (c.state ≠ 2) y.2 else y.2
        let s3 := if x.2 then envAlarm n .expect true s2 else s2
        codecEnd j v.st v.why v.ctx.state v.len s3

/-- ENVELOPE_CHECK (11 R280). -/
def execEnvelopeCheck (k : Fin 28) (s : State) : Host.Outcome State Fault Refusal :=
  .next (workOn k.val [3] envelopeCheck s)

/-! ### Key slots (08 R209, R210) -/

/-- The last key word that a type uses. -/
def lastWord (typ : Nat) : Nat := if typ = 0 || typ = 3 then 3 else 7

/-- Empties a slot. -/
def eraseKey (k : Nat) (s : State) : State :=
  ({ s with she := { s.she with keys := Tab.set 0 s.she.keys k 0 } }).clrBits .sheKsStat 1 k

/-- A slot's write count rises and FULL is set. -/
def fillKey (k : Nat) (s : State) : State := (s.count16 .sheKsStat 16 k).setBits .sheKsStat 1 k

/-- Writes key word i of slot k. -/
def keyWrite (k i : Nat) (v : Word) (s : State) : State :=
  let old := Tab.get 0 s.she.keys k
  let low := old % 2 ^ (32 * i)
  let high := old / 2 ^ (32 * (i + 1))
  let new := low + v.toNat * 2 ^ (32 * i) + high * 2 ^ (32 * (i + 1))
  let s1 := { s with she := { s.she with keys := Tab.set 0 s.she.keys k new } }
  (if i = lastWord (fld (s.rd .sheKsCtl k) 24 2) then fillKey k s1 else s1).reply .ok

/-- KEY_WRITE (08 R210). -/
def execKeyWrite (w : Who) (slot : Fin 32) (i : Fin 8) (v : Word) (s : State) : Host.Outcome State Fault Refusal :=
  .next (asFnd w s (keyWrite slot.val i.val v))

/-- KEY_ERASE (08 R210). -/
def execKeyErase (w : Who) (slot : Fin 32) (s : State) : Host.Outcome State Fault Refusal :=
  .next (asFnd w s (fun u => (eraseKey slot.val u).reply .ok))

/-- A write to a slot's control register: ERASE empties the slot. -/
def ksCtlWrite (k : Nat) (v : Word) (s : State) : State :=
  let s1 := s.put .sheKsCtl v k
  (if v.getLsbD 31 then eraseKey k s1 else s1).reply .ok

/-- A write of SUBMIT_ADDR: bits 4:0 must be 0 (08 R212). -/
def submitAddrWrite (n : Nat) (v : Word) (s : State) : State :=
  if fld v 0 5 ≠ 0 then s.reply .denied else (s.wrB n .sheSubmitAddr v).reply .ok

/-- The writes of SHE registers that are not plain. -/
def sheWrite (w : Who) (r : Reg) (i j : Nat) (v : Word) (s : State) : Option State :=
  match r with
  | .sheSubmitAddr => some (asAny w s (fun n => submitAddrWrite n v))
  | .sheKsCtl => some (asFnd w s (ksCtlWrite i v))
  | .sheKsKey => some (asFnd w s (keyWrite i j v))
  | .sheEnvcnt => some (asFnd w s (clearOnZero .sheEnvcnt v))
  | _ => none

/-- The reads of SHE registers that are not plain. -/
def sheRead (w : Who) (r : Reg) (s : State) : Option State :=
  match r with
  | .sheStat => some (fndRead w r s (fun u => u.answer .ok (u.rd .sheStat)))
  | .sheSubmit => some (asReader w r s submit)
  | .sheQdepth => some (asReader w r s (fun _ u =>
      let n (b : Nat) := (u.she.jobs.filter (fun j => j.eng = none && j.band = b)).length
      u.answer .ok (wd (min 255 (n 0) * 65536 + min 255 (n 1)))))
  | _ => none

end Sys2Proof.Machine
end

