-- ==== Sys2Proof/Machine/MemArb.lean ====
section
/-!
DEFINITION. The region table window, memory errors and the scrubber, and the arbiter of the fabric's targets (08).
-/

namespace Sys2Proof.Machine

/-! ### Region entries (08 R190 to R193) -/

/-- The partition that the window shows. -/
def rtSel (s : State) : Nat := fld (s.rd .memRtsel) 0 10

/-- The physical range lies wholly within one range of R188. -/
def oneRange (a n : Nat) : Bool :=
  isMem a n || (0x6000000000 ≤ a && a + n ≤ 0x6000D00000) || (0x7000000000 ≤ a && a + n ≤ 0x7001000000)

/-- Two regions share a virtual page. -/
def Region.overlaps (g h : Region) : Bool := g.vbase < h.vbase + h.len && h.vbase < g.vbase + g.len

/-- A valid shadow entry k of partition n may stand as g (08 R193). -/
def regionOk (n k : Nat) (g : Region) (s : State) : Bool :=
  let ingots := decide (ingotBase < g.pbase + g.len) && decide (g.pbase < 0x4004000000)
  0x40000 ≤ g.vbase && g.vbase + g.len ≤ 0x100000000 &&
    (List.range 16).all (fun i => i = k || !((s.regionS n i).attr.getLsbD 31 && (s.regionS n i).overlaps g)) &&
    oneRange g.pbase g.len &&
    (!ingots || (n = 0 && !g.attr.getLsbD 3 && !g.attr.getLsbD 4 && g.attr.getLsbD 1)) &&
    (!g.attr.getLsbD 4 || isMem g.pbase g.len)

/-- A write of ATTR of the shadow entry k that the window shows (08 R193). -/
def attrWrite (k : Nat) (v : Word) (s : State) : State :=
  let n := rtSel s
  let a := Reg.merge .memRgnAttrS (s.rdB n .memRgnAttrS k) v
  if a.getLsbD 31 && !regionOk n k { s.regionS n k with attr := a } s then s.reply .denied
  else (s.wrB n .memRgnAttrS a k).reply .ok

/-- REGION_ATTR_WRITE (08 R193). -/
def execRegionAttrWrite (w : Who) (k : Fin 16) (v : Word) (s : State) : Host.Outcome State Fault Refusal :=
  .next (asFnd w s (attrWrite k.val v))

/-- A write of VBASE, SIZE or PBASE: BUSY while the shadow entry is valid. -/
def entryWrite (r : Reg) (k : Nat) (v : Word) (s : State) : State :=
  let n := rtSel s
  if (s.rdB n .memRgnAttrS k).getLsbD 31 then s.reply .busy
  else (s.wrB n r (r.merge (s.rdB n r k) v) k).reply .ok

/-- A write of SCRUB: a pass value of 0 is DENIED (08 R197). -/
def scrubWrite (v : Word) (s : State) : State :=
  if fld v 16 8 = 0 || fld v 8 8 = 0 then s.reply .denied else (s.put .memScrub v).reply .ok

/-- The entries of partition n swap together (08 R190). -/
def regionSwap (n : Nat) (s : State) : State :=
  let b := bankKey n 0x6000301000
  s.swapAll (fun k => b ≤ k && k < b + 0x100) 0x100

/-! ### Memory errors (08 R195, R196) -/

/-- An error comes into a line; none leaves what lies there (DESIGN CHOICE log 158). -/
def addError (l : Nat) (e : EccErr) (s : State) : State :=
  if e = .none then s else { s with ecc := Tab.set .none s.ecc l e }

/-- SCRUB: the line holds an error, and the scrubber, where it is enabled and runs, reads, corrects and rewrites it; else the next
access meets the error (08 R195, R196). -/
def scrub (a : Nat) (e : EccErr) (s : State) : State :=
  if !isMem a 1 then s
  else
    let s1 := addError (a / 64) e s
    if !(s.rd .memScrub).getLsbD 0 || !s.awake then s1
    else if s.poison.contains (a / 64) then s1.setBits .memEccstat (bit 3)
    else settleLine (a / 64) s1

/-- SCRUB (08 R196). -/
def execScrub (line : BitVec 40) (err : EccErr) (s : State) : Host.Outcome State Fault Refusal :=
  .next (scrub line.toNat err s)

/-! ### Arbitration (08 R198 to R202) -/

/-- A target. -/
def State.target (s : State) (t : Nat) : Target := Tab.get {} s.arb.tgt t
/-- Replaces a target. -/
def State.setTarget (t : Nat) (x : Target) (s : State) : State :=
  { s with arb := { s.arb with tgt := Tab.set {} s.arb.tgt t x } }

/-- The partition whose work a requester does, if it is of one. -/
def reqPart (s : State) (r : Nat) : Option Nat :=
  if r < 0x60 then (s.eng r).job.map (·.toNat)
  else if 0x66 ≤ r && r < 0x82 then (jobOn s (r - 0x66)).map (·.part.toNat)
  else none

/-- The band of a requester's current work: 0 urgent, 1 normal, 2 background (08 R198). -/
def reqBand (s : State) (r : Nat) : Nat :=
  if 0x60 ≤ r && r ≤ 0x65 then 0
  else if r < 0x82 then
    match reqPart s r with
    | some n => if s.urgent n then 0 else 1
    | none => 1
  else if 0x83 ≤ r && r ≤ 0x86 && s.pwr.flush.isSome then 0
  else 2

/-- The longest transfer of a requester in beats (08 R198). -/
def reqBeats (r : Nat) : Nat := if r < 0x65 || r ≥ 0x87 then 1 else 64

/-- The hold limit of a band. -/
def holdLimit (s : State) (band : Nat) : Nat :=
  match band with
  | 0 => fld (s.rd .arbHoldu) 0 16
  | 1 => fld (s.rd .arbHoldn) 0 16
  | _ => fld (s.rd .arbHoldb) 0 16

/-- The oldest of some transfers, ties to the lower requester number (08 R199). -/
def oldest : List Transfer → Option Transfer
  | [] => none
  | t :: ts =>
    match oldest ts with
    | none => some t
    | some u => if t.ord < u.ord || (t.ord = u.ord && t.req ≤ u.req) then some t else some u

/-- The transfer that a target grants next: the oldest of the highest band (08 R199). -/
def nextGrant (ts : List Transfer) : Option Transfer :=
  match oldest (ts.filter (fun t => t.band = 0)) with
  | some t => some t
  | none =>
    match oldest (ts.filter (fun t => t.band = 1)) with
    | some t => some t
    | none => oldest ts

/-- The arbitration target of an address (08 R188, R203): the DRAM port by bits 7:6, the cycle-memory bank by bits 8:6, the
rack bridge, or the register space. -/
def targetOf (a : Nat) : Option Nat :=
  if isDram a then some (8 + a / 64 % 4)
  else if isCycle a then some (a / 64 % 8)
  else if isRack a then some 12
  else if 0x6000000000 ≤ a && a < 0x6000D00000 then some 13
  else none

/-- An address at a target: its bits within a page, where virtual and physical addresses agree, name the bank or port. -/
def addrAt (tgt : Nat) (v : Word) : Word :=
  if tgt < 8 then fset v 6 3 tgt else if tgt < 12 then fset v 6 2 (tgt - 8) else v

/-- A requester presents a transfer in a fabric cycle, which is its age; an urgent one takes the grant from a holder that is
not urgent (08 R199, R200). -/
def present (tgt r beats cyc : Nat) (s : State) : State :=
  let x := s.target tgt
  let busy := x.wait.any (fun t => t.req = r) || (match x.holder with
    | some t => t.req = r
    | none => false)
  if !s.awake || busy || r > 0x89 || beats = 0 || beats > reqBeats r then s
  else
    let t : Transfer := { req := r, band := reqBand s r, ord := cyc, beats := beats, pre := 0,
                          part := BitVec.ofNat 10 ((reqPart s r).getD 0) }
    match x.holder with
    | some h =>
      if t.band = 0 && h.band ≠ 0 then
        s.setTarget tgt { holder := some t, wait := x.wait ++ [{ h with pre := h.pre + 1 }] }
      else s.setTarget tgt { x with wait := x.wait ++ [t] }
    | none => s.setTarget tgt { x with wait := x.wait ++ [t] }

/-- TRANSFER_REQUEST (08 R198): to the target of its address. -/
def transferRequest (addr : BitVec 40) (req : BitVec 8) (beats : BitVec 7) (cyc : Nat) (s : State) : State :=
  match targetOf addr.toNat with
  | some tgt => present tgt req.toNat beats.toNat cyc s
  | none => s

/-- TRANSFER_REQUEST (08 R198). -/
def execTransferRequest (addr : BitVec 40) (req : BitVec 8) (burst : Burst) (s : State) :
    Host.Outcome State Fault Refusal :=
  .next (transferRequest addr req burst.beats burst.cyc s)

/-- The target's transfer ends and the next is granted; one preempted three times travels in the urgent band (08 R199,
R201). -/
def grant (tgt : Nat) (s : State) : State :=
  let x := s.target tgt
  match nextGrant x.wait with
  | none => s.setTarget tgt { x with holder := none }
  | some t =>
    let wait := x.wait.filter (fun u => u.req ≠ t.req)
    if t.pre ≥ 3 && t.band ≠ 0 then
      ((s.setTarget tgt { holder := some { t with band := 0 }, wait := wait }).count .arbPromocnt 1).setBits .arbStat (bit 1)
    else s.setTarget tgt { holder := some t, wait := wait }

/-- TARGET_GRANT (08 R199). -/
def execTargetGrant (tgt : Fin 14) (s : State) : Host.Outcome State Fault Refusal := .next (grant tgt.val s)

/-- A background transfer that has waited longer than AGE counts as normal (08 R199). -/
def ageUp (tgt r : Nat) (s : State) : State :=
  let x := s.target tgt
  s.setTarget tgt { x with wait := x.wait.map (fun t => if t.req = r && t.band = 2 then { t with band := 1 } else t) }

/-- BACKGROUND_AGE_EXPIRY (08 R199). -/
def execBackgroundAgeExpiry (tgt : Fin 14) (req : BitVec 8) (s : State) : Host.Outcome State Fault Refusal :=
  .next (ageUp tgt.val req.toNat s)

/-- A grant longer than its band's hold limit is cut off: the requester whose transfer ends with CUTOFF, and the state
with the event counted and alarmed (08 R202). -/
def cutGrant (tgt : Nat) (s : State) : Option Nat × State :=
  let x := s.target tgt
  match x.holder with
  | none => (none, s)
  | some t =>
    if holdLimit s t.band = 0 then (none, s)
    else
      let s1 := ((s.setTarget tgt { x with holder := none }).count .arbCutcnt 1).setBits .arbStat 1
      let s2 := s1.wr .arbLastcut (wd (tgt * 2 ^ 24 + t.req * 65536 + t.part.toNat))
      let s3 := alarm .arb s2
      (some t.req, if 0x66 ≤ t.req && t.req < 0x82 then cutJob (t.req - 0x66) s3 else s3)

/-- A write of AGE: 0 is DENIED (08 R203). -/
def ageWrite (v : Word) (s : State) : State :=
  if fld v 0 16 = 0 then s.reply .denied else (s.put .arbAge v).reply .ok

/-- The writes of MEM and ARB registers that are not plain. -/
def memWriteReg (w : Who) (r : Reg) (i : Nat) (v : Word) (s : State) : Option State :=
  match r with
  | .memRgnVbaseS | .memRgnSizeS | .memRgnPbaseS => some (asFnd w s (entryWrite r i v))
  | .memRgnAttrS => some (asFnd w s (attrWrite i v))
  | .memScrub => some (asFnd w s (scrubWrite v))
  | .memCecnt | .arbCutcnt | .arbPromocnt => some (asFnd w s (clearOnZero r v))
  | .arbAge => some (asFnd w s (ageWrite v))
  | _ => none

/-- The reads of MEM registers through the window; act reads the active copy. -/
def memReadReg (w : Who) (r : Reg) (i : Nat) (act : Bool) (s : State) : Option State :=
  match r with
  | .memRgnVbaseS | .memRgnSizeS | .memRgnPbaseS | .memRgnAttrS =>
    some (asReader w r s (fun _ u => u.answer .ok (if act then u.rdBA (rtSel u) r i else u.rdB (rtSel u) r i)))
  | _ => none

end Sys2Proof.Machine
end

