-- ==== Sys2Proof/Machine/Sched.lean ====
section
/-!
DEFINITION. The scheduler (07): descriptors, admission, releases, dispatch and stealing, job ends and misses, commits at
boundaries, stops, shedding, forcing, and the service slots (05 R129 to R132).
-/

namespace Sys2Proof.Machine

/-! ### Descriptors (07 R161, R162) -/

/-- Shadow CTL of partition n. -/
def ctlS (s : State) (n : Nat) : Word := s.rd .schPdCtlS n
/-- Active CTL of partition n. -/
def ctlA (s : State) (n : Nat) : Word := s.rdA .schPdCtlS n
/-- EN of a CTL word. -/
def pdEn (w : Word) : Bool := w.getLsbD 29
/-- PIN of a CTL word. -/
def pdPin (w : Word) : Bool := w.getLsbD 27
/-- Class of a CTL word. -/
def pdCls (w : Word) : Nat := fld w 30 2
/-- The home of a CTL word as the number of an executor: triad t is executor 3t. -/
def homeExec (w : Word) : Nat := if w.getLsbD 15 then fld w 8 7 else 3 * fld w 8 7
/-- The steal group of a home (04 R76). -/
def homeGroup (w : Word) : Nat := homeExec w / 24
/-- The home names an alloy triad. -/
def homeAlloy (w : Word) : Bool := !w.getLsbD 15

/-- DIV of a REL word. -/
def relDiv (w : Word) : Nat := fld w 8 4 + 1
/-- OFS of a REL word. -/
def relOfs (w : Word) : Nat := fld w 4 4
/-- Release group of a REL word. -/
def relGrp (w : Word) : Nat := fld w 0 4

/-- Release group g is valid. -/
def groupOk (s : State) (g : Nat) : Bool := (s.rd .schRg g).getLsbD 31
/-- The comparator of release group g. -/
def groupCmp (s : State) (g : Nat) : Nat := fld (s.rd .schRg g) 0 5
/-- Active period of release group g. -/
def groupPer (s : State) (g : Nat) : Nat := (s.rd .timTtPerA (groupCmp s g)).toNat
/-- Shadow period of release group g. -/
def groupPerS (s : State) (g : Nat) : Nat := (s.rd .timTtPerS (groupCmp s g)).toNat

/-- Period of partition n by its shadow settings. -/
def periodS (s : State) (n : Nat) : Nat := relDiv (s.rd .schPdRelS n) * groupPerS s (relGrp (s.rd .schPdRelS n))
/-- Period of partition n (07 R166). -/
def periodA (s : State) (n : Nat) : Nat := relDiv (s.rdA .schPdRelS n) * groupPer s (relGrp (s.rdA .schPdRelS n))

/-- Utilisation of partition n in units of 2^-16 triad, by its shadow settings (07, Admission). -/
def util (s : State) (n : Nat) : Nat :=
  let p := periodS s n
  if p = 0 then 0 else (65536 * (s.rd .schPdBudgetS n).toNat + p - 1) / p

/-- Partition n is in the admitted set: in an admitted state, or OFF with its shadow EN set (07 R183). -/
def isMember (s : State) (n : Nat) : Bool :=
  if n = 0 then pdEn (ctlS s 0) || pdEn (ctlA s 0)
  else
    match (s.part n).state with
    | .wait | .queued | .run | .held => true
    | .off => pdEn (ctlS s n)
    | .stopped | .shed => false

/-- The admitted set. -/
def members (s : State) : List Nat := (List.range 1024).filter (isMember s)

/-- The home that a CTL word names is in service. -/
def homeIn (s : State) (w : Word) : Bool :=
  if homeAlloy w then decide (fld w 8 7 < 32) && countsA s (fld w 8 7)
  else decide (fld w 8 7 < 96) && countsE s (fld w 8 7)

/-- The CTL word whose home admission counts for partition n: the shadow, but the new home of 07 R184 while the shadow
still names the lost one. -/
def homeNow (s : State) (n : Nat) : Word := if (s.part n).moved && !homeIn s (ctlS s n) then ctlA s n else ctlS s n

/-- Sum of check 1 over some partitions (07 R182): foundry and class S. -/
def sumS (s : State) (l : List Nat) : Nat := ((l.filter (fun n => pdCls (ctlS s n) ≠ 2)).map (util s)).sum
/-- Sum of check 2 over some partitions: all. -/
def sumT (s : State) (l : List Nat) : Nat := (l.map (util s)).sum
/-- Image bytes of partition n by its shadow sizes. -/
def imgBytes (s : State) (n : Nat) : Nat := iiShadow s n + oiShadow s n
/-- Sum of check 3 over some partitions for steal group g. -/
def sumImg (s : State) (l : List Nat) (g : Nat) : Nat :=
  ((l.filter (fun n => homeGroup (homeNow s n) = g)).map (imgBytes s)).sum
/-- The sum of check 1 over the admitted set. -/
def useS (s : State) : Nat := sumS s (members s)
/-- The sum of check 2 over the admitted set. -/
def useT (s : State) : Nat := sumT s (members s)
/-- The sum of check 3 for steal group g over the admitted set. -/
def useImg (s : State) (g : Nat) : Nat := sumImg s (members s) g
/-- 0.85 of k triads, in units of 2^-16 triad. -/
def cap85 (k : Nat) : Nat := 17 * 65536 * k / 20

/-- A sum is within the limit of k - 1 triads, which is negative for k = 0. -/
def within85 (u k : Nat) : Bool := k ≠ 0 && decide (u ≤ cap85 (k - 1))

/-- Check 1. -/
def check1 (s : State) : Bool := within85 (useS s) (capA s)
/-- Check 2. -/
def check2 (s : State) : Bool := within85 (useT s) (capA s + capE s)
/-- Check 3. -/
def check3 (s : State) : Bool := (List.range 4).all (fun g => decide (useImg s g ≤ 131072))

/-- A home is in service and matches a class (07 R159, R181). -/
def homeOk (s : State) (w : Word) : Bool := (homeAlloy w || pdCls w = 2) && homeIn s w

/-- The area satisfies 07 R164. -/
def areaOk (s : State) (n : Nat) : Bool :=
  let a := fld (s.rd .schPdAreaS n) 0 28 * 4096
  let len := 2 * iiShadow s n + 4 * oiShadow s n + (fld (s.rd .schPdSizeS n) 16 8 + 1) * 256
  isCycle a && decide (a + len ≤ ingotBase)

/-- Partition n satisfies 07 R181. -/
def ownOk (s : State) (n : Nat) : Bool :=
  let p := periodS s n
  let b := (s.rd .schPdBudgetS n).toNat
  decide (100000 ≤ p) && decide (1000 ≤ b) && decide (2 * b ≤ p) && groupOk s (relGrp (s.rd .schPdRelS n)) &&
    homeOk s (homeNow s n) && areaOk s n

/-- The admission checks over the set, and those of some partitions by themselves (07 R181, R182). -/
def admits (s : State) (ns : List Nat) : Bool := ns.all (ownOk s) && check1 s && check2 s && check3 s

/-- Admission over a set in place of the admitted one (07 R187). -/
def admitsAll (s : State) (l : List Nat) : Bool :=
  l.all (ownOk s) && within85 (sumS s l) (capA s) && within85 (sumT s l) (capA s + capE s) &&
    (List.range 4).all (fun g => decide (sumImg s l g ≤ 131072))

/-- DENIED by admission: ADMFAIL (07 R186). -/
def admFail (s : State) : State := (s.setBits .schStat (bit 0)).reply .denied

/-- Partition n takes an admission sequence number (07 R161). -/
def admNumber (n : Nat) (s : State) : State :=
  let k := s.sch.adm + 1
  { s with sch := { s.sch with adm := k } }.wr .schPdAdm (wd k) n

/-! ### Forcing (07 R178 to R180) -/

/-- Active force entry i applies to image img (0 II, 1 OI) of partition n. -/
def forceHits (s : State) (n : Nat) (img : Bool) (i : Nat) : Bool :=
  let w := s.rdA .schFrcS i
  w.getLsbD 31 && w.getLsbD 30 = img && fld w 0 10 = n

/-- An active force entry names partition n. -/
def isForced (s : State) (n : Nat) : Bool := (List.range 256).any (fun i => forceHits s n false i || forceHits s n true i)

/-- The forces on an image of partition n are applied to the block at an address (07 R179). -/
def applyForces (n : Nat) (img : Bool) (base size : Nat) (s : State) : State :=
  (List.range 256).foldl (fun s i =>
    let ofs := fld (s.rdA .schFrcOfsS i) 0 16
    if !forceHits s n img i || decide (ofs ≥ size) || s.poison.contains ((base + ofs) / 64) then s
    else
      let v := s.rdA .schFrcValS i
      let m : Byte := BitVec.ofNat 8 (fld v 8 8)
      s.setByte (base + ofs) ((s.byte (base + ofs) &&& ~~~ m) ||| (BitVec.ofNat 8 (fld v 0 8) &&& m))) s

/-- Force entry i swaps at partition n's boundary: its shadow names n, or it is not valid there and its active copy
does (07 R178). -/
def forceSwaps (s : State) (n i : Nat) : Bool :=
  let w := s.rd .schFrcS i
  let a := s.rdA .schFrcS i
  if w.getLsbD 31 then fld w 0 10 = n else fld a 0 10 = n

/-- The active copy of force entry i. -/
def forceEntry (s : State) (i : Nat) : Word × Word × Word :=
  (s.rdA .schFrcS i, s.rdA .schFrcOfsS i, s.rdA .schFrcValS i)

/-- A force entry swaps; where it held a force or holds one and has changed, a force is removed or added, and a record is
written (07 R179, R180; DEDUCED log 166). -/
def forceSwap (i : Nat) (s : State) : State :=
  let s1 := lampTime s (((s.swap .schFrcS i).swap .schFrcOfsS i).swap .schFrcValS i)
  if forceEntry s1 i = forceEntry s i || !((s.rdA .schFrcS i).getLsbD 31 || (s1.rdA .schFrcS i).getLsbD 31) then s1
  else record .forceSwap 0 [wd i, s1.rdA .schFrcS i, s1.rdA .schFrcOfsS i, s1.rdA .schFrcValS i] s1

/-! ### The swap at a partition's boundary (07 R161, 00 R9) -/

/-- The shadow keys of partition n's descriptor. -/
def pdKey (n k : Nat) : Bool := decide (0x6000210000 + n * 0x40 ≤ k) && decide (k < 0x6000210020 + n * 0x40)

/-- All _S registers and force entries of partition n swap. -/
def partSwap (n : Nat) (s : State) : State :=
  let s1 := s.swapAll (pdKey n) 0x10000
  let s2 := (List.range 256).foldl (fun s i => if forceSwaps s n i then forceSwap i s else s) s1
  let s3 := ethSwap n (onCans n canSwap (regionSwap n s2))
  let s4 := rackSwap n (fieldSwap n s3)
  if n = 0 then fieldGlobalSwap (ethGlobalSwap s4) else s4

/-! ### Releases (07 R166, R167, R171) -/

/-- A partition's release falls due at T, or is skipped with a record where its current job's boundary lies later. -/
def fallDue (g n T : Nat) (s : State) : State :=
  match (s.part n).bnd with
  | some b =>
    if T < b then record .skippedRelease 0 [wd n, lo32 T, hi32 T] s
    else { s with sch := { s.sch with due := s.sch.due ++ [(g, BitVec.ofNat 10 n, T)] } }
  | none => { s with sch := { s.sch with due := s.sch.due ++ [(g, BitVec.ofNat 10 n, T)] } }

/-- Partition n can be released at its fires: admitted, not held and with no swap due, or stopped with an automatic
restart due. -/
def canBeReleased (s : State) (n : Nat) : Bool :=
  match (s.part n).state with
  | .wait | .queued | .run => !(s.part n).swapDue && (n ≠ 0 || pdEn (ctlA s 0))
  | .stopped => (s.part n).autoRst
  | .off | .shed | .held => false

/-- The state of a partition that its swap admits or takes out (07 R160, R161). -/
def afterSwap (n : Nat) (s : State) : State :=
  let p := s.part n
  if !pdEn (ctlA s n) then s.setPart n { p with state := .off }
  else if p.state = .off then
    s.setPart n { p with state := if s.schEn then .wait else .held, first := true, count := 0 }
  else s

/-- OI work at a release (07 R171). -/
def setWork (n : Nat) (s : State) : State :=
  let p := s.part n
  if p.first then copyBlock (s.safeAddr n) (s.oiAddr n) (s.oiSize n) s
  else if p.lastDone then s
  else copyBlock (s.commAddr n) (s.oiAddr n) (s.oiSize n) s

/-- The job information block of a job released at T (05 R128). -/
def jibOf (s : State) (n T : Nat) : Jib :=
  let p := s.part n
  { rel := T, ddl := T + periodA s n, count := p.count
    info := wd (n + pdCls (ctlA s n) * 65536 + b2n p.first * 2 ^ 24 + b2n (isForced s n) * 2 ^ 25)
    budget := s.rdA .schPdBudgetS n
    last := if p.lastStop then wd (2 ^ 31 + p.lastEnd.toNat) else 0 }

/-- Partition n is released at T: OI work, the snapshot, the job information block, replies (07 R166, R167, R171, R175). -/
def releasePart (n T : Nat) (s : State) : State :=
  let s1 := setWork n s
  let s2 := copyBlock (s1.stagAddr n) (s1.iiAddr n) (s1.iiSize n) s1
  let s3 := ethRelease n (onCans n canRelease s2)
  let p := s3.part n
  s3.setPart n { p with state := .queued, jib := jibOf s3 n T, bnd := some (T + periodA s3 n), count := p.count + 1
                        first := false, lastStop := false, snapping := true, done := false, ended := false
                        autoRst := false, swapDue := false, svcSeq := if p.first then 1 else p.svcSeq
                        shown := p.rpl, rpl := [] }

/-- The release of a due partition: it waits, or restarts; class N is withheld on power-fail (02 R32). -/
def tryRelease (n T : Nat) (s : State) : State :=
  let p := s.part n
  if !s.schEn || s.pwr.fatal || s.pwr.state ≠ .run || p.bnd.isSome || (s.pwr.classNHeld && s.cls n = 2) then s
  else
    match p.state with
    | .wait => releasePart n T s
    | .stopped => if p.autoRst then releasePart n T s else s
    | _ => s

/-- Releases the due partitions that satisfy a predicate; those whose boundary is not decided yet stay due. -/
def releaseDue (f : Nat × Part × Nat → Bool) (s : State) : State :=
  let go := s.sch.due.filter (fun d => f d && (s.part d.2.1.toNat).bnd.isNone)
  let s1 := { s with sch := { s.sch with due := s.sch.due.filter (fun d => !(f d && (s.part d.2.1.toNat).bnd.isNone)) } }
  go.foldl (fun s d => tryRelease d.2.1.toNat d.2.2 s) s1

/-- RELEASE (07 R166). -/
def execRelease (g : Fin 16) (s : State) : Host.Outcome State Fault Refusal :=
  .next (releaseDue (fun d => d.1 = g.val) s)

/-- The copy engine of partition n's steal group takes partition m's copy before n's: both wait, m was released no later,
and comes first by class, foundry and S before N, then by number (07 R167). -/
def copiedBefore (s : State) (m n : Nat) : Bool :=
  let x := b2n (s.cls m = 2)
  let y := b2n (s.cls n = 2)
  (s.part m).snapping && homeGroup (ctlA s m) = homeGroup (ctlA s n) && decide ((s.part m).jib.rel ≤ (s.part n).jib.rel) &&
    (decide (x < y) || (x = y && decide (m < n)))

/-- SNAPSHOT_COMPLETE (07 R167, R179): held writes go to staging, input forces to II; the job is dispatchable. The engine
completes no copy while it has another to take first. -/
def snapshotComplete (n : Nat) (s : State) : State :=
  let p := s.part n
  if !p.snapping || (s.parts.map (·.1)).any (fun m => copiedBefore s m n) then s
  else
    let s1 := writeCells p.heldW (s.setPart n { p with snapping := false, heldW := [] })
    applyForces n false (s1.iiAddr n) (s1.iiSize n) s1

/-- SNAPSHOT_COMPLETE (07 R167). -/
def execSnapshotComplete (n : Part) (s : State) : Host.Outcome State Fault Refusal := .next (snapshotComplete n.toNat s)

/-! ### Dispatch and stealing (07 R168 to R170) -/

/-- Partition n's job is dispatchable and has not started. -/
def isReady (s : State) (n : Nat) : Bool := (s.part n).state = .queued && !(s.part n).snapping

/-- Executor e is partition n's home. -/
def isHome (s : State) (n e : Nat) : Bool := homeExec (ctlA s n) = e && homeAlloy (ctlA s n) = !splitRuns s (e / 3)

/-- The prewake point of group g lies after t, if its comparator is enabled. -/
def prewakeAfter (s : State) (g t : Nat) : Bool :=
  let c := groupCmp s g
  !(s.rd .timTtCtl c).getLsbD 0 || decide (t < (s.rd .timTtCmpLo c).toNat + 4294967296 * (s.rd .timTtCmpHi c).toNat)

/-- A class N job of this budget may start on alloy executor e (07 R170): the foundry and class S partitions homed there
are those that the next fires can release. -/
def nFits (s : State) (e n : Nat) : Bool :=
  (List.range 16).all (fun g => !groupOk s g ||
    !((s.parts.map (·.1)).any (fun m => canBeReleased s m && s.cls m ≠ 2 && isHome s m e && relGrp (s.rdA .schPdRelS m) = g)) ||
    prewakeAfter s g (s.now + (s.rdA .schPdBudgetS n).toNat))

/-- Executor e may start partition n's job: class N only on a split engine, and under 07 R170 on a triad. -/
def mayRun (s : State) (e n : Nat) : Bool := if execSplit s e then s.cls n = 2 else s.cls n ≠ 2 || nFits s e n

/-- Partition a comes before b in an executor's queue (07 R168). -/
def queueBefore (s : State) (a b : Nat) : Bool :=
  let k (n : Nat) : Nat × Nat × Nat := (b2n (s.cls n = 2), (s.part n).jib.ddl, (s.part n).jib.rel)
  let x := k a
  let y := k b
  decide (x.1 < y.1) || (x.1 = y.1 && (decide (x.2.1 < y.2.1) || (x.2.1 = y.2.1 &&
    (decide (x.2.2 < y.2.2) || (x.2.2 = y.2.2 && decide (a < b))))))

/-- Partition a is taken before b when stealing: foundry and S before N, earliest release, lower number (07 R169). -/
def stealBefore (s : State) (a b : Nat) : Bool :=
  let x := (b2n (s.cls a = 2), (s.part a).jib.rel)
  let y := (b2n (s.cls b = 2), (s.part b).jib.rel)
  decide (x.1 < y.1) || (x.1 = y.1 && (decide (x.2 < y.2) || (x.2 = y.2 && decide (a < b))))

/-- The first of a list by an order. -/
def firstBy (lt : Nat → Nat → Bool) : List Nat → Option Nat
  | [] => none
  | a :: l =>
    match firstBy lt l with
    | none => some a
    | some b => if lt b a then some b else some a

/-- Partitions with a job that can start. -/
def readyParts (s : State) : List Nat := (s.parts.map (·.1)).filter (isReady s)

/-- The job that executor e would start from its own queue. -/
def ownPick (s : State) (e : Nat) : Option Nat :=
  firstBy (queueBefore s) ((readyParts s).filter (fun n => isHome s n e && mayRun s e n))

/-- Partition n's home executor is idle and takes its job next (07 R168, R169). -/
def homeTakes (s : State) (n : Nat) : Bool :=
  let h := homeExec (ctlA s n)
  execIdle s h && execTakes s h && ownPick s h = some n

/-- The job that executor e would steal: never one that an idle home takes. -/
def stealPick (s : State) (e : Nat) : Option Nat :=
  firstBy (stealBefore s) ((readyParts s).filter (fun n =>
    !isHome s n e && homeGroup (ctlA s n) = e / 24 && !pdPin (ctlA s n) && mayRun s e n && !homeTakes s n))

/-- EXEC of an executor: ENG and its number (07 R163). -/
def execByte (s : State) (e : Nat) : Byte := BitVec.ofNat 8 (if execSplit s e then 128 + e else e / 3)

/-- Partition n's job starts on executor e with cleared registers, the status word of its descriptor, at its entry
address (05 R108, R109, 07 R168). -/
def startJob (n e : Nat) (stolen cont : Bool) (s : State) : State :=
  let p := s.part n
  let alloy := execAlloy s e
  let jib := { p.jib with info := p.jib.info ||| (if alloy then bit 26 else 0) }
  let s1 := s.setPart n { p with state := .run, exec := execByte s e, steal := stolen, jib := jib }
  s1.setEng e { pc := s.rdA .schPdEntryS n &&& 0xFFFFFFFC, job := some (BitVec.ofNat 10 n), cont := cont, start := s.now
                sw := (if n = 0 then bit 15 else 0) ||| (s.rdA .schPdTrapS n &&& 0xF8) }

/-- The foundry's continuous job starts on triad 0 where it is due and the triad is idle in alloy mode (07 R176, R187;
05 R128). -/
def tryCont (s : State) : State :=
  if !(s.sch.contPend && execIdle s 0 && execTakes s 0 && !execSplit s 0) then s
  else
    let p := s.part 0
    let s1 := { s with sch := { s.sch with contPend := false } }
    let s2 := s1.setPart 0 { p with jib := { rel := s.now, info := bit 24 ||| (if isForced s 0 then bit 25 else 0) }
                                    svcSeq := 1, bnd := none, done := false, ended := false, lastStop := false }
    startJob 0 0 false true s2

/-- DISPATCH (07 R168). -/
def dispatch (e : Nat) (s : State) : State :=
  if !execIdle s e || !execTakes s e then s
  else if e = 0 && s.sch.contPend then tryCont s
  else
    match ownPick s e with
    | some n => startJob n e false false s
    | none => s

/-- DISPATCH (07 R168). -/
def execDispatch (e : Exe) (s : State) : Host.Outcome State Fault Refusal := .next (dispatch e.val s)

/-- STEAL (07 R169). -/
def stealJob (e : Nat) (s : State) : State :=
  if !execIdle s e || !execTakes s e || (ownPick s e).isSome then s
  else
    match stealPick s e with
    | some n => startJob n e true false s
    | none => s

/-- STEAL (07 R169). -/
def execSteal (e : Exe) (s : State) : Host.Outcome State Fault Refusal := .next (stealJob e.val s)

/-! ### The end of a job (05 R136, 07 R163, R173) -/

/-- The partitions homed on executor e, admitted or to be restarted at their next release, look for a new home at their next
boundary (07 R184). -/
def loseHome (e : Nat) (alloy : Bool) (s : State) : State :=
  ((s.parts.map (·.1)).filter (fun n => (s.part n).state.admitted || (s.part n).autoRst || n = 0)).foldl (fun s n =>
    if homeExec (ctlA s n) = e && homeAlloy (ctlA s n) = alloy then s.setPart n { s.part n with rehome := true } else s) s

/-- Triad t enters FAULTED with no job on it (04 R91, 07 R184). -/
def faultTriad (t : Nat) (s : State) : State := loseHome (3 * t) true (triadDown t s)

/-- A retired lane takes its triad out of service at a job boundary (04 R79, R90). -/
def retireCheck (t : Nat) (s : State) : State :=
  let x := s.triad t
  match x.state, x.odd with
  | .alloy2, some l => if x.retired.getLsbD l.idx && triadIdle s t then faultTriad t s else s
  | _, _ => s

/-- The job on executor e ends with a code: its duration, LASTEND, what it held at the bridge; the executor is free and
its triad is at a job boundary. -/
def endExec (e : Nat) (ec : Nat) (s : State) : State :=
  match (s.eng e).job with
  | none => s
  | some n =>
    let d := s.now - (s.eng e).start
    let s1 := (s.setEng e {}).wr .schPdLastdur (wd d) n.toNat
    let s2 := s1.wr .schPdMaxdur (wd (max (s1.rd .schPdMaxdur n.toNat).toNat (d % 2 ^ 32))) n.toNat
    let p := s2.part n.toNat
    let s3 := s2.setPart n.toNat { p with state := if p.state = .run then .wait else p.state, ended := true
                                          lastEnd := BitVec.ofNat 8 ec }
    retireCheck (e / 3) (rackJobEnd n e ec s3)

/-- The executor that runs partition n's job. -/
def execOf (s : State) (n : Nat) : Option Nat :=
  (s.engs.find? (fun x => x.2.job = some (BitVec.ofNat 10 n))).map (·.1)

/-- The dirty bytes of executor e as its job ends without CYEND: of a frame whose exception entry may still be running only
some words are written (05 R124). -/
def cutDirty (e : Nat) (s : State) : List Host.Cell :=
  let g := s.eng e
  match g.frame with
  | some (a, h) =>
    let k := 4 * (Config.frameWords s.free).val
    if g.sw.getLsbD 14 && g.pc = h then g.dirty.filter (fun c => !(decide (a + k ≤ c.1) && decide (c.1 < a + 32)))
    else g.dirty
  | none => g.dirty

/-- A job ends without CYEND: dirty lines that have not reached memory are lost (05 R136). -/
def killExec (e ec : Nat) (s : State) : State := tryCont (endExec e ec (evictSome (cutDirty e s) s.spend))

/-- Ends partition n's job, if one runs. -/
def killJob (n ec : Nat) (s : State) : State :=
  match execOf s n with
  | some e => killExec e ec s
  | none => s

/-- A released job that is not decided yet. -/
def jobOpen (p : Partn) : Bool := p.bnd.isSome && !p.done

/-- Takes partition n out of the cycle into a state: its outputs are safe, its requests, replies and shared-engine jobs
are gone, its units stop what they do for it; a release already due stands where it is to restart (05 R131, 07 R174, R177, R185, R187, 08 R211, 12 R296, 14 R343). -/
def haltPart (n : Nat) (st : PState) (auto : Bool) (s : State) : State :=
  let p := s.part n
  let s1 := writeCells p.heldW (s.setPart n { p with
    state := st, safe := true, svc := [], rpl := [], shown := [], done := false, bnd := none, first := true, count := 0
    lastDone := false, snapping := false, heldW := [], faultGap := false, autoRst := auto
    lastStop := p.lastStop || jobOpen p, swapDue := false })
  let s2 := if auto then s1 else { s1 with sch := { s1.sch with due := s1.sch.due.filter (fun d => d.2.1.toNat ≠ n) } }
  let s3 := if st = .held then s2 else abortJobs n s2
  hartOwnerStop n (onCans n canStop s3)

/-- Partition n enters STOPPED: PDn_MISS counts a stop (07 R161, R174). -/
def stopPart (n : Nat) (auto : Bool) (s : State) : State :=
  let again := decide ((s.part n).state = .stopped)
  let s1 := haltPart n .stopped auto s
  if again then s1 else record .partStop 0 [wd n] (s1.count16 .schPdMiss 16 n)

/-- AUTORST of partition n. -/
def autoRst (s : State) (n : Nat) : Bool := (ctlA s n).getLsbD 28

/-- MISSRUN after a miss: 15 at most, and for class N one more than MISSLIM at most, also over a restart, which completes no
job (07 R163; DEDUCED log 164). -/
def missRunNext (s : State) (n : Nat) : Nat :=
  min (if s.cls n = 2 then fld (ctlA s n) 24 3 + 1 else 15) ((s.part n).missRun + 1)

/-- Partition n's job, already ended, has missed with a code; tf says it was abandoned under a triad fault (07 R173,
R174, R176). -/
def miss (n ec : Nat) (tf : Bool) (s : State) : State :=
  let s1 := ethMiss n (onCans n canMiss ((s.setBits .schStat (bit 1)).count16 .schPdMiss 0 n))
  let p := s1.part n
  let run := missRunNext s1 n
  let s2 := s1.setPart n { p with missRun := run, lastStop := true, lastDone := false, ended := true, done := false
                                  lastEnd := BitVec.ofNat 8 ec, snapping := false, heldW := []
                                  state := if p.state = .queued then .wait else p.state }
  let s3 := writeCells p.heldW (record .jobMiss 0 [wd n, wd ec] s2)
  match s3.cls n with
  | 1 => if tf then s3 else stopPart n (autoRst s3 n) s3
  | 2 => if run > fld (ctlA s3 n) 24 3 then stopPart n (autoRst s3 n) s3 else s3
  | _ => if s3.schEn then { s3 with sup := { s3.sup with misses := s3.sup.misses + 1 } } else s3

/-- BUDGET_EXPIRY (07 R173): the continuous foundry job has no budget. -/
def budgetExpiry (e : Nat) (s : State) : State :=
  match (s.eng e).job with
  | none => s
  | some n => if (s.eng e).cont then s else miss n.toNat 0xFF false (killExec e 0xFF s)

/-- BUDGET_EXPIRY (07 R173). -/
def execBudgetExpiry (e : Exe) (s : State) : Host.Outcome State Fault Refusal := .next (budgetExpiry e.val s)

/-- A job that has not reported CYEND misses, whether queued, running or never started. -/
def lateJob (n : Nat) (s : State) : State :=
  let p := s.part n
  if p.bnd.isNone || p.done || p.ended then s else miss n 0xFF false (killJob n 0xFF s)

/-- COMMIT_MARGIN_EXPIRY (07 R173). -/
def execCommitMarginExpiry (n : Part) (s : State) : Host.Outcome State Fault Refusal := .next (lateJob n.toNat s)

/-- An unhandled exception x with a frame PC is recorded and ends the job on executor e (05 R123, 07 R173). -/
def exceptionEnd (e x : Nat) (fpc : Word) (s : State) : State :=
  match (s.eng e).job with
  | none => s
  | some n =>
    let s1 := record .exception 0 [wd n.toNat, wd x, fpc] s
    miss n.toNat x false (killExec e x s1)

/-- The job on executor e is abandoned under a triad fault (04 R91, R94). -/
def abandon (e : Nat) (s : State) : State :=
  match (s.eng e).job with
  | none => s
  | some n => miss n.toNat 0xFD true (killExec e 0xFD s)

/-- CYEND on executor e (05 R136, 07 R171, R173, R176): write-back, the end of the job, and, no later than the commit
margin, OI work with its forces into the pending buffer. The continuous job goes on while the scheduler is disabled. -/
def cyendJob (e : Nat) (s : State) : State :=
  let g := s.eng e
  match g.job with
  | none => s
  | some n =>
    let s1 := writeCells g.dirty s
    if g.cont && !s1.schEn then s1.setEng e { g with dirty := [], pc := g.pc + 4 }
    else
      let s2 := endExec e 0 s1
      let p := s2.part n.toNat
      match p.bnd with
      | none => tryCont s2
      | some b =>
        if s2.now + 3000 > b then tryCont (miss n.toNat 0xFF false s2)
        else
          let s3 := ethCyend n.toNat (onCans n.toNat canCyend s2)
          let s4 := copyBlock (s3.oiAddr n.toNat) (s3.pendAddr n.toNat) (s3.oiSize n.toNat) s3
          let s5 := applyForces n.toNat true (s4.pendAddr n.toNat) (s4.oiSize n.toNat) s4
          let s6 := if n = 0 then { s5 with sup := { s5.sup with misses := 0 } } else s5
          tryCont (s6.setPart n.toNat { s6.part n.toNat with done := true, missRun := 0 })

/-! ### Homes and capacity (07 R184, R185) -/

/-- The CTL word in force for partition n: the shadow while its first swap is still to come. -/
def ctlCur (s : State) (n : Nat) : Word := if (s.part n).state = .off && n ≠ 0 then ctlS s n else ctlA s n

/-- Sum of the utilisation homed on executor e. -/
def homedUtil (s : State) (e : Nat) : Nat :=
  (((members s).filter (fun n => homeExec (ctlCur s n) = e)).map (util s)).sum

/-- CTL with its home replaced by executor e. -/
def withHome (s : State) (w : Word) (e : Nat) : Word :=
  if splitRuns s (e / 3) then fset w 8 8 (128 + e) else fset w 8 8 (e / 3)

/-- In-service executors of a permitted kind in steal group g. -/
def homesIn (s : State) (w : Word) (g : Nat) : List Nat :=
  (slice (List.range 96) (24 * g) 24).filter (fun e =>
    (e % 3 = 0 && countsA s (e / 3)) || (pdCls w = 2 && countsE s e))

/-- The new home of partition n (07 R184): in its own group the executor with the least homed utilisation, else in the
group with the lowest image sum that stays within its limit. -/
def newHome (s : State) (n : Nat) : Option Nat :=
  let w := ctlA s n
  let pick (g : Nat) : Option Nat := firstBy (fun a b =>
    decide (homedUtil s a < homedUtil s b) || (homedUtil s a = homedUtil s b && decide (a < b))) (homesIn s w g)
  match pick (homeGroup w) with
  | some e => some e
  | none =>
    let gs := (List.range 4).filter (fun g => !(homesIn s w g).isEmpty && decide (useImg s g + imgBytes s n ≤ 131072))
    match firstBy (fun a b => decide (useImg s a < useImg s b) || (useImg s a = useImg s b && decide (a < b))) gs with
    | some g => pick g
    | none => none

/-- Partition n's job, released and not ended yet, ends by the scheduler: LASTEND FEh (07 R163). -/
def schedEnd (n : Nat) (s : State) : State :=
  let p := s.part n
  if (execOf s n).isSome || (jobOpen p && !p.ended) then
    let s1 := killJob n 0xFE s
    s1.setPart n { s1.part n with lastEnd := 0xFE }
  else s

/-- Partition n is shed (07 R185). -/
def shedPart (n : Nat) (s : State) : State :=
  record .shed 0 [wd n] ((haltPart n .shed false (schedEnd n s)).setBits .schStat (bit 2))

/-- Partition n has lost its home's executor: a new home, recorded, or it is shed (07 R184). -/
def rehome (n : Nat) (s : State) : State :=
  let w := ctlA s n
  let s0 := s.setPart n { s.part n with rehome := false }
  if homeIn s w then s0
  else
    match newHome s0 n with
    | some e => record .rehome 0 [wd n, wd e] ((s0.setPart n { s0.part n with moved := true }).wrA .schPdCtlS (withHome s0 w e) n)
    | none => if n = 0 then s0 else shedPart n s0

/-- RANK of partition n. -/
def rankOf (s : State) (n : Nat) : Nat := fld (ctlCur s n) 16 8

/-- The partition to shed next among those that satisfy a predicate: lowest rank, then highest admission number. -/
def shedPick (s : State) (f : Nat → Bool) : Option Nat :=
  firstBy (fun a b => decide (rankOf s a < rankOf s b) ||
    (rankOf s a = rankOf s b && decide ((s.rd .schPdAdm a).toNat > (s.rd .schPdAdm b).toNat)))
    ((members s).filter (fun n => n ≠ 0 && f n))

/-- Sheds until a check passes, at most k times. -/
def shedUntil (ok : State → Bool) (f : State → Nat → Bool) : Nat → State → State
  | 0, s => s
  | k + 1, s =>
    if ok s then s
    else
      match shedPick s (f s) with
      | some n => shedUntil ok f k (shedPart n s)
      | none => s

/-- SHEDDING (07 R185): class S while check 1 fails, then class S or N while check 2 fails. -/
def shedding (s : State) : State :=
  shedUntil check2 (fun _ _ => true) 1024 (shedUntil check1 (fun s n => pdCls (ctlS s n) = 1) 1024 s)

/-- SHEDDING (07 R185). -/
def execShedding (s : State) : Host.Outcome State Fault Refusal := .next (shedding s)

/-! ### The boundary (07 R171, R172, R174) -/

/-- Step 1 and 2 for partition n: a job that is not decided misses; a second boundary of a class S partition without a
commit under triad faults stops it. -/
def decideAt (n : Nat) (s : State) : State :=
  let s1 := lateJob n s
  let p := s1.part n
  if p.bnd.isNone || p.done || s1.cls n ≠ 1 then s1
  else if p.faultGap then stopPart n (autoRst s1 n) s1
  else s1.setPart n { p with faultGap := true }

/-- Step 3 for partition n: the committed and pending buffers swap roles. -/
def commitAt (n : Nat) (s : State) : State :=
  let p := s.part n
  if !p.done then s
  else
    let s1 := s.setPart n { p with bufY := !p.bufY, safe := false, lastDone := true, faultGap := false }
    ethCommit n (onCans n canCommit s1)

/-- Partition n's settings swap. A new home of 07 R184 stays in PDn_CTL_A while the shadow names a lost one; one that is due
is chosen now. -/
def swapHomed (n : Nat) (s : State) : State :=
  let old := ctlA s n
  let s1 := partSwap n (s.setPart n { s.part n with swapDue := false })
  let p := s1.part n
  if homeIn s1 (ctlA s1 n) then s1.setPart n { p with rehome := false, moved := false }
  else if p.moved && homeIn s1 old then s1.wrA .schPdCtlS (fset (ctlA s1 n) 8 8 (fld old 8 8)) n
  else if p.rehome then rehome n s1
  else s1

/-- Step 4 for partition n: the swap, and a new home where one is due. -/
def swapAt (n : Nat) (s : State) : State :=
  afterSwap n (swapHomed n (s.setPart n { s.part n with bnd := none, done := false }))

/-- Partition n has no boundary: OFF, STOPPED or SHED, the foundry partition not admitted yet, or restarted with its swap
still due; no release of it is due (07 R161). -/
def noBoundary (s : State) (n : Nat) : Bool :=
  let p := s.part n
  (if n = 0 then pdEn (ctlS s 0) && !pdEn (ctlA s 0) else !p.state.admitted || p.swapDue) && p.bnd.isNone &&
    !s.sch.due.any (fun d => d.2.1.toNat = n)

/-- A fire of group g with compare time c (07 R161, R165, R166): the partitions without a boundary whose shadow names g swap,
then the partitions that the count selects fall due; one that this swap admits waits for the next qualifying fire. -/
def groupFire (g c : Nat) (s : State) : State :=
  if !groupOk s g then s
  else
    let cnt := (s.rd .schRgCnt g).toNat
    let s1 := s.wr .schRgCnt (wd ((cnt + 1) % 720720)) g
    let outs := (List.range 1024).filter (fun n => relGrp (s.rd .schPdRelS n) = g && noBoundary s n)
    let s2 := outs.foldl (fun s n => afterSwap n (swapHomed n s)) s1
    let fresh (n : Nat) : Bool := outs.contains n && !pdEn (ctlA s n)
    let ns := (List.range 1024).filter (fun n =>
      canBeReleased s2 n && !fresh n && relGrp (s2.rdA .schPdRelS n) = g &&
        cnt % relDiv (s2.rdA .schPdRelS n) = relOfs (s2.rdA .schPdRelS n))
    if s.schEn then ns.foldl (fun s n => fallDue g n (c + 2000) s) s2 else s2

/-- BOUNDARY (07 R172): the partitions whose boundary is t, in the order of the steps, then the releases at t. -/
def boundary (t : Nat) (s : State) : State :=
  let ns := (s.parts.filter (fun p => p.2.bnd = some t)).map (·.1)
  let s1 := ns.foldl (fun s n => decideAt n s) s
  let s2 := ns.foldl (fun s n => commitAt n s) s1
  let s3 := ns.foldl (fun s n => swapAt n s) s2
  releaseDue (fun d => d.2.2 = t) s3

/-- BOUNDARY (07 R172). -/
def execBoundary (t : BitVec 64) (s : State) : Host.Outcome State Fault Refusal := .next (boundary t.toNat s)

/-! ### Commands to one partition (07 R177) -/

/-- STOP (07 R177). -/
def stopCmd (n : Nat) (s : State) : State :=
  if n = 0 || (s.part n).state = .off then s.reply .denied else (stopPart n false (schedEnd n s)).reply .ok

/-- RESET (02 R44, 07 R175, R177). -/
def resetCmd (n : Nat) (s : State) : State :=
  if n = 0 || (s.part n).state = .off then s.reply .denied
  else
    let s1 := stopPart n false (schedEnd n s)
    (s1.setPart n { s1.part n with resetting := true }).reply .ok

/-- RESTART (07 R177, R183): admission; the partition's settings swap at the next fire of their group (R161; DEDUCED log 98),
and it waits for its next qualifying fire. With a shadow EN of 0 it cannot be admitted: admission fails (DEDUCED log 157). -/
def restartCmd (n : Nat) (s : State) : State :=
  let p := s.part n
  if n = 0 || !(p.state = .stopped || p.state = .shed) then s.reply .denied
  else
    let s1 := s.setPart n { p with state := if s.schEn then .wait else .held, first := true, count := 0, autoRst := false
                                   swapDue := true }
    if !pdEn (ctlS s n) || !admits s1 [n] then admFail s else (admNumber n s1).reply .ok

/-- A write to SCH.PCMD (07 R177). -/
def pcmdWrite (w : Who) (v : Word) (s : State) : State :=
  asFnd w s fun s =>
    match fld v 16 3 with
    | 1 => stopCmd (fld v 0 10) s
    | 2 => restartCmd (fld v 0 10) s
    | 3 => resetCmd (fld v 0 10) s
    | _ => s.reply .denied

/-- STOP (07 R177). -/
def execStop (w : Who) (n : Part) (s : State) : Host.Outcome State Fault Refusal :=
  .next (pcmdWrite w (wd (65536 + n.toNat)) s)
/-- RESTART (07 R177). -/
def execRestart (w : Who) (n : Part) (s : State) : Host.Outcome State Fault Refusal :=
  .next (pcmdWrite w (wd (2 * 65536 + n.toNat)) s)
/-- RESET (07 R177). -/
def execReset (w : Who) (n : Part) (s : State) : Host.Outcome State Fault Refusal :=
  .next (pcmdWrite w (wd (3 * 65536 + n.toNat)) s)

/-- PARTITION_RESET_COMPLETE (02 R44, 03 R69, 07 R175): MK is cleared and the partition's comparators are disabled. -/
def partResetDone (n : Nat) (s : State) : State :=
  let p := s.part n
  if !p.resetting then s
  else
    let s1 := zeroLines (s.mkSize n / 64) (s.mkAddr n) (s.setPart n { p with resetting := false })
    (List.range 32).foldl (fun s c =>
      let o := s.rd .timTtOwn c
      if o.getLsbD 31 && fld o 0 10 = n then s.clrBits .timTtCtl (bit 0) c else s) s1

/-- PARTITION_RESET_COMPLETE (02 R44). -/
def execPartitionResetComplete (n : Part) (s : State) : Host.Outcome State Fault Refusal :=
  .next (partResetDone n.toNat s)

/-! ### Writes to descriptors, groups, force entries and FORCEIND (07 R161, R162, R165, R178, R180) -/

/-- A write to a descriptor's _S register that admission decides where it counts. A partition takes an admission number with
the EN write that admits it and with RESTART, and at no other event (DEDUCED log 156). -/
def pdPut (r : Reg) (n : Nat) (v : Word) (runs : Bool) (s : State) : State :=
  let p := s.part n
  let s1 := (if r = .schPdCtlS && fld v 8 8 ≠ fld (ctlS s n) 8 8 then s.setPart n { p with moved := false } else s).put r v n
  if runs && !admits s1 [n] then admFail s
  else
    let fresh := r = .schPdCtlS && pdEn v && !pdEn (ctlS s n) && !(s.part n).state.admitted
    (if fresh then admNumber n s1 else s1).reply .ok

/-- A write of CTL is refused: a class the partition does not accept, or another class while it is admitted (07 R162). -/
def pdCtlBad (s : State) (n : Nat) (v : Word) : Bool :=
  let c := pdCls v
  (if n = 0 then c ≠ 0 else !(c = 1 || c = 2)) || ((s.part n).state.admitted && c ≠ pdCls (ctlA s n))

/-- The register that word k of a descriptor is. -/
def pdReg (k : Nat) : Reg :=
  match k with
  | 0 => .schPdCtlS | 1 => .schPdRelS | 2 => .schPdBudgetS | 3 => .schPdEntryS | 4 => .schPdVecS | 5 => .schPdAreaS
  | 6 => .schPdSizeS | _ => .schPdTrapS

/-- A write of v to word k of partition n's descriptor runs admission: it sets EN, or changes the home, period, budget or
sizes of an admitted partition (07 R183). -/
def pdRuns (s : State) (n k : Nat) (v : Word) : Bool :=
  match k with
  | 0 => pdEn v || (isMember s n && fld v 8 8 ≠ fld (ctlS s n) 8 8)
  | 1 => isMember s n && !(relDiv v = relDiv (s.rd .schPdRelS n) && relGrp v = relGrp (s.rd .schPdRelS n))
  | 2 => isMember s n && v ≠ s.rd .schPdBudgetS n
  | 6 => isMember s n && fld v 0 24 ≠ fld (s.rd .schPdSizeS n) 0 24
  | _ => false

/-- A write to word k of partition n's descriptor (07 R161, R162, R183). PDn_ENTRY_S takes its value with bits 1:0 clear
(DEDUCED log 155). -/
def pdWrite (w : Who) (n k : Nat) (v : Word) (s : State) : State :=
  asFnd w s fun s =>
    match k with
    | 0 => if pdCtlBad s n v then s.reply .denied else pdPut .schPdCtlS n v (pdRuns s n 0 v) s
    | 1 => if relOfs v ≥ relDiv v then s.reply .denied else pdPut .schPdRelS n v (pdRuns s n 1 v) s
    | 2 => pdPut .schPdBudgetS n v (pdRuns s n 2 v) s
    | 3 => pdPut .schPdEntryS n (v &&& ~~~ 3) false s
    | 6 => pdPut .schPdSizeS n v (pdRuns s n 6 v) s
    | k => pdPut (pdReg k) n v false s

/-- DESCRIPTOR_WRITE (07 R162). -/
def execDescriptorWrite (w : Who) (n : Part) (k : Fin 8) (v : Word) (s : State) : Host.Outcome State Fault Refusal :=
  .next (pdWrite w n.toNat k.val v s)

/-- An admitted partition names release group g. -/
def groupUsed (s : State) (g : Nat) : Bool :=
  (members s).any (fun n => relGrp (s.rd .schPdRelS n) = g || ((s.part n).state.admitted && relGrp (s.rdA .schPdRelS n) = g))

/-- A write to SCH.RGg (07 R165). -/
def rgWrite (w : Who) (g : Nat) (v : Word) (s : State) : State :=
  asFnd w s fun s =>
    let c := fld v 0 5
    let o := s.rd .timTtOwn c
    let other := (List.range 16).any (fun h => h ≠ g && groupOk s h && groupCmp s h = c)
    if other then (recordDenied (whoPart w) c s).reply .denied
    else if !(o.getLsbD 31 && fld o 0 10 = 0) || groupUsed s g then s.reply .denied
    else
      let s1 := s.put .schRg v g
      (if v.getLsbD 31 && !groupOk s g then s1.wr .schRgCnt 0 g else s1).reply .ok

/-- RELEASE_GROUP_WRITE (07 R165). -/
def execReleaseGroupWrite (w : Who) (g : Fin 16) (v : Word) (s : State) : Host.Outcome State Fault Refusal :=
  .next (rgWrite w g v s)

/-- A force entry whose shadow is valid is refused (07 R178): a class S partition without the fuse, or an offset beyond
the image. -/
def forceBad (s : State) (i : Nat) : Bool :=
  let w := s.rd .schFrcS i
  let n := fld w 0 10
  w.getLsbD 31 &&
    (((pdCls (ctlS s n) = 1 || pdCls (ctlA s n) = 1) && !(s.fuse 0).getLsbD 3) ||
      decide (fld (s.rd .schFrcOfsS i) 0 16 ≥ (if w.getLsbD 30 then oiShadow s n else iiShadow s n)))

/-- A write to word k of force entry i. -/
def forceWrite (w : Who) (i k : Nat) (v : Word) (s : State) : State :=
  asFnd w s fun s =>
    let r : Reg := match k with
      | 0 => .schFrcS | 1 => .schFrcOfsS | _ => .schFrcValS
    let s1 := s.put r v i
    if forceBad s1 i then s.reply .denied else s1.reply .ok

/-- FORCE_ENTRY_WRITE (07 R178). -/
def execForceEntryWrite (w : Who) (i : BitVec 8) (k : Fin 3) (v : Word) (s : State) :
    Host.Outcome State Fault Refusal := .next (forceWrite w i.toNat k.val v s)

/-- A write to SCH.FORCEIND (07 R180): the channel must be the scheduler's. -/
def forceindWrite (w : Who) (v : Word) (s : State) : State :=
  asFnd w s fun s =>
    let o := s.rd .supPinown (96 + fld v 0 6)
    if !(o.getLsbD 31 && fld o 12 2 = 1) then (recordDenied (whoPart w) (96 + fld v 0 6) s).reply .denied
    else (s.put .schForceind v).reply .ok

/-- FORCEIND_WRITE (07 R180). -/
def execForceindWrite (w : Who) (v : Word) (s : State) : Host.Outcome State Fault Refusal := .next (forceindWrite w v s)

/-! ### The scheduler's enable (07 R176, R187) -/

/-- Partition n becomes admitted, or is released from HELD, at the enable. -/
def enablePart (n : Nat) (s : State) : State :=
  let s1 := swapHomed n s
  let p := s1.part n
  if n = 0 then s1.setPart 0 { p with state := if p.state = .run then .run else .wait, first := true, count := 0 }
  else s1.setPart n { p with state := .wait, first := true, count := 0 }

/-- SCH.CTL.EN written 1 (07 R187): admission over every partition whose shadow EN is 1. -/
def schedEnable (s : State) : State :=
  if s.schEn then s.reply .ok
  else
    let all := (List.range 1024).filter (fun n => pdEn (ctlS s n))
    let ns := all.filter (fun n => !((s.part n).state = .stopped || (s.part n).state = .shed))
    if !admitsAll s all then admFail s
    else
      let s1 := s.wr .schCtl 1
      let s2 := { s1 with sch := { s1.sch with enabledOnce := true, contPend := false },
                          sup := { s1.sup with misses := 0, kto := none } }
      let gone := (List.range 1024).filter (fun n => (s.part n).state = .held && !pdEn (ctlS s n))
      let s3 := gone.foldl (fun s n => afterSwap n (partSwap n s)) s2
      (ns.foldl (fun s n => enablePart n s) s3).reply .ok

/-- Partition n at SCH.CTL.EN written 0: its job ends, its outputs are safe; an admitted one is HELD. -/
def holdPart (n : Nat) (s : State) : State :=
  if (s.part n).state.admitted then haltPart n .held false (schedEnd n s)
  else s.setPart n { s.part n with safe := true }

/-- SCH.CTL.EN written 0. -/
def schedDisable (s : State) : State :=
  if !s.schEn then s.reply .ok
  else
    let s1 := s.wr .schCtl 0
    let s2 := ((s1.parts.map (·.1)).filter (· ≠ 0)).foldl (fun s n => holdPart n s) s1
    let s3 := { s2 with sch := { s2.sch with due := [], contPend := true },
                          sup := { s2.sup with kto := some (fld (s2.rd .supFwdg) 0 16) } }
    let p := s3.part 0
    let s4 := s3.setPart 0 { p with bnd := none, done := false, snapping := false, heldW := []
                                    state := if p.state = .run then .run else .wait }
    (tryCont (fieldStop (writeCells p.heldW s4))).reply .ok

/-- A write to SCH.CTL (07 R187). -/
def schCtlWrite (w : Who) (v : Word) (s : State) : State :=
  asFnd w s fun s => if v.getLsbD 0 then schedEnable s else schedDisable s

/-- SCHEDULER_ENABLE (07 R187). -/
def execSchedulerEnable (w : Who) (s : State) : Host.Outcome State Fault Refusal := .next (schCtlWrite w 1 s)

/-- SCHEDULER_DISABLE (07 R187): a write of 0. -/
def schedDisableCmd (w : Who) (s : State) : State := schCtlWrite w 0 s

/-- SCHEDULER_DISABLE (07 R187). -/
def execSchedulerDisable (w : Who) (s : State) : Host.Outcome State Fault Refusal := .next (schedDisableCmd w s)

/-! ### Service requests and replies (05 R129 to R132) -/

/-- Requests placed and not yet taken. -/
def svcPend (s : State) : Nat := (s.parts.map (fun p => p.2.svc.length)).sum

/-- The request placed earliest over all partitions. -/
def svcFirst (s : State) : Option (Nat × SvcReq) :=
  s.parts.foldl (fun a p =>
    match p.2.svc.head?, a with
    | none, a => a
    | some r, none => some (p.1, r)
    | some r, some b => if r.ord < b.2.ord then some (p.1, r) else some b) none

/-- Latches SVCREQ1 to SVCREQ7. -/
def latchReq (ws : List Word) (s : State) : State :=
  (List.range 7).foldl (fun s i => s.wr .schSvcreq (ws.getD i 0) (i + 1)) s

/-- A read of SVCREQ0 takes the earliest request (05 R131). -/
def takeRequest (w : Who) (s : State) : State :=
  fndRead w .schSvcreq s fun s =>
    match svcFirst s with
    | none => (latchReq [] s).answer .ok 0
    | some (n, r) =>
      let s1 := s.setPart n { s.part n with svc := (s.part n).svc.drop 1 }
      (latchReq (r.seq :: r.args) s1).answer .ok (wd (2 ^ 31 + r.num.toNat * 65536 + n))

/-- TAKE_REQUEST (05 R131). -/
def execTakeRequest (w : Who) (s : State) : Host.Outcome State Fault Refusal := .next (takeRequest w s)

/-- A write to SCH.RPLGO (05 R131). One that names a closed partition is DENIED whatever bit 0 says (DEDUCED log 154). -/
def rplgoWrite (w : Who) (v : Word) (s : State) : State :=
  asFnd w s fun s =>
    let sel := s.rd .schRplsel
    let n := fld sel 0 10
    let p := s.part n
    let closed := match p.state with
      | .off | .stopped | .shed | .held => true
      | .wait | .queued | .run => false
    if n = 0 || closed then s.reply .denied
    else if !v.getLsbD 0 then s.reply .ok
    else
      let r : Reply := { seq := s.rd .schRpl0, st := BitVec.ofNat 8 (fld (s.rd .schRpl1) 0 8)
                         words := (List.range 6).map (fun i => s.rd .schRpl i) }
      let d : Reply := { seq := 0, st := 0, words := [] }
      (s.setPart n { p with rpl := Tab.set d p.rpl (fld sel 16 2) r }).reply .ok

/-- REPLY_PUBLISH (05 R131). -/
def execReplyPublish (w : Who) (v : Word) (s : State) : Host.Outcome State Fault Refusal := .next (rplgoWrite w v s)

/-- SVC by partition n with six arguments: the status, the sequence number, the state (05 R129). -/
def svcPlace (n : Nat) (num : BitVec 12) (args : List Word) (s : State) : Status × Word × State :=
  let p := s.part n
  if n = 0 then (.denied, 0, s)
  else if p.svc.length ≥ 4 then (.full, 0, s)
  else
    let r : SvcReq := { num := num, seq := p.svcSeq, args := args, ord := s.sch.ord }
    let next := if p.svcSeq = 0xFFFFFFFF then 1 else p.svcSeq + 1
    (.ok, p.svcSeq, { s.setPart n { p with svc := p.svc ++ [r], svcSeq := next } with
      sch := { s.sch with ord := s.sch.ord + 1 } })

/-! ### Registers (05 R131, 07 R161, R163, R180, R186) -/

/-- The code of a partition state (07 R160). -/
def PState.code : PState → Nat
  | .off => 0 | .wait => 1 | .queued => 2 | .run => 3 | .stopped => 4 | .shed => 5 | .held => 6

/-- PDn_STAT (07 R163). -/
def pdStat (s : State) (n : Nat) : Word :=
  let p := s.part n
  wd (p.state.code * 2 ^ 29 + b2n (isForced s n) * 2 ^ 28 + b2n p.steal * 2 ^ 27 + p.lastEnd.toNat * 65536 +
    p.exec.toNat * 256 + p.missRun)

/-- Writes of SCH registers with rules of their own; none for the others. -/
def schWrite (w : Who) (r : Reg) (i : Nat) (v : Word) (s : State) : Option State :=
  match r with
  | .schCtl => some (schCtlWrite w v s)
  | .schPcmd => some (pcmdWrite w v s)
  | .schForceind => some (forceindWrite w v s)
  | .schRplgo => some (rplgoWrite w v s)
  | .schRg => some (rgWrite w i v s)
  | .schPdCtlS => some (pdWrite w i 0 v s)
  | .schPdRelS => some (pdWrite w i 1 v s)
  | .schPdBudgetS => some (pdWrite w i 2 v s)
  | .schPdEntryS => some (pdWrite w i 3 v s)
  | .schPdVecS => some (pdWrite w i 4 v s)
  | .schPdAreaS => some (pdWrite w i 5 v s)
  | .schPdSizeS => some (pdWrite w i 6 v s)
  | .schPdTrapS => some (pdWrite w i 7 v s)
  | .schPdMaxdur => some (asFnd w s (clearOnZero .schPdMaxdur v · i))
  | .schFrcS => some (forceWrite w i 0 v s)
  | .schFrcOfsS => some (forceWrite w i 1 v s)
  | .schFrcValS => some (forceWrite w i 2 v s)
  | _ => none

/-- Reads of SCH registers with a rule of their own; none for the others. -/
def schRead (w : Who) (r : Reg) (i : Nat) (act : Bool) (s : State) : Option State :=
  match r with
  | .schCap => some (s.answer .ok (wd (capE s * 256 + capA s)))
  | .schUses => some (s.answer .ok (wd (useS s)))
  | .schUset => some (s.answer .ok (wd (useT s)))
  | .schForcestat => some (s.answer .ok (wd (b2n (decide (forceCount s > 0)) * 2 ^ 31 + forceCount s)))
  | .schRplgo => some (fndRead w r s fun s => s.answer .ok 0)
  | .schSvcpend => some (fndRead w r s fun s => s.answer .ok (wd (svcPend s)))
  | .schSvcreq => some (if i = 0 then takeRequest w s else fndRead w r s fun s => s.answer .ok (s.rd .schSvcreq i))
  | .schRplsel => some (fndRead w r s fun s => s.answer .ok (s.rd .schRplsel))
  | .schRpl0 | .schRpl1 | .schRpl => some (fndRead w r s fun s => s.answer .ok (s.rd r i))
  | .schPdCtlS =>
    let v := if act then ctlA s i else ctlS s i
    some (s.answer .ok (if i = 0 then fset v 16 8 0xFF else v))
  | .schPdStat => some (s.answer .ok (pdStat s i))
  | _ => none

end Sys2Proof.Machine
end

