-- ==== Sys2Proof/Machine/Stolnet.lean ====
section
/-!
DEFINITION. The Stolnet controller (10): the cycle, the slot table, windows and delivery, star ports and their guardian,
ring forwarding and loop-back, joining, grants and versions.
-/

namespace Sys2Proof.Machine

/-! ### The slot table (10 R251, R252) -/

/-- A slot-table entry as numbers. -/
structure SlotE where
  start : Nat
  kind : Nat
  port : Nat
  dur : Nat
  spare : Bool
  srcii : Bool
  station : Nat
  node : Nat
  len : Nat
  part : Nat
  maxMiss : Nat
  ofs : Nat
  deriving DecidableEq, Repr

/-- An entry from its four words. -/
def slotWords (st du sr mp : Word) : SlotE :=
  { start := fld st 0 24, kind := fld du 28 4, port := fld du 24 4, dur := fld du 0 24, spare := sr.getLsbD 31
    srcii := sr.getLsbD 30, station := fld sr 24 5, node := fld sr 16 5, len := fld sr 0 13, part := fld mp 22 10
    maxMiss := fld mp 16 6, ofs := fld mp 0 16 }

/-- Entry k of the active table. -/
def stnSlot (s : State) (k : Nat) : SlotE :=
  slotWords (s.rdA .stnSlStartS k) (s.rdA .stnSlDurS k) (s.rdA .stnSlSrcS k) (s.rdA .stnSlMapS k)

/-- Entry k of the shadow table. -/
def stnSlotS (s : State) (k : Nat) : SlotE :=
  slotWords (s.rd .stnSlStartS k) (s.rd .stnSlDurS k) (s.rd .stnSlSrcS k) (s.rd .stnSlMapS k)

/-- The window is one of the ring's timeline. -/
def SlotE.ring (e : SlotE) : Bool := 1 ≤ e.kind && e.kind ≤ 4

/-- The window holds an instant of the cycle, in ns after its start. -/
def SlotE.holds (e : SlotE) (t : Nat) : Bool := e.start ≤ t && t < e.start + e.dur

/-- The index of the JOIN entry of the active table. -/
def joinSlot (s : State) : Option Nat := (List.range 4096).find? (fun k => (stnSlot s k).kind = 4)

/-- The station that the JOIN entry names as master, and the backup master (10 R266). -/
def joinMaster (s : State) : Option (Nat × Nat) := (joinSlot s).map (fun k => ((stnSlot s k).station, (stnSlot s k).node))

/-! ### Settings in force -/

/-- The controller is enabled. -/
def stnEn (s : State) : Bool := (s.rdA .stnCtlS).getLsbD 31
/-- This station's number. -/
def stnNo (s : State) : Nat := fld (s.rdA .stnCtlS) 24 5
/-- Stations in the ring. -/
def stnNst (s : State) : Nat := fld (s.rdA .stnCtlS) 16 6
/-- The cycle-start comparator. -/
def stnTt (s : State) : Nat := fld (s.rdA .stnCtlS) 8 5
/-- The cycle period. -/
def stnP (s : State) : Nat := (s.rdA .stnCycS).toNat
/-- The identifier of the table in force. -/
def stnCfg (s : State) : Nat := fld (s.rdA .stnTcfgidS) 0 16
/-- Windows run: enabled, a correct fire, the fast source (10 R244, R245). -/
def stnGoing (s : State) : Bool := stnEn s && s.stn.going
/-- The station's state: 0 disabled, 1 JOINING, 2 LIVE (10 R272). -/
def stnState (s : State) : Nat := fld (s.rd .stnRingstat) 30 2
/-- The ring version. -/
def ringVer (s : State) : Nat := fld (s.rd .stnRingstat) 24 4
/-- This station acts as master. -/
def stnActs (s : State) : Bool := (s.rd .stnRingstat).getLsbD 15
/-- The acting master. -/
def stnActing (s : State) : Nat := fld (s.rd .stnRingstat) 16 5
/-- Sets a field of RINGSTAT. -/
def setRing (lo n v : Nat) (s : State) : State := s.wr .stnRingstat (fset (s.rd .stnRingstat) lo n v)
/-- Replaces the controller's inner state. -/
def State.setStn (x : Station) (s : State) : State := { s with stn := x }

/-- Star port p can be used: enabled and its link up. -/
def starUp (s : State) (p : Nat) : Bool := (s.rdA .stnSpCtlS p).getLsbD 31 && (s.rd .stnSpStat p).getLsbD 0
/-- Star port p is excluded. -/
def starExcl (s : State) (p : Nat) : Bool := (s.rd .stnSpStat p).getLsbD 2
/-- Ring port r is looped. -/
def ringLooped (s : State) (r : Nat) : Bool := (s.rd .stnRpStat r).getLsbD 2
/-- Ring port r is isolated. -/
def ringIsol (s : State) (r : Nat) : Bool := (s.rd .stnRpStat r).getLsbD 3
/-- Ring port r receives: enabled, its link up, not isolated. -/
def ringRx (s : State) (r : Nat) : Bool :=
  (s.rdA .stnRpCtlS r).getLsbD 31 && (s.rd .stnRpStat r).getLsbD 0 && !ringIsol s r
/-- Ring port r sends: enabled, not looped, its transmitter not disabled. -/
def ringTx (s : State) (r : Nat) : Bool :=
  (s.rdA .stnRpCtlS r).getLsbD 31 && !ringLooped s r && !s.stn.txOff.getLsbD (16 + r)

/-- A cycle number's bits 31:0 have been reached by the current cycle. -/
def cycReached (s : State) (a : Nat) : Bool := (s.stn.cyc + 4294967296 - a % 4294967296) % 4294967296 < 2147483648

/-- The header and payload bytes that the CRC of a frame covers (10 R246, R247). -/
def stnBytes (f : StnFrame) : List Byte :=
  [f.ver.zeroExtend 8 <<< 4, f.typ] ++ beBytes 2 f.len.toNat ++ beBytes 2 (f.slot.toNat * 16) ++
    [BitVec.ofNat 8 (f.station.toNat * 8), BitVec.ofNat 8 (f.node.toNat * 8)] ++ beBytes 4 f.cycle.toNat ++
    beBytes 2 f.cfgid.toNat ++ [f.hops, BitVec.ofNat 8 (b2n f.lb * 128)] ++ f.payload

/-- The CRC that a frame carries on the wire: right, or its complement where the CRC is to be seen as wrong downstream
(10 R249). -/
def stnCrc (f : StnFrame) : Word :=
  let c := crc32 (stnBytes f)
  if f.crcOk then c else ~~~ c

/-- The bytes of a frame on the wire: preamble, start-of-frame delimiter, header, payload, and the CRC, its least significant
byte first (10 R246, R249). -/
def stnWire (f : StnFrame) : List Byte :=
  List.replicate 7 0x55 ++ [0xD5] ++ stnBytes f ++ leBytes 4 (stnCrc f).toNat

/-! ### Loop-back, isolation and exclusion (10 R259 to R264, R271) -/

/-- The station loops back at ring port r and forces its PHY down (10 R263). -/
def loopBack (r : Nat) (s : State) : State :=
  let s1 := (s.clrBits .stnRpStat (bit 0 ||| bit 1) r).setStn { s.stn with upSince := Tab.set none s.stn.upSince r none }
  if ringLooped s r then s1
  else
    let s2 := ((s1.setBits .stnRpStat (bit 2) r).count16 .stnRpCnt 16 r).setBits .stnStat (bit 0)
    alarmRec .stn .ringLoop [wd r] s2

/-- The events of the last 16 cycles. -/
def recent16 (c : Nat) (l : List Nat) : List Nat := l.filter (fun x => c < x + 16)

/-- A ring violation on port r: the third in 16 cycles isolates it (10 R262). -/
def ringViolation (r : Nat) (s : State) : State :=
  let l := s.stn.cyc :: recent16 s.stn.cyc (Tab.get [] s.stn.ringV r)
  let s1 := (s.setStn { s.stn with ringV := Tab.set [] s.stn.ringV r l }).count16 .stnRpCnt 0 r
  let s2 := s1.count .stnCnt 1 5
  if l.length < 3 then s2
  else
    let s3 := (s2.setBits .stnRpStat (bit 3) r).setBits .stnStat (bit 1)
    loopBack r (alarmRec .stn .ringIsolated [wd r] s3)

/-- A star violation on port p: the frame is cut, with an alarm and a record; the third in 16 cycles marks the port for
exclusion at the end of this cycle (10 R259, R260, R271). -/
def starViolation (p : Nat) (s : State) : State :=
  let l := s.stn.cyc :: recent16 s.stn.cyc (Tab.get [] s.stn.starV p)
  let x := if l.length ≥ 3 then s.stn.starX ||| BitVec.ofNat 16 (1 <<< p) else s.stn.starX
  alarmRec .stn .starCut [wd p] ((s.setStn { s.stn with starV := Tab.set [] s.stn.starV p l, starX := x }).count16 .stnSpCnt 0 p)

/-- A marked star port is excluded (10 R260). -/
def starExclude (p : Nat) (s : State) : State :=
  if !s.stn.starX.getLsbD p then s
  else
    let s1 := s.setStn { s.stn with starX := s.stn.starX &&& ~~~ BitVec.ofNat 16 (1 <<< p) }
    let s2 := ((s1.setBits .stnSpStat (bit 2) p).count16 .stnSpCnt 16 p).setBits .stnStat (bit 2)
    alarmRec .stn .starExcluded [wd p] s2

/-- STAR_PORT_EXCLUSION (10 R260). -/
def execStarPortExclusion (p : Fin 16) (s : State) : Host.Outcome State Fault Refusal := .next (starExclude p s)

/-- STN.SPs_CMD READMIT (10 R260). -/
def starReadmit (w : Who) (p : Nat) (s : State) : State :=
  asFnd w s fun s =>
    ((s.setStn { s.stn with starV := Tab.set [] s.stn.starV p []
                            starX := s.stn.starX &&& ~~~ BitVec.ofNat 16 (1 <<< p) }).clrBits .stnSpStat (bit 2) p).reply .ok

/-- STAR_READMIT (10 R260). -/
def execStarReadmit (w : Who) (p : Fin 16) (s : State) : Host.Outcome State Fault Refusal := .next (starReadmit w p s)

/-- STN.RPp_CMD READMIT (10 R262). -/
def ringReadmit (w : Who) (r : Nat) (s : State) : State :=
  asFnd w s fun s => (s.clrBits .stnRpStat (bit 3) r).reply .ok

/-- RING_READMIT (10 R262). -/
def execRingReadmit (w : Who) (r : Fin 2) (s : State) : Host.Outcome State Fault Refusal := .next (ringReadmit w r s)

/-- LOSS_OF_SIGNAL (10 R263): the station loops back at an enabled port. -/
def lossOfSignal (r : Fin 2) (s : State) : State :=
  if (s.rdA .stnRpCtlS r).getLsbD 31 then loopBack r s else s.clrBits .stnRpStat (bit 0) r

/-- LOSS_OF_SIGNAL (10 R263). -/
def execLossOfSignal (r : Fin 2) (s : State) : Host.Outcome State Fault Refusal := .next (lossOfSignal r s)

/-- STAR_LINK_LOSS (10 R271). -/
def starLinkLoss (p : Fin 16) (s : State) : State :=
  let s1 := s.clrBits .stnSpStat (bit 0) p
  if (s.rd .stnSpStat p).getLsbD 0 then alarmRec .stn .starLink [wd p] s1 else s1

/-- STAR_LINK_LOSS (10 R271). -/
def execStarLinkLoss (p : Fin 16) (s : State) : Host.Outcome State Fault Refusal := .next (starLinkLoss p s)

/-- STOLNET_LINK_UP (10 R264, R274): in Run and not under XA fallback (02 R35, 03 R55). -/
def stolnetLinkUp (p : StnPort) (s : State) : State :=
  if !netsUp s then s else
  match p with
  | .star k => s.setBits .stnSpStat (bit 0) k
  | .ring r =>
    if ringLooped s r then
      (s.setBits .stnRpStat (bit 0 ||| bit 1) r).setStn
        { s.stn with upSince := Tab.set none s.stn.upSince r (some s.stn.cyc) }
    else s.setBits .stnRpStat (bit 0) r

/-- STOLNET_LINK_UP (10 R264). -/
def execStolnetLinkUp (p : StnPort) (s : State) : Host.Outcome State Fault Refusal := .next (stolnetLinkUp p s)

/-- LOOP_END (10 R264): the link has stayed up for 16 cycles, the port is not isolated and can send. -/
def loopEnd (r : Fin 2) (s : State) : State :=
  match Tab.get none s.stn.upSince r with
  | none => s
  | some c =>
    if !ringLooped s r || ringIsol s r || s.stn.txOff.getLsbD (16 + r) || decide (s.stn.cyc < c + 16) then s
    else (s.clrBits .stnRpStat (bit 2 ||| bit 1) r).setStn { s.stn with upSince := Tab.set none s.stn.upSince r none }

/-- LOOP_END (10 R264). -/
def execLoopEnd (r : Fin 2) (s : State) : Host.Outcome State Fault Refusal := .next (loopEnd r s)

/-! ### Sending (10 R256, R258, R263, R271) -/

/-- A frame of this station. -/
def ownStn (s : State) (ver typ slot node : Nat) (payload : List Byte) : StnFrame :=
  { ver := BitVec.ofNat 4 ver, typ := BitVec.ofNat 8 typ, len := BitVec.ofNat 13 payload.length
    slot := BitVec.ofNat 12 slot, station := BitVec.ofNat 5 (stnNo s), node := BitVec.ofNat 5 node
    cycle := wd s.stn.cyc, cfgid := BitVec.ofNat 16 (stnCfg s), hops := 64, lb := false, payload := payload
    crcOk := true, late := false }

/-- The ring port a frame leaves by that would leave by port r, and whether it has been looped back; none where both
ports are out (10 R263). -/
def ringOut (s : State) (r : Fin 2) : Option (Fin 2 × Bool) :=
  if ringTx s r then some (r, false) else if ringTx s (1 - r) then some (1 - r, true) else none

/-- A transmission cut at its window end: TXCUT; the third in 16 cycles disables the transmitter, and a ring port then
loops (10 R271). -/
def txCut (port : Nat) (s : State) : State :=
  let l := s.stn.cyc :: recent16 s.stn.cyc (Tab.get [] s.stn.cutV port)
  let s1 := (s.setStn { s.stn with cutV := Tab.set [] s.stn.cutV port l }).setBits .stnStat (bit 6)
  let s2 := alarmRec .stn .stnTxCut [wd port] s1
  if l.length < 3 then s2
  else
    let s3 := s2.setStn { s2.stn with txOff := s2.stn.txOff ||| BitVec.ofNat 18 (1 <<< port) }
    if port ≥ 16 then loopBack (port - 16) s3 else s3

/-- Sends a frame of this station on the ring: out of port A, or looped back (10 R242, R263). -/
def ringSend (f : StnFrame) (s : State) : State :=
  match ringOut s 0 with
  | some (r, lb) => s.setStn { s.stn with tx := [(.ring r, { f with lb := lb })] }
  | none => s

/-- Time on the wire of a frame with its preamble, in ns: 80 ns a byte on a star port, 8 ns on the ring. -/
def wireNs (ring : Bool) (f : StnFrame) : Nat := (stnWire f).length * (if ring then 8 else 80)

/-- The source block of a transmit window (10 R256). -/
def txSource (s : State) (e : SlotE) : Nat :=
  match (s.part e.part).state with
  | .off | .stopped | .shed | .held => s.safeAddr e.part
  | .wait | .queued | .run => if e.srcii then s.stagAddr e.part else s.commAddr e.part

/-- The entry is a transmit window of this station. -/
def SlotE.sends (e : SlotE) : Bool := e.kind = 1 || e.kind = 5

/-- A read 4 us before its window belongs to a window of the next cycle (10 R256). -/
def readsNext (s : State) : Bool := decide (stnP s ≤ s.now % stnP s + 4000)

/-- The armed table comes into force in a cycle (10 R253). -/
def swapsIn (s : State) (c : Nat) : Bool := (s.rd .stnTstat).getLsbD 31 && s.rd .stnTswap = wd c

/-- The entry whose payload a read is for: that of the table in force in its window's cycle. -/
def readSlot (s : State) (k : Nat) : SlotE :=
  if readsNext s && swapsIn s (s.stn.cyc + 1) then stnSlotS s k else stnSlot s k

/-- PAYLOAD_READ (10 R256). -/
def payloadRead (k : BitVec 12) (s : State) : State :=
  let e := readSlot s k.toNat
  if !stnEn s || !e.sends then s
  else
    let r := memRead (txSource s e + e.ofs) e.len s
    r.2.2.setStn { r.2.2.stn with
      pay := Tab.set none r.2.2.stn.pay (k.toNat + (if readsNext s then 4096 else 0)) (if r.1 = .ok then some r.2.1 else none) }

/-- PAYLOAD_READ (10 R256). -/
def execPayloadRead (k : BitVec 12) (s : State) : Host.Outcome State Fault Refusal := .next (payloadRead k s)

/-- The station may send in entry k: windows run and it is LIVE, since a JOINING station sends only in the join window; a spare
ring window needs its grant (10 R267; DEDUCED log 42). -/
def maySend (s : State) (k : Nat) : Bool :=
  let e := stnSlot s k
  stnGoing s && decide (stnState s = 2) && (if e.kind = 1 then !e.spare || s.stn.mine.contains k
    else starUp s e.port && !s.stn.txOff.getLsbD e.port)

/-- TRANSMIT_WINDOW (10 R256, R271): the frame, or silence with TXMISS. The payload read for the window is gone after it,
sent or not. -/
def transmitWindow (k : BitVec 12) (s : State) : State :=
  let e := stnSlot s k.toNat
  let s1 := s.setStn { s.stn with pay := Tab.set none s.stn.pay k.toNat none }
  if !e.sends then s
  else if !maySend s k.toNat then s1
  else
    match Tab.get none s.stn.pay k.toNat with
    | none => s1.count .stnCnt 1 6
    | some bs =>
      let ring := decide (e.kind = 1)
      let f := ownStn s (if ring then ringVer s else fld (s.rdA .stnSpCtlS e.port) 0 4) 1 k.toNat e.node bs
      let cut := decide (e.dur < wireNs ring f)
      let g := { f with crcOk := !cut }
      if ring then
        match ringOut s 0 with
        | none => s1
        | some (r, _) => if cut then txCut (16 + r.val) (ringSend g s1) else ringSend g s1
      else
        let s2 := s1.setStn { s1.stn with tx := [(.star ⟨e.port % 16, by omega⟩, g)] }
        if cut then txCut e.port s2 else s2

/-- TRANSMIT_WINDOW (10 R256). -/
def execTransmitWindow (k : BitVec 12) (s : State) : Host.Outcome State Fault Refusal := .next (transmitWindow k s)

/-- The beacons of a cycle start, which a JOINING station does not send (10 R248, R258, R267). -/
def beacons (s : State) : List (StnPort × StnFrame) :=
  (List.range 16).filterMap fun p =>
    if stnState s = 2 && starUp s p && !s.stn.txOff.getLsbD p then
      some (.star ⟨p % 16, by omega⟩, ownStn s (fld (s.rdA .stnSpCtlS p) 0 4) 2 0 p (beBytes 8 (s.stn.cyc * stnP s)))
    else none

/-! ### Joining, grants and versions (10 R266 to R270) -/

/-- The station becomes LIVE. -/
def goLive (s : State) : State := setRing 30 2 2 s

/-- The station acts as master: LIVE at once, with its own VERMAX as ring version if it was not LIVE (10 R266, R267). -/
def actMaster (s : State) : State :=
  let s1 := setRing 15 1 1 (setRing 16 5 (stnNo s) s)
  let s2 := if stnState s = 2 then s1 else goLive (setRing 24 4 1 s1)
  let me : Live := { station := stnNo s, devid := devid s, vmin := 1, vmax := 1 }
  s2.setStn { s2.stn with live := me :: s2.stn.live.filter (fun l => l.station ≠ stnNo s), asked := none
                          actA := none, seenA := s2.stn.cyc, rejoin := false }

/-- A JOINING station that the JOIN entry names as master acts as master (10 R266, R267). -/
def masterCheck (s : State) : State :=
  match joinMaster s with
  | some (m, _) => if stnEn s && m = stnNo s && !stnActs s then actMaster s else s
  | none => s

/-- The payload of a JOIN (10 R268). -/
def joinPayload (s : State) : List Byte :=
  let want := ((List.range 4096).filter (fun k => (stnSlot s k).kind = 1 && (stnSlot s k).spare)).take 32
  padTo 0 80 (beBytes 6 (devid s) ++ [BitVec.ofNat 8 (stnNo s), 0x11] ++ beBytes 2 (stnCfg s) ++
    [BitVec.ofNat 8 want.length, 0, 0, 0, 0, 0] ++ want.flatMap (beBytes 2))

/-- The station asks to join: JOINING, or LIVE without its spare entries (10 R267, R270). -/
def mayJoin (s : State) : Bool :=
  stnGoing s && !stnActs s && (stnState s = 1 || s.stn.rejoin) && s.stn.cyc % 2 = 0 && s.stn.actA.isNone

/-- The station is forwarding a frame as the window of entry k opens (10 R267). -/
def forwardsAt (s : State) (k : Nat) : Bool := s.stn.fwd.isSome && decide ((stnSlot s k).start < s.stn.fwdEnd)

/-- Sends JOIN in the join window, but not beside a frame that the station is forwarding. -/
def sendJoin (s : State) : State :=
  match joinSlot s with
  | none => s
  | some k =>
    if forwardsAt s k then s
    else
      let t := ringSend (ownStn s 1 3 k 0x1F (joinPayload s)) s
      t.setStn { t.stn with asked := some s.stn.cyc, tries := s.stn.tries + 1 }

/-- JOIN (10 R267). -/
def stnJoin (s : State) : State := if mayJoin s && s.stn.asked.isNone then sendJoin s else s

/-- JOIN (10 R267). -/
def execJoin (s : State) : Host.Outcome State Fault Refusal := .next (stnJoin s)

/-- The even cycles that the station waits after its last JOIN. -/
def joinBackoff (s : State) : Nat := (Config.joinWait (devid s) s.stn.tries).val

/-- JOIN_RETRY (10 R267): no grant came in cycle e + 1, and the even cycles of the backoff from e + 2 on have passed. -/
def stnJoinRetry (s : State) : State :=
  match s.stn.asked with
  | some e => if mayJoin s && decide (e + 2 + 2 * joinBackoff s ≤ s.stn.cyc) then sendJoin s else s
  | none => s

/-- JOIN_RETRY (10 R267). -/
def execJoinRetry (s : State) : Host.Outcome State Fault Refusal := .next (stnJoinRetry s)

/-- The status that a joiner gets, with the spare entries granted to it (10 R267; the order of the checks is the
model's, DESIGN CHOICE log 43). -/
def judgeJoin (s : State) (j : JoinReq) : Status × List Nat :=
  let others := s.stn.live.filter (fun l => l.station ≠ j.station)
  let vmin := others.foldl (fun a l => max a l.vmin) j.vmin
  let vmax := others.foldl (fun a l => min a l.vmax) j.vmax
  let got := j.want.filter (fun k => (stnSlot s k).spare &&
    !s.stn.grants.any (fun g => g.entry = k && g.station ≠ j.station))
  if j.cfgid ≠ stnCfg s then (.mismatch, [])
  else if vmin > vmax then (.version, [])
  else if s.stn.live.any (fun l => l.station = j.station && l.devid ≠ j.devid) then (.denied, [])
  else (if got.length = j.want.length then .ok else .full, got)

/-- The highest version common to the joiner and every LIVE station (10 R269). -/
def bestVer (s : State) (j : JoinReq) : Nat :=
  (s.stn.live.filter (fun l => l.station ≠ j.station)).foldl (fun a l => min a l.vmax) j.vmax

/-- The payload of a GRANT (10 R268). -/
def grantPayload (dev station st ver a : Nat) (got : List Nat) : List Byte :=
  padTo 0 80 (beBytes 6 dev ++ [BitVec.ofNat 8 station, BitVec.ofNat 8 st] ++ beBytes 2 ver ++
    [BitVec.ofNat 8 got.length, 0] ++ beBytes 4 (a % 4294967296) ++ got.flatMap (beBytes 2))

/-- What a grant to a station tells everyone: it will be LIVE and holds these spare entries (10 R267, R270). -/
def noteGrant (l : Live) (got : List Nat) (s : State) : State :=
  s.setStn { s.stn with live := l :: s.stn.live.filter (fun x => x.station ≠ l.station)
                        grants := s.stn.grants.filter (fun g => g.station ≠ l.station) ++
                          got.map (fun k => { entry := k, station := l.station, seen := s.stn.cyc }) }

/-- GRANT (10 R267): the acting master answers the first valid JOIN of the even cycle, or announces the version. -/
def stnGrant (s : State) : State :=
  if !(stnGoing s && stnActs s && s.stn.cyc % 2 = 1) then s
  else
    match joinSlot s with
    | none => s
    | some k =>
      let a := s.stn.cyc + 8
      let s1 := (s.setStn { s.stn with join := none }).setBits .stnStat (bit 4)
      match s.stn.join with
      | none =>
        let v := s.stn.verPend.getD (ringVer s, s.stn.cyc)
        ringSend (ownStn s 1 4 k 0x1F (grantPayload 0 0xFF 0 v.1 v.2 [])) s1
      | some j =>
        let r := judgeJoin s j
        let good := r.1 = .ok || r.1 = .full
        let v := if good then bestVer s j else ringVer s
        let s2 := ringSend (ownStn s 1 4 k 0x1F (grantPayload j.devid j.station r.1.code v a r.2)) s1
        if !good then s2
        else
          let s3 := noteGrant { station := j.station, devid := j.devid, vmin := j.vmin, vmax := j.vmax } r.2 s2
          s3.setStn { s3.stn with verPend := if v = ringVer s then s3.stn.verPend else some (v, a % 4294967296) }

/-- GRANT (10 R267). -/
def execGrant (s : State) : Host.Outcome State Fault Refusal := .next (stnGrant s)

/-- A version takes effect: VERCHG on a change; a station whose range 1 to 1 excludes it rejoins (10 R269). -/
def takeVersion (v : Nat) (s : State) : State :=
  let s1 := if v = ringVer s then s else (setRing 24 4 v s).setBits .stnStat (bit 3)
  if v ≠ 1 && stnState s = 2 then
    let s2 := setRing 15 1 0 (setRing 30 2 1 s1)
    s2.setStn { s2.stn with mine := [], asked := none, actA := none }
  else s1

/-- JOIN_ACTIVATION (10 R267): cycle A of a grant, of a version change, or of both. -/
def joinActivation (s : State) : State :=
  if !stnGoing s then s
  else
    let s1 := match s.stn.verPend with
      | some (v, a) => if cycReached s a then takeVersion v (s.setStn { s.stn with verPend := none }) else s
      | none => s
    match s1.stn.actA with
    | some a =>
      if cycReached s1 a && ringVer s1 = 1 then
        let s2 := goLive s1
        s2.setStn { s2.stn with actA := none, mine := s2.stn.minePend, minePend := [], rejoin := false }
      else s1
    | none => s1

/-- JOIN_ACTIVATION (10 R267). -/
def execJoinActivation (s : State) : Host.Outcome State Fault Refusal := .next (joinActivation s)

/-- BACKUP_MASTER_TAKEOVER (10 R266): 16 cycles without a valid frame from the master. -/
def backupTakeover (s : State) : State :=
  match joinMaster s with
  | some (_, b) =>
    if stnGoing s && b = stnNo s && !stnActs s && decide (s.stn.seenM + 16 ≤ s.stn.cyc) then actMaster s else s
  | none => s

/-- BACKUP_MASTER_TAKEOVER (10 R266). -/
def execBackupMasterTakeover (s : State) : Host.Outcome State Fault Refusal := .next (backupTakeover s)

/-- SPARE_GRANT_RELEASE (10 R270): 64 cycles without a valid frame from the grantee. -/
def spareRelease (k : BitVec 12) (s : State) : State :=
  if !(stnGoing s && stnActs s) then s
  else s.setStn { s.stn with grants := s.stn.grants.filter (fun g =>
    !(g.entry = k.toNat && decide (g.seen + 64 ≤ s.stn.cyc))) }

/-- SPARE_GRANT_RELEASE (10 R270). -/
def execSpareGrantRelease (k : BitVec 12) (s : State) : Host.Outcome State Fault Refusal := .next (spareRelease k s)

/-- MASTER_SILENCE (10 R270): 64 cycles without a valid frame from any acting master. -/
def masterSilence (s : State) : State :=
  if stnGoing s && !stnActs s && stnState s = 2 && decide (s.stn.seenA + 64 ≤ s.stn.cyc) then
    s.setStn { s.stn with mine := [], rejoin := true, asked := none }
  else s

/-- MASTER_SILENCE (10 R270). -/
def execMasterSilence (s : State) : Host.Outcome State Fault Refusal := .next (masterSilence s)

/-- A JOIN received by the acting master in an even cycle; the first one counts (10 R267). -/
def hearJoin (f : StnFrame) (s : State) : State :=
  let b := f.payload
  let n := (b.getD 10 0).toNat
  let j : JoinReq := { station := (b.getD 6 0).toNat % 32, devid := beNat (slice b 0 6)
                       vmax := (b.getD 7 0).toNat / 16, vmin := (b.getD 7 0).toNat % 16, cfgid := beNat (slice b 8 2)
                       want := (List.range (min n 32)).map (fun i => beNat (slice b (16 + 2 * i) 2)) }
  if stnActs s && s.stn.cyc % 2 = 0 && s.stn.join.isNone then s.setStn { s.stn with join := some j } else s

/-- A GRANT received (10 R267, R268); STAT.JOIN shows any that is sent or received (R272). -/
def hearGrant (f : StnFrame) (s : State) : State :=
  let b := f.payload
  let dev := beNat (slice b 0 6)
  let sta := (b.getD 6 0).toNat
  let st := (b.getD 7 0).toNat
  let ver := beNat (slice b 8 2) % 16
  let a := beNat (slice b 12 4)
  let got := (List.range (min (b.getD 10 0).toNat 32)).map (fun i => beNat (slice b (16 + 2 * i) 2))
  let s0 := (setRing 16 5 f.station.toNat s).setBits .stnStat (bit 4)
  let s1 := s0.setStn { s0.stn with verPend := if ver = ringVer s0 then s0.stn.verPend else some (ver, a)
                                    seenA := s0.stn.cyc }
  if sta = 0xFF then
    if cycReached s1 a then takeVersion ver (s1.setStn { s1.stn with verPend := none }) else s1
  else
    let good := st = Status.ok.code || st = Status.full.code
    let s2 := if good then noteGrant { station := sta, devid := dev, vmin := ver, vmax := ver } got s1 else s1
    if sta = stnNo s && dev = devid s && s.stn.asked.isSome then
      let s3 := setRing 0 8 st s2
      if good then s3.setStn { s3.stn with actA := some a, minePend := got, asked := none, tries := 0 } else s3
    else s2

/-! ### Receiving (10 R250, R255, R259, R261, R262) -/

/-- The receive checks of 10 R250 in their order. -/
def rxCheck (s : State) (k ver : Nat) (f : StnFrame) : Status :=
  let e := stnSlot s k
  if f.late then .cutoff
  else if !f.crcOk then .crc
  else if f.ver = 0 ∨ f.ver.toNat ≠ ver then .version
  else if f.cfgid.toNat ≠ stnCfg s then .mismatch
  else if f.cycle ≠ wd s.stn.cyc then .stale
  else if f.typ ≠ 1 ∨ f.slot.toNat ≠ k ∨ (!e.spare ∧ (f.station.toNat ≠ e.station ∨ f.node.toNat ≠ e.node)) then .denied
  else if f.len.toNat ≠ e.len then .size
  else .ok

/-- The counter of a frame's outcome; LOST counts what no other counter names (DEDUCED log 44). -/
def rxCounter (st : Status) : Nat :=
  match st with
  | .ok => 0 | .crc => 1 | .version => 2 | .mismatch => 3 | .stale => 4 | _ => 7

/-- A frame meets the receive window of entry k: the first that passes is delivered, the first that fails gives the
status meanwhile. -/
def rxWindow (k ver : Nat) (f : StnFrame) (s : State) : State :=
  let cur := Tab.get (.timeout, none) s.stn.rx k
  if cur.2.isSome then s
  else
    let st := rxCheck s k ver f
    let v := if st = .ok then (st, some f) else if cur.1 = .timeout then (st, none) else cur
    (s.setStn { s.stn with rx := Tab.set (.timeout, none) s.stn.rx k v }).count .stnCnt 1 (rxCounter st)

/-- A frame that tells who is there: complete, right CRC, a version, this table, this cycle. -/
def stnValid (s : State) (f : StnFrame) : Bool :=
  !f.late && f.crcOk && f.ver ≠ 0 && f.cfgid.toNat = stnCfg s && f.cycle = wd s.stn.cyc

/-- A valid frame of another station: when the master, the acting master and grantees were last heard; a backup stops
acting at the first from the master (10 R266, R270). -/
def hearStation (f : StnFrame) (s : State) : State :=
  if !stnValid s f then s
  else
    let n := f.station.toNat
    let m := (joinMaster s).map (·.1) = some n
    let x := { s.stn with seenM := if m then s.stn.cyc else s.stn.seenM
                          seenA := if stnActing s = n then s.stn.cyc else s.stn.seenA
                          grants := s.stn.grants.map (fun g => if g.station = n then { g with seen := s.stn.cyc } else g) }
    let s1 := s.setStn x
    if m && stnActs s && n ≠ stnNo s then setRing 16 5 n (setRing 15 1 0 s1) else s1

/-- JOIN and GRANT frames in the join window: complete, right CRC, this cycle, 80 bytes of version 1 (10 R268). -/
def hearJoinWindow (f : StnFrame) (s : State) : State :=
  if f.late || !f.crcOk || f.cycle ≠ wd s.stn.cyc || f.len ≠ 80 || f.ver ≠ 1 then s
  else if f.typ = 3 then hearJoin f s
  else if f.typ = 4 then hearGrant f s
  else s

/-- A frame of version 1 whose type is none of the four (10 R248). -/
def unknownType (f : StnFrame) : Bool := !f.late && f.crcOk && f.ver = 1 && !(1 ≤ f.typ.toNat && f.typ.toNat ≤ 4)

/-- This station's frame has come back to be stripped (10 R261). -/
def stripsOwn (s : State) (f : StnFrame) : Bool := !f.lb || f.hops.toNat ≤ 65 - 2 * (stnNst s - 1)

/-- Forwards a frame whose delimiter arrived on ring port r at t ns of the cycle (10 R261, R263). -/
def ringForward (r : Fin 2) (f : StnFrame) (t : Nat) (s : State) : State :=
  if f.hops = 0 then s
  else
    match ringOut s (1 - r) with
    | none => s
    | some (q, lb) =>
      let g := { f with hops := f.hops - 1, lb := f.lb || lb, crcOk := f.crcOk && !f.late }
      s.setStn { s.stn with fwd := some (q, g), fwdEnd := t + wireNs true g - 64 }

/-- A frame on star port p whose delimiter arrives t ns after the cycle start (10 R250, R259). -/
def starFrame (p : Fin 16) (f : StnFrame) (t : Nat) (s : State) : State :=
  if !stnGoing s || !starUp s p || starExcl s p then s
  else
    match (List.range 4096).find? (fun k =>
      let e := stnSlot s k
      e.kind = 6 && e.port = p && e.holds t) with
    | none => starViolation p s
    | some k =>
      let s1 := if f.late then starViolation p s else s
      rxWindow k (fld (s.rdA .stnSpCtlS p) 0 4) f s1

/-- A frame on ring port r whose delimiter arrives t ns after the cycle start (10 R248, R250, R261, R262): also one with this
station's number meets the checks of a RINGRX window. -/
def ringFrame (r : Fin 2) (f : StnFrame) (t : Nat) (s : State) : State :=
  if !stnGoing s || !ringRx s r then s
  else
    match (List.range 4096).find? (fun k => (stnSlot s k).ring && (stnSlot s k).holds t) with
    | none => ringViolation r s
    | some k =>
      let e := stnSlot s k
      let own := decide (f.station.toNat = stnNo s)
      let mine := e.kind = 1 && (!e.spare || s.stn.mine.contains k)
      if mine && !own then ringViolation r s
      else
        let s1 := if own then s else hearStation f s
        let s2 := if e.kind = 2 then rxWindow k (ringVer s) f s1
          else if own then s1
          else if unknownType f then s1.count .stnCnt 1 7
          else if e.kind = 4 then hearJoinWindow f s1 else s1
        if own && stripsOwn s f then s2 else ringForward r f t s2

/-- STOLNET_FRAME_RECEIVE (10 R250): atUnit is the arrival of the delimiter in ns after the cycle start. -/
def stolnetFrameReceive (p : StnPort) (f : StnFrame) (atUnit : BitVec 24) (s : State) : State :=
  match p with
  | .star k => starFrame k f atUnit.toNat s
  | .ring r => ringFrame r f atUnit.toNat s

/-- STOLNET_FRAME_RECEIVE (10 R250). -/
def execStolnetFrameReceive (p : StnPort) (f : StnFrame) (atUnit : BitVec 24) (s : State) :
    Host.Outcome State Fault Refusal := .next (stolnetFrameReceive p f atUnit s)

/-- RECEIVE_WINDOW_END (10 R255): the status, the miss count, the sender and the payload go into staging. -/
def receiveWindowEnd (k : BitVec 12) (s : State) : State :=
  let e := stnSlot s k.toNat
  if !stnEn s || !(e.kind = 2 || e.kind = 6) then s
  else
    let cur := Tab.get (.timeout, none) s.stn.rx k.toNat
    let res : Status × Option StnFrame :=
      if !s.stn.going then (.timeout, none) else if e.kind = 6 && starExcl s e.port then (.denied, none) else cur
    let n := match res.2 with
      | some _ => 0
      | none => min 255 (Tab.get 0 s.stn.miss k.toNat + 1)
    let s1 := s.setStn { s.stn with rx := Tab.set (.timeout, none) s.stn.rx k.toNat (.timeout, none)
                                    miss := Tab.set 0 s.stn.miss k.toNat n }
    if (s.part e.part).state = .off then s1
    else
      let head (a b : Nat) : List Byte :=
        [BitVec.ofNat 8 res.1.code, BitVec.ofNat 8 n, BitVec.ofNat 8 a, BitVec.ofNat 8 b]
      match res.2 with
      | some f => stageBytes e.part (e.ofs - 4) (head f.station.toNat f.node.toNat ++ padTo 0 e.len f.payload) s1
      | none =>
        let zeros := if e.maxMiss ≠ 0 ∧ n ≥ e.maxMiss then List.replicate e.len 0 else []
        stageBytes e.part (e.ofs - 4) (head 255 255 ++ zeros) s1

/-- RECEIVE_WINDOW_END (10 R255). -/
def execReceiveWindowEnd (k : BitVec 12) (s : State) : Host.Outcome State Fault Refusal := .next (receiveWindowEnd k s)

/-! ### Checking and swapping the table (10 R253, R254) -/

/-- The minimum duration of a window (10 R254). -/
def minDur (s : State) (e : SlotE) : Nat :=
  if e.ring then (e.len + 40) * 8 + (stnNst s - 1) * 1000 + 1000 else (e.len + 40) * 80 + 1000

/-- An entry by itself is refused: kind, ranges, place, duration, station and blocks (10 R252 to R254). -/
def slotBad (s : State) (e : SlotE) : Bool :=
  let star := e.kind = 5 || e.kind = 6
  let tx := e.kind = 1 || e.kind = 5
  let rx := e.kind = 2 || e.kind = 6
  let nodeOk := e.node = 31 || decide (e.node < 16)
  e.kind ≠ 0 &&
    (decide (e.kind > 6) || decide (e.len > (if star then 1024 else 4096)) ||
      (e.spare && !(decide (e.kind ≤ 3))) || (e.kind = 1 && !nodeOk) || (e.kind = 2 && !e.spare && !nodeOk) ||
      (e.kind = 3 && e.node ≠ 0) || ((e.kind = 3 || e.kind = 4) && (e.part ≠ 0 || e.ofs ≠ 0)) ||
      (star && (e.station ≠ stnNo s || e.node ≠ e.port)) || decide (e.start + e.dur > stnP s) ||
      (e.kind = 4 && e.len ≠ 80) || (e.kind = 5 && decide (e.start < 4000)) || decide (e.dur < minDur s e) ||
      (e.kind = 1 && e.station ≠ stnNo s) ||
      (tx && decide (e.ofs + e.len > (if e.srcii then s.iiSize e.part else s.oiSize e.part))) ||
      (rx && (decide (e.ofs < 4) || decide (e.ofs + e.len > s.iiSize e.part))))

/-- Two windows overlap in time. -/
def SlotE.meets (a b : SlotE) : Bool := a.start < b.start + b.dur && b.start < a.start + a.dur

/-- Two entries do not go together (10 R253). -/
def slotClash (a b : SlotE) : Bool :=
  let rx (e : SlotE) : Bool := e.kind = 2 || e.kind = 6
  (a.ring && b.ring && a.meets b) || (a.kind = 4 && b.kind = 4) ||
    (a.kind = 5 && b.kind = 5 && a.port = b.port && a.meets b) ||
    (rx a && rx b && a.part = b.part && decide (a.ofs < b.ofs + b.len + 4) && decide (b.ofs < a.ofs + a.len + 4))

/-- The first offending entry of the shadow table. -/
def firstBad (s : State) : Option Nat :=
  let used := ((List.range 4096).map (fun k => (k, stnSlotS s k))).filter (fun x => x.2.kind ≠ 0)
  (used.find? (fun x => slotBad s x.2 || used.any (fun y => x.1 ≠ y.1 && slotClash x.2 y.2))).map (·.1)

/-- Cycle C lies between the current cycle + 2 and + 2^31. -/
def swapCycleOk (s : State) : Bool :=
  let d := ((s.rd .stnTswap).toNat + 4294967296 - s.stn.cyc % 4294967296) % 4294967296
  2 ≤ d && d ≤ 2147483648

/-- TABLE_CHECK (10 R253): ARMED, or DENIED with the first offending entry. -/
def tableCheck (s : State) : State :=
  if !s.stn.checking then s
  else
    let s1 := s.setStn { s.stn with checking := false }
    match firstBad s with
    | some k => s1.wr .stnTstat (wd (k * 65536 + Status.denied.code))
    | none => if swapCycleOk s then s1.wr .stnTstat (bit 31) else s1.wr .stnTstat (wd Status.denied.code)

/-- TABLE_CHECK (10 R253). -/
def execTableCheck (s : State) : Host.Outcome State Fault Refusal := .next (tableCheck s)

/-- A write to STN.TARM: ARM starts the check, DISARM withdraws (10 R253). -/
def tarmWrite (w : Who) (v : Word) (s : State) : State :=
  asFnd w s fun s =>
    let s1 := if v.getLsbD 0 then s.setStn { s.stn with checking := true } else s
    (if v.getLsbD 1 then (s1.setStn { s1.stn with checking := false }).clrBits .stnTstat (bit 31) else s1).reply .ok

/-- ARM (10 R253). -/
def execArm (w : Who) (s : State) : Host.Outcome State Fault Refusal := .next (tarmWrite w 1 s)

/-- DISARM (10 R253). -/
def execDisarm (w : Who) (s : State) : Host.Outcome State Fault Refusal := .next (tarmWrite w 2 s)

/-- The shadow keys of the slot table. -/
def slotKey (k : Nat) : Bool := decide (0x6000610000 ≤ k) && decide (k < 0x6000620000)

/-- The shadow keys of the global registers that swap at the cycle boundary. -/
def stnGlobalKey (k : Nat) : Bool :=
  k = 0x6000600004 || k = 0x6000600008 || k = 0x6000600100 || k = 0x6000600140 ||
    (decide (0x6000601000 ≤ k) && decide (k < 0x6000601400) && k % 64 = 0)

/-! ### The cycle (10 R244, R245) -/

/-- A station that its JOIN entry names neither as master nor as backup acts no longer (10 R266). -/
def actsCheck (s : State) : State :=
  match joinMaster s with
  | some (m, b) => if stnActs s && m ≠ stnNo s && b ≠ stnNo s then setRing 16 5 m (setRing 15 1 0 s) else s
  | none => setRing 15 1 0 s

/-- The armed table comes into force in cycle C. -/
def tableSwap (s : State) : State :=
  if swapsIn s s.stn.cyc then
    let s1 := (s.swapAll slotKey 0x10000).swap .stnTcfgidS
    actsCheck ((s1.clrBits .stnTstat (bit 31)).setBits .stnStat (bit 5))
  else s

/-- The payloads read in the last cycle for windows of this one. -/
def payNext (t : Tab (Option (List Byte))) : Tab (Option (List Byte)) :=
  (t.filter (fun x => 4096 ≤ x.1)).map (fun x => (x.1 - 4096, x.2))

/-- The global registers swap; a controller that this disables has no state in the ring (10 R273). -/
def stnBoundary (s : State) : State :=
  let s1 := s.swapAll stnGlobalKey 0x8000
  if stnEn s1 then s1
  else (s1.wr .stnRingstat 0).setStn { s1.stn with going := false, mine := [], asked := none, actA := none, verPend := none
                                                   live := [], grants := [], join := none, rejoin := false }

/-- The cycle-start comparator fires at compare time t (10 R244, R258). -/
def stnFire (t : Nat) (s : State) : State :=
  if !stnEn s then s
  else if t % stnP s ≠ 0 then
    alarmRec .stn .stnTiming [] ((s.setStn { s.stn with going := false }).setBits .stnStat (bit 7))
  else
    let s1 := (List.range 16).foldl (fun s p => starExclude p s) s
    let c := t / stnP s
    let x := { s1.stn with cyc := c, rx := [], fwd := none, fwdEnd := 0, tx := [], pay := payNext s1.stn.pay, join := if c % 2 = 0 then none else s1.stn.join
                           going := fld (s1.rd .timTbstat) 0 2 = 0 }
    let s2 := stnBoundary (tableSwap (s1.setStn x))
    if !stnGoing s2 then s2
    else
      let s3 := masterCheck s2
      s3.setStn { s3.stn with tx := beacons s3 }

/-- The timebase leaves the fast source: an enabled controller stops transmitting at once (10 R245). -/
def stnSourceLost (s : State) : State :=
  if !stnEn s then s
  else alarmRec .stn .stnTiming [] ((s.setStn { s.stn with going := false }).setBits .stnStat (bit 8))

/-! ### Enabling and register writes (10 R253, R267, R272 to R274) -/

/-- Writes a global _S register, and its active copy while the controller is disabled. -/
def stnPutS (r : Reg) (i : Nat) (v : Word) (s : State) : State :=
  let s1 := s.put r v i
  (if stnEn s then s1 else s1.wrA r (s1.rd r i) i).reply .ok

/-- Comparator n is the foundry partition's and has ACT.STN (10 R273). -/
def stnTtOk (s : State) (n : Nat) : Bool :=
  let o := s.rd .timTtOwn n
  o.getLsbD 31 && fld o 0 10 = 0 && (s.rd .timTtCtl n).getLsbD 11

/-- A station that has just been enabled starts JOINING, or acts as master (10 R267). -/
def startJoining (s : State) : State :=
  let m := (joinMaster s).map (·.1)
  masterCheck (s.wr .stnRingstat (wd (2 ^ 30 + m.getD 0 * 65536)))

/-- A write of CTL_S (10 R267, R273). -/
def stnCtlWrite (w : Who) (v : Word) (s : State) : State :=
  asFnd w s fun s =>
    let nst := fld v 16 6
    if v.getLsbD 31 && (decide (nst < 2) || decide (nst > 32) || !stnTtOk s (fld v 8 5)) then s.reply .denied
    else
      let s1 := stnPutS .stnCtlS 0 v s
      let s2 := if v.getLsbD 31 then s1.setStn { s1.stn with txOff := 0, cutV := [], tries := if stnEn s then s1.stn.tries else 0 } else s1
      if v.getLsbD 31 && !stnEn s then startJoining s2 else s2

/-- STOLNET_ENABLE (10 R267): a write of CTL_S. -/
def execStolnetEnable (w : Who) (v : Word) (s : State) : Host.Outcome State Fault Refusal := .next (stnCtlWrite w v s)

/-- STOLNET_DISABLE (10 R273): a write of CTL_S; the boundary stops transmission. -/
def stnDisable (w : Who) (v : Word) (s : State) : State := stnCtlWrite w v s

/-- STOLNET_DISABLE (10 R273). -/
def execStolnetDisable (w : Who) (v : Word) (s : State) : Host.Outcome State Fault Refusal := .next (stnDisable w v s)

/-- A write to a shadow entry: BUSY while the table is armed (10 R251). -/
def slotWrite (r : Reg) (k : Nat) (v : Word) (s : State) : State :=
  if (s.rd .stnTstat).getLsbD 31 then s.reply .busy else (s.put r v k).reply .ok

/-- Writes of STN registers with rules of their own; none for the others. -/
def stnWrite (w : Who) (r : Reg) (i : Nat) (v : Word) (s : State) : Option State :=
  match r with
  | .stnCtlS => some (stnCtlWrite w v s)
  | .stnCycS => some (asFnd w s fun s =>
      if stnEn s || decide (v.toNat < 125000) || decide (v.toNat > 16000000) || v.toNat % 1000 ≠ 0 then s.reply .denied
      else stnPutS .stnCycS 0 v s)
  | .stnTarm => some (tarmWrite w v s)
  | .stnTcfgidS => some (asFnd w s (stnPutS .stnTcfgidS 0 v ·))
  | .stnCnt => some (asFnd w s (clearOnZero .stnCnt v · i))
  | .stnRpCtlS => some (asFnd w s (stnPutS .stnRpCtlS i v ·))
  | .stnRpCmd => some (if v.getLsbD 0 then ringReadmit w i s else asFnd w s (State.reply .ok))
  | .stnRpCnt => some (asFnd w s (clearOnZero .stnRpCnt v · i))
  | .stnSpCtlS => some (asFnd w s fun s => if fld v 0 4 ≠ 1 then s.reply .denied else stnPutS .stnSpCtlS i v s)
  | .stnSpCmd => some (if v.getLsbD 0 then starReadmit w i s else asFnd w s (State.reply .ok))
  | .stnSpCnt => some (asFnd w s (clearOnZero .stnSpCnt v · i))
  | .stnSlStartS | .stnSlDurS | .stnSlSrcS | .stnSlMapS => some (asFnd w s (slotWrite r i v ·))
  | _ => none

/-- Reads of STN registers with a rule of their own; none for the others. -/
def stnRead (r : Reg) (i : Nat) (s : State) : Option State :=
  match r with
  | .stnCycnt => some (s.answer .ok (wd s.stn.cyc))
  | .stnSpStat => some (s.answer .ok
      (fset (s.rd .stnSpStat i) 8 5 (min 31 (recent16 s.stn.cyc (Tab.get [] s.stn.starV i)).length)))
  | _ => none

end Sys2Proof.Machine
end

