-- ==== Sys2Proof/Machine/Storage.lean ====
section
/-!
DEFINITION. Storage links, the volume, posts and read jobs (15). The commands that a boot step waits for (a link that
comes up or fails) have their meanings in Boot.lean, over the operations of this file.
-/

namespace Sys2Proof.Machine

/-! ### Links -/

/-- A record is wholly in blocks that have been written full. -/
def State.safeRec (s : State) (r : Rec) : Bool := r.off + recSize r.payload.length ≤ s.sto.fullOff

/-- Counts a lost record in DROP of its stream (15 R362). -/
def countLost (rs : List Rec) (s : State) : State :=
  rs.foldl (fun s r =>
    let x := s.stream r.stream
    s.setStream r.stream { x with drop := min 0xFFFF (x.drop + 1) }) s

/-- A member fails: its data not yet written full is discarded, the log end moves to the next member, and GAP is set
(15 R362). -/
def memberFail (l : Nat) (s : State) : State :=
  match s.sto.vol with
  | none => s
  | some v =>
    match v.spans.find? (fun m => m.1 = l) with
    | none => s
    | some (_, lo, hi) =>
      if decide (lo ≤ s.sto.endOff) && decide (s.sto.endOff < hi) || decide (lo ≤ s.sto.fullOff) && decide (s.sto.fullOff < hi) then
        let lost : Rec → Bool := fun r => decide (lo ≤ r.off) && decide (r.off < hi) && !s.safeRec r
        let s1 := countLost (s.sto.log.filter (fun r => lost r && !r.pad)) s
        { s1 with sto := { s1.sto with
          log := s.sto.log.filter (fun r => !lost r)
          endOff := max s.sto.endOff hi
          fullOff := max s.sto.fullOff hi
          endDirty := false
          hdrDirty := true } } |>.setBits .stoStat (bit 3)
      else s

/-- A link enters FAILED with a status: LINKFAIL, an alarm and a record; a member's unwritten data is lost
(15 R351, R362). -/
def failLink (l : Nat) (st : Status) (s : State) : State :=
  let s1 := s.setLink l { s.link l with state := .failed, fail := st, cmds := [], tmo := false }
  alarmRec .sto .linkFailed [wd l, wd st.code] ((memberFail l s1).setBits .stoStat (bit 1))

/-- LINK_ENABLE (15 R350, R367): a write of STO.Ll_CTL. EN written 1 in OFF starts TRAIN; EN written 0 gives OFF. -/
def linkEnable (w : Who) (l : Fin 4) (v : Word) (s : State) : State :=
  asFnd w s fun s =>
    let s1 := (s.put .stoLCtl v l).reply .ok
    let x := s.link l
    if v.getLsbD 31 then (if x.state = .off then s1.setLink l { x with state := .train } else s1)
    else
      let s2 := if x.state = .online then memberFail l s1 else s1
      s2.setLink l { s2.link l with state := .off, cmds := [], tmo := false }

/-- PCIE_LINK_UP (15 R350): the rate and width, and INIT; in Run and not under XA fallback (02 R35, 03 R55). -/
def pcieLinkUp (l : Fin 4) (gen width : BitVec 4) (s : State) : State :=
  let x := s.link l
  if x.state = .train && netsUp s then s.setLink l { x with state := .init, gen := gen.toNat, width := width.toNat } else s

/-- TRAIN_TIMEOUT (15 R350). -/
def trainTimeout (l : Fin 4) (s : State) : State :=
  if (s.link l).state = .train then failLink l .timeout s else s

/-- READY_TIMEOUT (15 R350). -/
def readyTimeout (l : Fin 4) (s : State) : State :=
  if (s.link l).state = .init then failLink l .timeout s else s

/-- The status with which an SSD fails at bring-up, if it does: SIZE, VERSION, and FAULT for any other error
(15 R349, R350; DEDUCED log 17). -/
def ssdError (i : SsdInfo) : Option Status :=
  if !i.block4k then some .size else if !i.ver14 then some .version else if i.otherError then some .fault else none

/-- The usable blocks: at most 1 953 125 000, less the image store (15 R349, 17 R389). -/
def usableBlocks (n : Nat) : Nat := min n 1953125000 - 262144

/-- SSD_READY (15 R349, R350): ONLINE, with WCACHE and an alarm where the SSD keeps its volatile write cache. -/
def ssdReady (l : Fin 4) (i : SsdInfo) (s : State) : State :=
  let x := s.link l
  if x.state = .init then
    match ssdError i with
    | some st => failLink l st s
    | none =>
      let wc := i.cachePresent && i.cacheRefused
      let s1 := s.setLink l { x with state := .online, wcache := wc, cap := usableBlocks i.blocks, tmo := false }
      if wc then alarm .sto s1 else s1
  else s

/-- COMMAND_TIMEOUT (15 R351): the first resets the controller, a second fails the link. -/
def commandTimeout (l : Fin 4) (s : State) : State :=
  let x := s.link l
  if x.state = .online then
    let s1 := s.count .stoLCnt 1 l 2
    if x.tmo then failLink l .timeout s1 else (s1.setLink l { x with tmo := true }).count .stoLCnt 1 l 3
  else s

/-- PCIE_LINK_DOWN (15 R351): a link-down event or a controller fatal status puts a link in INIT or ONLINE in FAILED
with FAULT. -/
def pcieLinkDown (l : Fin 4) (s : State) : State :=
  match (s.link l).state with
  | .init | .online => failLink l .fault s
  | .train | .off | .failed => s

/-! ### The volume -/

/-- The member header as the device would write it now (15 R353). -/
def State.curHdr (s : State) (v : Vol) : Hdr :=
  { ver := 1, volid := v.volid, mask := v.mask, caps := v.caps, time := v.time, endOff := s.sto.endOff,
    full := v.full, crcOk := true, streams := s.sto.streams }

/-- Entry n of a member header's stream table (15 R353). -/
def streamEntry (t : Tab Stream) (n : Nat) : List Byte :=
  let x := Tab.get {} t n
  leBytes 8 (x.next + 1) ++ leBytes 8 x.last ++ leBytes 4 x.refFull ++ leBytes 4 x.refBusy ++ leBytes 8 x.used

/-- Bytes 000h to FFBh of block 0 of a member header (15 R353). -/
def hdrHead (h : Hdr) : List Byte :=
  padTo 0 4092 (leBytes 4 (h.ver * 2 ^ 24) ++ leBytes 4 0 ++ leBytes 8 h.volid ++ leBytes 4 h.mask.toNat ++ leBytes 4 0 ++
    (List.range 4).flatMap (fun l => leBytes 8 (h.caps.getD l 0)) ++ leBytes 8 h.time ++ leBytes 8 h.endOff ++
    leBytes 4 (b2n h.full))

/-- The 16 blocks of a member header as they are written: the volume fields with their CRC, the stream table, zeros
(15 R352, R353). -/
def hdrBlocks (h : Hdr) : List Byte :=
  padTo 0 65536 (hdrHead h ++ leBytes 4 (crc32c (hdrHead h)).toNat ++ (List.range 1024).flatMap (streamEntry h.streams))

/-- Writes the header to every member that is ONLINE (15 R353). -/
def writeHdrs (s : State) : State :=
  match s.sto.vol with
  | none => s
  | some v =>
    { s with sto := { s.sto with
      hdrs := (List.range 4).foldl
        (fun h l => if v.mask.getLsbD l && s.online l then Tab.insert (Tab.erase h l) l (s.curHdr v) else h) s.sto.hdrs
      hdrDirty := false } }

/-- Everything the buffer holds is on the SSDs (15 R354 UNMOUNT, R363). -/
def writeAll (s : State) : State :=
  let s1 := { s with sto := { s.sto with
    disk := s.sto.log
    fullOff := max s.sto.fullOff (s.sto.endOff / 4096 * 4096)
    endDirty := false
    links := s.sto.links.map (fun p => (p.1, { p.2 with cmds := [] })) } }
  writeHdrs s1

/-- Starts a volume command: VSTAT reads busy. A command that still runs gives BUSY (DESIGN CHOICE log 18). -/
def volStart (k : Nat) (degok : Bool) (s : State) : State :=
  if s.sto.cmd.isSome then s.reply .busy
  else ({ s with sto := { s.sto with cmd := some (k, degok) } }).reply .ok

/-- A write of STO.VCMD (15 R366): KEY C3h; 1 MOUNT, 2 UNMOUNT, 3 FORMAT. -/
def vcmdWrite (w : Who) (v : Word) (s : State) : State :=
  asFnd w s fun s =>
    if fld v 24 8 ≠ 0xC3 ∨ fld v 0 2 = 0 then s.reply .denied
    else volStart (fld v 0 2) (v.getLsbD 4) s

/-- FORMAT (15 R354): the command's write. -/
def execFormat (w : Who) (v : Word) (s : State) : Host.Outcome State Fault Refusal :=
  .next (if fld v 0 2 = 3 then vcmdWrite w v s else s)

/-- MOUNT (15 R354): the command's write. -/
def execMount (w : Who) (v : Word) (s : State) : Host.Outcome State Fault Refusal :=
  .next (if fld v 0 2 = 1 then vcmdWrite w v s else s)

/-- UNMOUNT (15 R354): the command's write. -/
def execUnmount (w : Who) (v : Word) (s : State) : Host.Outcome State Fault Refusal :=
  .next (if fld v 0 2 = 2 then vcmdWrite w v s else s)

/-- Ends a volume command with a status (15 R354). -/
def volDone (st : Status) (s : State) : State := { s with sto := { s.sto with cmd := none, vst := st } }

/-- Places the records that were posted before the mount, in order (15 R357). -/
def placeEarly (s : State) : State :=
  let early := s.sto.early
  early.foldl (fun s r => (storePost r true s).2.2.2) { s with sto := { s.sto with early := [] } }

/-- The members' usable blocks, 0 for a link that is not a member (15 R353). -/
def State.capsOf (s : State) (mask : BitVec 4) : List Nat :=
  (List.range 4).map (fun l => if mask.getLsbD l then (s.link l).cap else 0)

/-- The links that are ONLINE. -/
def State.onlineMask (s : State) : BitVec 4 :=
  BitVec.ofNat 4 ((List.range 4).foldl (fun m l => if s.online l then m + 2 ^ l else m) 0)

/-- FORMAT's effect (15 R352 to R354): a new header on every ONLINE link, an empty log, and the mount. -/
def formatNow (s : State) : State :=
  let mask := s.onlineMask
  if mask = 0 then volDone .fault s
  else
    let v : Vol := { volid := devid s + 2 ^ 48 * ((s.sto.formats + 1) % 65536), mask := mask, caps := s.capsOf mask,
                     time := s.now, degraded := false, full := false }
    let s1 := { s with sto := { s.sto with
      formats := s.sto.formats + 1, vol := some v, log := [], disk := [], endOff := 0, fullOff := 0,
      endDirty := false, streams := [], loaded := true
      links := s.sto.links.map (fun p => (p.1, { p.2 with cmds := [] })) } }
    volDone .ok (placeEarly (writeHdrs s1))

/-- Two headers agree in block 0 (15 R353). -/
def Hdr.same (a b : Hdr) : Bool :=
  a.ver = b.ver && a.volid = b.volid && a.mask = b.mask && a.caps = b.caps && a.time = b.time &&
    a.endOff = b.endOff && a.full = b.full

/-- The headers that MOUNT reads: those of the ONLINE links. -/
def State.readHdrs (s : State) : List Hdr := (s.sto.hdrs.filter (fun p => s.online p.1)).map (·.2)

/-- The status of MOUNT and the header to use (15 R354): CRC, VERSION, MISMATCH in that order. -/
def mountCheck (degok : Bool) (s : State) : Status × Option Hdr :=
  let good := s.readHdrs.filter (·.crcOk)
  match good with
  | [] => (.crc, none)
  | h :: hs =>
    if h.ver ≠ 1 then (.version, none)
    else if hs.any (fun x => !h.same x) then (.mismatch, none)
    else
      let missing := (List.range 4).any (fun l => h.mask.getLsbD l && !(s.online l && (s.sto.hdrs.any (fun p => p.1 = l))))
      if missing && !degok then (.mismatch, none) else (.ok, some h)

/-- Recounts a stream from a scanned record: PAD records are skipped (15 R354). -/
def recount (t : Tab Stream) (r : Rec) : Tab Stream :=
  if r.pad then t
  else
    let x := Tab.get {} t r.stream
    Tab.set {} t r.stream { x with next := max x.next r.seq, last := r.off, used := x.used + recSize r.payload.length }

/-- The end of a list of placed records, at least e. -/
def endOf (e : Nat) (rs : List Rec) : Nat := rs.foldl (fun a r => max a (r.off + recSize r.payload.length)) e

/-- MOUNT's effect (15 R354): the true end from the scan, the stream table recounted, the early records placed. A mount
while a volume is mounted changes nothing (DESIGN CHOICE log 18). -/
def mountNow (degok : Bool) (s : State) : State :=
  if s.sto.vol.isSome then volDone .ok s
  else
    match mountCheck degok s with
    | (st, none) => volDone st s
    | (_, some h) =>
      let missing := (List.range 4).any (fun l => h.mask.getLsbD l && !s.online l)
      let v : Vol := { volid := h.volid, mask := h.mask, caps := h.caps, time := h.time, degraded := missing,
                       full := h.full }
      let scanned := s.sto.log.filter (fun r => decide (h.endOff ≤ r.off))
      let e := endOf h.endOff scanned
      let s1 := { s with sto := { s.sto with
        vol := some v, endOff := e, fullOff := e / 4096 * 4096, disk := s.sto.log,
        streams := scanned.foldl recount h.streams, loaded := true, endDirty := false,
        hdrDirty := !scanned.isEmpty } }
      volDone .ok (placeEarly s1)

/-- UNMOUNT's effect (15 R354): FAULT where no volume is mounted or a member is not ONLINE. -/
def unmountNow (s : State) : State :=
  match s.sto.vol with
  | none => volDone .fault s
  | some v =>
    let bad := (List.range 4).any (fun l => v.mask.getLsbD l && !s.online l)
    let s1 := writeAll s
    volDone (if bad then .fault else .ok) { s1 with sto := { s1.sto with vol := none } }

/-- VOLUME_COMMAND_COMPLETE (15 R354). -/
def volumeCommandComplete (s : State) : State :=
  match s.sto.cmd with
  | none => s
  | some (1, d) => mountNow d s
  | some (2, _) => unmountNow s
  | some (_, _) => formatNow s

/-- VOLUME_COMMAND_COMPLETE (15 R354). -/
def execVolumeCommandComplete (s : State) : Host.Outcome State Fault Refusal := .next (volumeCommandComplete s)

/-! ### Writes to the SSDs -/

/-- A write command of link l is done (15 R362). -/
def cmdDone (l : Nat) (c : SCmd) (s : State) : State :=
  match c with
  | .block off =>
    let f := max s.sto.fullOff (off + 4096)
    let s1 := { s with sto := { s.sto with
      fullOff := f
      disk := s.sto.disk.filter (fun (r : Rec) => decide (r.off < off)) ++
        s.sto.log.filter (fun (r : Rec) => decide (off ≤ r.off) && decide (r.off < off + 4096)) } }
    submitFull (s1.count .stoLCnt 1 l 0)
  | .tail e =>
    let d := s.sto.fullOff
    ({ s with sto := { s.sto with
      disk := s.sto.disk.filter (fun (r : Rec) => decide (r.off < d)) ++
        s.sto.log.filter (fun (r : Rec) => decide (d ≤ r.off) && decide (r.off < e)) } }).count .stoLCnt 1 l 0
  | .header =>
    match s.sto.vol with
    | none => s
    | some v =>
      ({ s with sto := { s.sto with hdrs := Tab.insert (Tab.erase s.sto.hdrs l) l (s.curHdr v) } }).count .stoLCnt 9 l 0

/-- NVME_COMPLETION (15 R362, R367): the oldest write of the link completes after us microseconds. -/
def nvmeCompletion (l : Fin 4) (us : Word) (s : State) : State :=
  let x := s.link l
  match x.state, x.cmds with
  | .online, c :: cs =>
    let s1 := s.setLink l { x with cmds := cs, tmo := false }
    let s2 := if s.rd .stoLWlat l < us then s1.wr .stoLWlat us l else s1
    cmdDone l c s2
  | _, _ => s

/-- NVME_COMPLETION (15 R362). -/
def execNvmeCompletion (l : Fin 4) (us : Word) (s : State) : Host.Outcome State Fault Refusal :=
  .next (nvmeCompletion l us s)

/-- FLUSHINT_EXPIRY (15 R362): the partial end block is written again if it has changed. -/
def flushintExpiry (s : State) : State :=
  match s.sto.vol with
  | none => s
  | some v =>
    if !s.sto.endDirty || s.sto.endOff % 4096 = 0 then s
    else
      match v.linkAt (s.sto.endOff - 1) with
      | none => s
      | some l =>
        if !s.online l then s else
          let x := s.link l
          let s1 := s.setLink l { x with cmds := x.cmds ++ [.tail s.sto.endOff] }
          { s1 with sto := { s1.sto with endDirty := false } }

/-- FLUSHINT_EXPIRY (15 R362). -/
def execFlushintExpiry (s : State) : Host.Outcome State Fault Refusal := .next (flushintExpiry s)

/-- HDRINT_EXPIRY (15 R362): the headers are written again on every member if they have changed. -/
def hdrintExpiry (s : State) : State :=
  match s.sto.vol with
  | none => s
  | some v =>
    if !s.sto.hdrDirty then s
    else
      let s1 := (List.range 4).foldl (fun s l =>
        if v.mask.getLsbD l && s.online l then s.setLink l { s.link l with cmds := (s.link l).cmds ++ [.header] }
        else s) s
      { s1 with sto := { s1.sto with hdrDirty := false } }

/-- HDRINT_EXPIRY (15 R362). -/
def execHdrintExpiry (s : State) : Host.Outcome State Fault Refusal := .next (hdrintExpiry s)

/-- The flush of 15 R363 starts: it covers the log as it stands. -/
def flushStart (s : State) : State :=
  { s with sto := { s.sto with flushTo := s.sto.vol.map (fun _ => s.sto.endOff) } }

/-- The flush ends: every buffered block that it covers and the headers are on the members (15 R363). -/
def flushEnd (s : State) : State :=
  match s.sto.flushTo with
  | none => s
  | some e =>
    let s1 := { s with sto := { s.sto with
      disk := s.sto.log.filter (fun r => decide (r.off < e))
      fullOff := max s.sto.fullOff (e / 4096 * 4096)
      flushTo := none
      links := s.sto.links.map (fun p => (p.1, { p.2 with cmds := [] })) } }
    writeHdrs s1

/-! ### Posts (15 R355) -/

/-- The next tag after a 16-bit tag that is never 0. -/
def nextTag (t : Nat) : Nat := if t ≥ 65535 then 1 else t + 1

/-- The four words of a post descriptor. -/
structure PostDesc where
  code : Word
  len : Nat
  noRep : Bool
  addr : Nat
  rsv : Bool
  deriving DecidableEq, Repr

/-- Reads a post descriptor from its 16 bytes (15 R355). -/
def postDesc (bs : List Byte) : PostDesc :=
  let w := wd (leNat (slice bs 4 4))
  { code := wd (leNat (slice bs 0 4)), len := fld w 0 13, noRep := w.getLsbD 31, addr := leNat (slice bs 8 4),
    rsv := fld w 13 18 ≠ 0 || leNat (slice bs 12 4) ≠ 0 }

/-- The value a read of STO.POST returns. -/
def postValue (st : Status) (rep : Bool) : Word := wd (st.code + 256 * b2n rep)

/-- Sets POSTSEQ of partition n (15 R355). While no volume is mounted the number is not known: a free value (DESIGN CHOICE log 11). -/
def setPostSeq (n : Nat) (s : State) : State :=
  let q := if s.sto.vol.isSome then (s.stream n).next else (Config.earlySeq s.free).toNat
  let s1 := if s.sto.vol.isSome then s else s.spend
  ((s1.wrB n .stoPostseq (lo32 q) 0).wrB n .stoPostseq (hi32 q) 1)

/-- Decides a post of partition n (15 R355). -/
def postNow (n : Nat) (s : State) : State :=
  let a := (s.rdB n .stoPostAddr).toNat
  match partRead n a 16 s with
  | (.ok, bs, s1) =>
    let d := postDesc bs
    if d.code.getLsbD 31 || !(s1.rd .stoSCtl n).getLsbD 31 || d.rsv then s1.answer .ok (postValue .denied false)
    else if d.len > 4096 then s1.answer .ok (postValue .size false)
    else
      match partRead n d.addr d.len s1 with
      | (.ok, pay, s2) =>
        let r : Rec := { sys := false, pad := false, gen := 0, seq := 0, time := s2.recTime, rel := (s2.part n).jib.rel,
                         tlast := s2.recTime, code := .num d.code, part := BitVec.ofNat 10 n, rpt := 0, drop := 0,
                         stream := n, prev := 0, off := 0, payload := pay }
        let q := postRec r d.noRep s2
        let s3 := if q.1 = .ok then setPostSeq n q.2.2 else q.2.2
        s3.answer .ok (postValue q.1 q.2.1)
      | (st, _, s2) => s2.answer .ok (postValue st false)
  | (st, _, s1) => s1.answer .ok (postValue st false)

/-- POST (15 R355): a read of STO.POST. -/
def execPost (w : Who) (s : State) : Host.Outcome State Fault Refusal := .next (asReader w .stoPost s postNow)

/-! ### Read jobs (15 R360) -/

/-- The status of a read job at its submission (15 R360, in the manner of 08 R205). -/
def readJobCheck (n : Nat) (a kind off len dst : Nat) (s : State) : Status :=
  if kind > 1 then .denied
  else if kind = 0 && n ≠ 0 then .denied
  else if off % 64 ≠ 0 then .denied
  else if kind = 0 && (decide (len < 64) || decide (len > 65536) || decide (len % 64 ≠ 0)) then .size
  else if !s.mayUse n .store a 32 || !s.mayUse n .store dst len then .denied
  else if s.sto.reads.countP (fun j => j.part.toNat = n) ≥ 4 then .full
  else .ok

/-- Submits a read job of partition n (15 R360): bits 7:0 status, bits 31:16 tag. -/
def readJobNow (n : Nat) (s : State) : State :=
  let a := (s.rdB n .stoRdAddr).toNat
  match partRead n a 32 s with
  | (.ok, bs, s1) =>
    let kind := fld (wd (leNat (slice bs 0 4))) 28 4
    let off := leNat (slice bs 4 8)
    let len := leNat (slice bs 12 4)
    let dst := leNat (slice bs 16 4)
    let st := readJobCheck n a kind off len dst s1
    if st = .ok then
      let t := s1.sto.tag
      ({ s1 with sto := { s1.sto with
        tag := nextTag t
        reads := s1.sto.reads ++ [(⟨BitVec.ofNat 10 n, kind, off, len, wd dst, wd a⟩ : RJob)] } }).answer .ok (wd (65536 * t))
    else s1.answer .ok (wd st.code)
  | (st, _, s1) => s1.answer .ok (wd st.code)

/-- READ_JOB (15 R360): a read of STO.RD. -/
def execReadJob (w : Who) (s : State) : Host.Outcome State Fault Refusal := .next (asReader w .stoRd s readJobNow)

/-- A range of the log touches a member that is not ONLINE, and is not in the buffer (15 R351, R354). -/
def State.rangeLost (s : State) (off len : Nat) : Bool :=
  match s.sto.vol with
  | none => true
  | some v =>
    (List.range (len / 64)).any (fun i =>
      let a := off + 64 * i
      decide (a < s.sto.fullOff) &&
        (match v.linkAt a with
         | some l => !s.online l
         | none => true))

/-- The status, the data and the result of a read job (15 R360). -/
def readResult (j : RJob) (s : State) : Status × List Byte :=
  if j.kind = 0 then
    if s.rangeLost j.off j.len then (.fault, []) else (.ok, logBytes s j.off j.len)
  else
    match s.recAt j.off with
    | none => (.denied, [])
    | some r =>
      if r.stream ≠ j.part.toNat then (.denied, [])
      else if recSize r.payload.length > j.len then (.size, [])
      else if s.rangeLost j.off (recSize r.payload.length) then (.fault, [])
      else (.ok, recBytes r)

/-- Counts the blocks of a range that are read from SSDs (15 R367). -/
def countReads (off len : Nat) (s : State) : State :=
  match s.sto.vol with
  | none => s
  | some v =>
    (List.range ((off % 4096 + len + 4095) / 4096)).foldl (fun s i =>
      let a := off / 4096 * 4096 + 4096 * i
      if a < s.sto.fullOff then
        match v.linkAt a with
        | some l => s.count .stoLCnt 1 l 1
        | none => s
      else s) s

/-- READ_COMPLETION (15 R360): the oldest read job ends; data, result word, completion word. -/
def readCompletion (s : State) : State :=
  match s.sto.reads with
  | [] => s
  | j :: js =>
    let n := j.part.toNat
    let s0 := { s with sto := { s.sto with reads := js } }
    let (st, bs) := readResult j s0
    let (st1, s1) := if st = .ok then partWrite n j.dst.toNat bs (countReads j.off bs.length s0) else (st, s0)
    let s2 := (partWrite n (j.desc.toNat + 0x1C) (leBytes 4 (if st1 = .ok then bs.length else 0)) s1).2
    (partWrite n (j.desc.toNat + 0x18) (leBytes 4 (0x80000000 + st1.code)) s2).2

/-- READ_COMPLETION (15 R360). -/
def execReadCompletion (s : State) : Host.Outcome State Fault Refusal := .next (readCompletion s)

/-! ### Registers of STO (15 R366 to R368) -/

/-- STO.VSTAT (15 R366). -/
def vstat (s : State) : Word :=
  let st := if s.sto.cmd.isSome then 1 else
    match s.sto.vol with
    | none => 0
    | some v => if v.degraded then 3 else 2
  let full := match s.sto.vol with
    | none => false
    | some v => v.full
  let mask := match s.sto.vol with
    | none => 0
    | some v => v.mask.toNat
  wd (st * 2 ^ 30 + b2n full * 2 ^ 29 + mask * 2 ^ 16 + s.sto.vst.code)

/-- The code of a link's state (15 R350). -/
def LinkState.code : LinkState → Nat
  | .off => 0 | .train => 1 | .init => 2 | .online => 3 | .failed => 4

/-- STO.Ll_STAT (15 R367). -/
def linkStat (s : State) (l : Nat) : Word :=
  let x := s.link l
  wd (x.state.code * 2 ^ 28 + x.fail.code * 2 ^ 16 + x.gen * 2 ^ 12 + x.width * 2 ^ 8 + b2n x.wcache)

/-- The volume identifier, 0 while none is mounted. -/
def volId (s : State) : Nat :=
  match s.sto.vol with
  | none => 0
  | some v => v.volid

/-- The log end offset, 0 while no volume is mounted. -/
def logEnd (s : State) : Nat := if s.sto.vol.isSome then s.sto.endOff else 0

/-- Bytes in the buffer (15 R366). -/
def dirtyBytes (s : State) : Nat :=
  if s.sto.vol.isSome then s.sto.endOff - s.sto.fullOff else earlyBytes s.sto.early

/-- The stream or the volume refuses with FULL (15 R359, R368): no room for a record without payload. -/
def streamFull (s : State) (n : Nat) : Bool :=
  s.quotaFull n 64 ||
    (match s.sto.vol with
     | none => false
     | some v => v.full)

/-- Reads of STO registers that are computed; none for the others. -/
def stoRead (r : Reg) (i j : Nat) (s : State) : Option Word :=
  match r with
  | .stoVstat => some (vstat s)
  | .stoVolidLo => some (lo32 (volId s))
  | .stoVolidHi => some (hi32 (volId s))
  | .stoEndLo => some (lo32 (logEnd s))
  | .stoEndHi => some (hi32 (logEnd s))
  | .stoDirty => some (wd (dirtyBytes s))
  | .stoLStat => some (linkStat s i)
  | .stoLCap => some (if j = 0 then lo32 (s.link i).cap else hi32 (s.link i).cap)
  | .stoSStat =>
    some (wd (b2n (streamFull s i) * 2 ^ 31 + min 0xFFFFFF (((s.stream i).used + 1048575) / 1048576)))
  | .stoSSeq =>
    let q := if s.sto.loaded then (s.stream i).next + 1 else 0
    some (if j = 0 then lo32 q else hi32 q)
  | .stoSLast => some (if j = 0 then lo32 (s.stream i).last else hi32 (s.stream i).last)
  | .stoSRef => some (wd (if j = 0 then (s.stream i).refFull else (s.stream i).refBusy))
  | _ => none

/-- Writes of STO registers with checks of their own (15 R366 to R368); none for the others. A WORKBASE outside cycle
memory is DENIED (DESIGN CHOICE log 176). -/
def stoWrite (w : Who) (r : Reg) (i j : Nat) (v : Word) (s : State) : Option State :=
  match r with
  | .stoPostAddr => some (asAny w s fun n s =>
      if fld v 0 4 ≠ 0 then s.reply .denied else (s.wrB n .stoPostAddr v).reply .ok)
  | .stoRdAddr => some (asAny w s fun n s =>
      if fld v 0 5 ≠ 0 then s.reply .denied else (s.wrB n .stoRdAddr v).reply .ok)
  | .stoVcmd => some (vcmdWrite w v s)
  | .stoCtl => some (asFnd w s fun s =>
      if fld v 16 12 = 0 ∨ fld v 0 10 = 0 ∨ fld v 0 10 > 1000 then s.reply .denied else (s.put .stoCtl v).reply .ok)
  | .stoWorkbase => some (asFnd w s fun s =>
      let a := fld v 0 28 * 4096
      if s.sto.vol.isSome then s.reply .busy
      else if !(isCycle a && isCycle (a + 262143)) then s.reply .denied
      else (s.put .stoWorkbase v).reply .ok)
  | .stoLWlat => some (asFnd w s (clearOnZero .stoLWlat v · i))
  | .stoLCnt => some (asFnd w s (clearOnZero .stoLCnt v · i j))
  | .stoSCtl => some (asFnd w s fun s =>
      (s.put .stoSCtl (if i = 0 then v ||| bit 31 else v) i).reply .ok)
  | _ => none

end Sys2Proof.Machine
end

