-- ==== Sys2Proof/Machine/Clocks.lean ====
section
/-!
DEFINITION. Clock monitors, PLLs and domains, the device timebase, its comparators, trigger inputs and PPS outputs (03).
-/

namespace Sys2Proof.Machine

/-! ### What the clocks say of themselves -/

/-- Replaces the clocks. -/
def State.setClk (x : Clocks) (s : State) : State := { s with clk := x }
/-- Replaces the timebase. -/
def State.setTb (x : TimeBase) (s : State) : State := { s with tb := x }

/-- A bit of a 4-bit set of PLLs set or cleared. -/
def setPll (v : BitVec 4) (n : Nat) (b : Bool) : BitVec 4 :=
  if b then v ||| BitVec.ofNat 4 (2 ^ n) else v &&& ~~~ BitVec.ofNat 4 (2 ^ n)

/-- The PLL that feeds a domain (03 R51): EPLL 0, FPLL 1, NPLL 2, TPLL 3; none for the pewter domain. -/
def domPll : Domain → Option Nat
  | .engine => some 0
  | .fabric | .dram | .peripheral => some 1
  | .network => some 2
  | .time => some 3
  | .pewter => none

/-- The place of a domain in the table of domains. -/
def domIdx (d : Domain) : Nat := d.ctorIdx

/-- The gates of the domains that PLL n feeds. -/
def pllGates (n : Nat) : BitVec 7 :=
  match n with
  | 0 => 0b0000001
  | 1 => 0b0001110
  | 2 => 0b0010000
  | _ => 0b0100000

/-- The engine frequency multiple in force: 9/10 of MULT under fallback (03 R55, R59). -/
def multNow (s : State) : Nat :=
  let m := fld (s.rd .clkEpllfreq) 0 6
  if s.clk.fallback then m * 9 / 10 else m

/-- The timebase may run from the fast source: in Run, TPLL locked on XA (03 R64). -/
def fastOk (s : State) : Bool :=
  s.pwr.state = .run && s.clk.on.getLsbD 3 && s.clk.lock.getLsbD 3 && !s.clk.fallback

/-- The pewter source of the timebase: XB, or SRC. -/
def pewSrc (s : State) : Nat := if s.clk.pewOnXb then 1 else 2

/-- TBSTAT.SRC. -/
def tbSrc (s : State) : Nat := fld (s.rd .timTbstat) 0 2

/-- Sets TBSTAT.SRC. -/
def setSrc (v : Nat) (s : State) : State := s.wr .timTbstat (fset (s.rd .timTbstat) 0 2 v)

/-! ### The timebase (03 R62 to R67) -/

/-- The timebase in units of 2^-28 ns. -/
def tbUnits (s : State) : Int := Int.ofNat (s.tb.ns * 2 ^ 28 + s.tb.frac)

/-- Sets the timebase from units of 2^-28 ns: 64 bits of ns. -/
def setUnits (u : Int) (s : State) : State :=
  s.setTb { s.tb with ns := (u / 2 ^ 28 % 2 ^ 64).toNat, frac := (u % 2 ^ 28).toNat }

/-- The timebase changes its source: at most 10 ns of error, and the Stolnet controller learns of the loss of the fast
source (03 R64, 10 R245). -/
def handTo (v : Nat) (s : State) : State :=
  if v = tbSrc s then s
  else
    let old := tbSrc s
    let e : Int := Int.ofNat (Config.handoverError s.free).val - 10 * 2 ^ 28
    let s1 := setSrc v (if old = 0 || v = 0 then (setUnits (tbUnits s + e) s).spend else s)
    if old = 0 then stnSourceLost s1 else s1

/-- TIMEBASE_HANDOVER (03 R64). -/
def handover (s : State) : State := handTo (if fastOk s then 0 else pewSrc s) s

/-- TIMEBASE_HANDOVER (03 R64). -/
def execTimebaseHandover (s : State) : Host.Outcome State Fault Refusal := .next (handover s)

/-- What a tick adds, and the slew that remains (03 R64, R65), in units of 2^-28 ns. -/
def tickAdd (s : State) : Int × Int :=
  match tbSrc s with
  | 0 =>
    let inc : Int := Int.ofNat (s.rd .timTbinc).toNat
    let k : Int := inc / 10000
    if s.tb.slew.natAbs < k.natAbs then (inc + s.tb.slew, 0)
    else if s.tb.slew > 0 then (inc + k, s.tb.slew - k)
    else if s.tb.slew < 0 then (inc - k, s.tb.slew + k)
    else (inc, 0)
  | 1 => (30517 * 2 ^ 28 + 0x9400 * 2 ^ 12, s.tb.slew)
  | _ => (7812 * 2 ^ 28 + 0x8000 * 2 ^ 12, s.tb.slew)

/-- Compare time of comparator n. -/
def cmpOf (s : State) (n : Nat) : Nat := (s.rd .timTtCmpLo n).toNat + 2 ^ 32 * (s.rd .timTtCmpHi n).toNat

/-- The comparators whose test at the present tick fires them (03 R68). -/
def hitNow (s : State) : BitVec 32 :=
  (List.range 32).foldl (fun v n =>
    if (s.rd .timTtCtl n).getLsbD 0 && decide (cmpOf s n ≤ s.now) then v ||| bit n else v) 0

/-- A tick notes the comparators that it fires (03 R68, R72). -/
def markHits (s : State) : State := s.setTb { s.tb with hit := hitNow s }

/-- One tick of the timebase; a step waiting is applied, STEPPED is set, and every comparator's next fire is the first
after a step (03 R65, R68). -/
def tick (s : State) : State :=
  if tbHeld s then s
  else
    let a := tickAdd s
    let s1 := setUnits (tbUnits s + a.1 + (s.tb.stepPend.getD 0) * 2 ^ 28) (s.setTb { s.tb with slew := a.2 })
    markHits (if s.tb.stepPend.isNone then s1
      else (s1.setTb { s1.tb with stepPend := none, stepped := BitVec.allOnes 32 }).setBits .timTbstat (bit 3))

/-- A write to TBSLEW (03 R65, R66). -/
def slewWrite (w : Who) (v : Word) (s : State) : State :=
  asFnd w s fun s =>
    if v.toInt.natAbs > 100000000 then s.reply .denied
    else (s.setTb { s.tb with slew := v.toInt * 2 ^ 28 }).reply .ok

/-- TBSLEW_WRITE (03 R65). -/
def execTbslewWrite (w : Who) (v : Word) (s : State) : Host.Outcome State Fault Refusal := .next (slewWrite w v s)

/-- A number of 64 bits as a signed one. -/
def signed64 (n : Nat) : Int := (BitVec.ofNat 64 n).toInt

/-- A write to TBSTEP_HI: DENIED while the scheduler is enabled (03 R65, R66). A second write before the tick that
applies the first replaces it (DESIGN CHOICE log 151). -/
def stepWrite (w : Who) (v : Word) (s : State) : State :=
  asFnd w s fun s =>
    if s.schEn then s.reply .denied
    else
      let d := signed64 (s.tb.stepLo.toNat + 2 ^ 32 * v.toNat)
      (record .timeStep 0 [s.tb.stepLo, v] (s.setTb { s.tb with stepPend := some d })).reply .ok

/-- TIMEBASE_STEP (03 R65). -/
def execTimebaseStep (w : Who) (v : Word) (s : State) : Host.Outcome State Fault Refusal := .next (stepWrite w v s)

/-- The fraction that TBFRAC shows. -/
def frac16 (s : State) : Nat := s.tb.frac / 2 ^ 12

/-- A read of TBNS_LO latches the other two for the reader (03 R66). -/
def tbnsRead (w : Who) (s : State) : State :=
  asReader w .timTbnsLo s fun _ s =>
    ((s.wrB (whoBank w) .timTbnsHi (hi32 s.now)).wrB (whoBank w) .timTbfrac (wd (frac16 s))).answer .ok (lo32 s.now)

/-- TBNS_LO_READ (03 R66). -/
def execTbnsLoRead (w : Who) (s : State) : Host.Outcome State Fault Refusal := .next (tbnsRead w s)

/-- One tick of the source in use, in ns, rounded down. -/
def tickNs (s : State) : Nat :=
  match tbSrc s with
  | 0 => 4
  | 1 => 30517
  | _ => 7812

/-- REPLICA_SYNC (03 R63): a replica more than one tick away is reloaded, with an alarm. -/
def replicaSync (u : Nat) (v : Nat) (s : State) : State :=
  let d : Int := Int.ofNat v - Int.ofNat s.now
  if d.natAbs > tickNs s then
    alarm .tim (s.setTb { s.tb with replica := Tab.set 0 s.tb.replica u 0 })
  else s.setTb { s.tb with replica := Tab.set 0 s.tb.replica u d }

/-- REPLICA_SYNC (03 R63). -/
def execReplicaSync (u : Fin 16) (v : BitVec 64) (s : State) : Host.Outcome State Fault Refusal :=
  .next (replicaSync u.val v.toNat s)

/-! ### Monitors and fallback (03 R52, R55) -/

/-- Every network, storage link and CAN controller loses its clock (03 R55 step 3). -/
def networkDown (s : State) : State :=
  let s1 := (List.finRange 14).foldl (fun s p => linkLoss p s) s
  let s2 := (List.finRange 2).foldl (fun s r => lossOfSignal r s) s1
  let s3 := (List.finRange 16).foldl (fun s p => starLinkLoss p s) s2
  let s4 := (List.finRange 4).foldl (fun s l => pcieLinkDown l s) s3
  (List.range 20).foldl (fun s n => canClockLoss n s) s4

/-- XA fallback (03 R55): EPLL and FPLL relock on FRC at their reduced rates, NPLL stops, the networks go down. A relock
that the device asked for sets no UL bit (DESIGN CHOICE log 150). -/
def xaFallback (s : State) : State :=
  let m := fld (s.rd .clkEpllfreq) 0 6 * 9 / 10
  let s1 := s.setClk { s.clk with
    fallback := true, mult := m, fpllMhz := 700
    lock := s.clk.lock &&& 0b1000, on := s.clk.on &&& 0b1011, onFrc := s.clk.onFrc ||| 0b0111 }
  alarm .clk (networkDown (s1.setBits .clkMonstat (bit 5)))

/-- XA is in use by the PLLs: the boot has passed step 2 with XA, and the crystal is powered. -/
def xaInUse (s : State) : Bool := bootPast s 2 && s.clk.xaOn && !s.clk.fallback && s.pwr.state ≠ .pewter

/-- XA has failed: fallback where it is in use; XAFAIL alone under fallback; before XA is confirmed at boot step 2, no
more than that no window has passed (03 R52, R55). -/
def xaFails (s : State) : State :=
  let s1 := s.setClk { s.clk with xaPass := 0 }
  if xaInUse s1 then xaFallback s1
  else if bootPast s1 2 && s1.pwr.state ≠ .pewter then s1.setBits .clkMonstat (bit 5) else s1

/-- The pewter domain changes its source; so does the timebase where it runs on the pewter counter (03 R55, R64). -/
def pewTo (xb : Bool) (s : State) : State :=
  let s1 := s.setClk { s.clk with pewOnXb := xb }
  if tbSrc s1 = 0 then s1 else handTo (pewSrc s1) s1

/-- XB has failed: the pewter domain runs on SRC (03 R55). -/
def xbFails (s : State) : State :=
  let s1 := s.setClk { s.clk with xbPass := 0 }
  alarm .clk (pewTo false (s1.setBits .clkMonstat (bit 6)))

/-- XB is confirmed: its delay has expired and four windows have passed (03 R52, R55). -/
def xbConfirm (s : State) : State :=
  if s.clk.xbDelay && s.clk.xbPass = 4 && !s.clk.pewOnXb then pewTo true s else s

/-- A window of the XB monitor (03 R55). The monitor is applied once the start delay has passed. -/
def xbWindow (cnt : Nat) (s : State) : State :=
  if !s.clk.xbDelay then s
  else if 113 ≤ cnt && cnt ≤ 137 then
    xbConfirm (s.setClk { s.clk with xbPass := min 4 (s.clk.xbPass + 1), xbFail := 0 })
  else
    let k := s.clk.xbFail + 1
    let s1 := s.setClk { s.clk with xbPass := 0, xbFail := if k ≥ 2 then 0 else k }
    if k ≥ 2 then xbFails s1 else s1

/-- XB_MONITOR_WINDOW (03 R55). -/
def execXbMonitorWindow (cnt : BitVec 16) (s : State) : Host.Outcome State Fault Refusal := .next (xbWindow cnt.toNat s)

/-- XB_STOP (03 R55). -/
def xbStop (s : State) : State := if s.clk.xbDelay then xbFails s else s

/-- XB_STOP (03 R55). -/
def execXbStop (s : State) : Host.Outcome State Fault Refusal := .next (xbStop s)

/-- The fuse load has not come since VPEW power-up or PORST_L (02 R48). -/
def fusesDue (s : State) : Bool :=
  tbHeld s || s.pwr.boot = .step 1 && !s.pwr.fatal || (s.pwr.boot = .held && (!s.pwr.armed || s.pwr.wrstHold = some 1))

/-- XB_DELAY_EXPIRY (03 R52): the XB monitor is applied; the delay is counted after the fuse load. -/
def xbDelayExpiry (s : State) : State :=
  if fusesDue s then s
  else s.setClk { s.clk with xbDelay := true }

/-- XB_DELAY_EXPIRY (03 R52). -/
def execXbDelayExpiry (s : State) : Host.Outcome State Fault Refusal := .next (xbDelayExpiry s)

/-- A window of the XA monitor, but for the end of boot step 2 (03 R55). -/
def xaJudge (cnt : Nat) (s : State) : State :=
  if !s.clk.xaOn then s
  else if 7373 ≤ cnt && cnt ≤ 9011 then s.setClk { s.clk with xaPass := min 4 (s.clk.xaPass + 1), xaFail := 0 }
  else
    let k := s.clk.xaFail + 1
    let s1 := s.setClk { s.clk with xaPass := 0, xaFail := if k ≥ 2 then 0 else k }
    if k ≥ 2 then xaFails s1 else s1

/-- XA_STOP (03 R55). -/
def xaStop (s : State) : State := if s.clk.xaOn then xaFails s else s

/-- XA_STOP (03 R55). -/
def execXaStop (s : State) : Host.Outcome State Fault Refusal := .next (xaStop s)

/-! ### PLLs and gates (03 R55, R57 to R59) -/

/-- PLL_UNLOCK (03 R55): the domains of the PLL run on FRC, and its UL bit is set, with an alarm (18 R409). -/
def pllUnlock (n : Nat) (s : State) : State :=
  if !(s.clk.on.getLsbD n && s.clk.lock.getLsbD n) then s
  else
    let s1 := s.setClk { s.clk with lock := setPll s.clk.lock n false, onFrc := setPll s.clk.onFrc n true }
    alarm .clk (s1.setBits .clkMonstat (bit n))

/-- PLL_UNLOCK (03 R55). -/
def execPllUnlock (n : Fin 4) (s : State) : Host.Outcome State Fault Refusal := .next (pllUnlock n.val s)

/-- A PLL locks: its domains switch to it; engines held for a relock go on (03 R57, R59). -/
def pllLockNow (n : Nat) (s : State) : State :=
  if !s.clk.on.getLsbD n || s.clk.lock.getLsbD n then s
  else s.setClk { s.clk with
    lock := setPll s.clk.lock n true, onFrc := setPll s.clk.onFrc n false
    engHeld := if n = 0 then false else s.clk.engHeld }

/-- PLL n starts, its domains on FRC; NPLL stays stopped under fallback (03 R57). -/
def pllStart (n : Nat) (s : State) : State :=
  if s.clk.on.getLsbD n || (n = 2 && s.clk.fallback) then s
  else s.setClk { s.clk with
    on := setPll s.clk.on n true, lock := setPll s.clk.lock n false, onFrc := setPll s.clk.onFrc n true }

/-- A write to PLLCTLn (03 R58): FORCE keeps the PLL powered in Run, so one that is off starts (DEDUCED log 139). -/
def pllctlWrite (w : Who) (n : Nat) (v : Word) (s : State) : State :=
  asFnd w s fun s =>
    let s1 := s.put .clkPllctl v n
    (if v.getLsbD 1 && s.pwr.state = .run then pllStart n s1 else s1).reply .ok

/-- CLOCK_REQUEST (03 R57): in Run, the gate opens; a PLL that is off starts, its domain on FRC. NPLL stays stopped under
fallback. -/
def clockRequest (d : Domain) (s : State) : State :=
  match domPll d with
  | none => s
  | some n =>
    if s.pwr.state ≠ .run || (n = 2 && s.clk.fallback) then s
    else
      let k := { s.clk with gates := s.clk.gates ||| BitVec.ofNat 7 (2 ^ domIdx d) }
      if k.on.getLsbD n then s.setClk k
      else s.setClk { k with on := setPll k.on n true, lock := setPll k.lock n false, onFrc := setPll k.onFrc n true }

/-- CLOCK_REQUEST (03 R57). -/
def execClockRequest (d : Domain) (s : State) : Host.Outcome State Fault Refusal := .next (clockRequest d s)

/-- The boot ROM runs on triad 0 (02 R48). -/
def bootRuns (s : State) : Bool := bootPast s 2 && !bootPast s 7 && !s.pwr.fatal

/-- An engine has work: the boot ROM, or a job (03 R57). -/
def engineWork (s : State) : Bool := bootRuns s || s.engs.any (fun e => e.2.job.isSome)

/-- The fabric, DRAM or peripheral domain has work: an engine's, a shared-engine job, a transfer, a snapshot, a CAN
controller, the console or a storage link (03 R51, R57). -/
def fabricWork (s : State) : Bool :=
  engineWork s || !s.she.jobs.isEmpty || s.arb.tgt.any (fun x => x.2.holder.isSome || !x.2.wait.isEmpty) ||
    s.parts.any (fun p => p.2.snapping) || s.schEn || (List.range 20).any (fun n => (s.rdA .canCtlS n).getLsbD 31) ||
    !s.sup.utx.isEmpty || s.sto.links.any (fun x => decide (x.2.state ≠ .off))

/-- The network domain has work: the switch or the Stolnet controller is enabled (03 R51, R57). -/
def networkWork (s : State) : Bool :=
  (List.range 14).any (fun p => (s.rdA .ethPcfgS p).getLsbD 31) || (s.rdA .stnCtlS).getLsbD 31

/-- A domain that PLL n feeds has work in Run, so that it requests the PLL; the time domain always does (03 R57, R58;
DEDUCED log 143). -/
def pllWork (s : State) (n : Nat) : Bool :=
  s.awake &&
    (match n with
     | 0 => engineWork s
     | 1 => fabricWork s
     | 2 => networkWork s
     | _ => true)

/-- PLL_HOLD_EXPIRY (03 R57, R58): a PLL that no domain has requested for HOLD powers down, but not TPLL, nor with HOLD at
FFFFh or FORCE set. -/
def pllHoldExpiry (n : Nat) (s : State) : State :=
  let c := s.rd .clkPllctl n
  if n = 3 || fld c 16 16 = 0xFFFF || c.getLsbD 1 || !s.awake || pllWork s n || !s.clk.on.getLsbD n then s
  else s.setClk { s.clk with
    on := setPll s.clk.on n false, lock := setPll s.clk.lock n false, onFrc := setPll s.clk.onFrc n true
    gates := s.clk.gates &&& ~~~ pllGates n }

/-- PLL_HOLD_EXPIRY (03 R57). -/
def execPllHoldExpiry (n : Fin 4) (s : State) : Host.Outcome State Fault Refusal := .next (pllHoldExpiry n.val s)

/-- A write to EPLLFREQ (03 R59): a change of MULT relocks EPLL, and every engine stays held until it locks; EPLLUL stays
as it is (DESIGN CHOICE log 150). -/
def freqWrite (w : Who) (v : Word) (s : State) : State :=
  asFnd w s fun s =>
    let m := fld v 0 6
    if !(20 ≤ m && m ≤ 40) || s.schEn then s.reply .denied
    else if m = fld (s.rd .clkEpllfreq) 0 6 then s.reply .ok
    else
      let s1 := s.wr .clkEpllfreq (wd m)
      (s1.setClk { s1.clk with
        mult := multNow s1, lock := setPll s1.clk.lock 0 false
        onFrc := setPll s1.clk.onFrc 0 true, engHeld := true }).reply .ok

/-- EPLLFREQ_WRITE (03 R59). -/
def execEpllfreqWrite (w : Who) (v : Word) (s : State) : Host.Outcome State Fault Refusal := .next (freqWrite w v s)

/-- MONSTAT (03 R56). -/
def monstat (s : State) : Word :=
  (s.rd .clkMonstat &&& 0x6F) ||| wd (b2n (!s.clk.pewQ.isEmpty) * 2 ^ 15 + b2n s.clk.fallback * 2 ^ 9 +
    b2n (s.clk.xbPass = 4) * 2 ^ 8 + b2n (s.clk.xaPass = 4) * 2 ^ 7)

/-- PLLCTLn (03 R58): DEMAND where a domain of the PLL has work, or has asked and asks still, which a read shows and the
device does not tell (DEDUCED log 143). -/
def pllctl (s : State) (n : Nat) : Word :=
  s.rd .clkPllctl n ||| wd (b2n (s.clk.lock.getLsbD n) * 8 + b2n (s.clk.on.getLsbD n) * 4 +
    b2n (pllWork s n || (s.clk.gates &&& pllGates n ≠ 0 && Config.stillAsks s.free)))

/-- A write to a pewter-domain register is posted: OK at once (03 R61). -/
def postPew (a : Nat) (v : Word) (s : State) : State := (s.setClk { s.clk with pewQ := s.clk.pewQ ++ [(a, v)] }).reply .ok

/-! ### Comparators (03 R68 to R73) -/

/-- Sets the compare time of comparator n. -/
def setCmp (n c : Nat) (s : State) : State := (s.wr .timTtCmpLo (lo32 c) n).wr .timTtCmpHi (hi32 c) n
/-- Comparator n belongs to partition p. -/
def ttOwnedBy (s : State) (n p : Nat) : Bool := (s.rd .timTtOwn n).getLsbD 31 && fld (s.rd .timTtOwn n) 0 10 = p
/-- A write that the owner of comparator n or the foundry partition makes (03 R69). -/
def asTtOwner (w : Who) (n : Nat) (s : State) (f : State → State) : State :=
  asAny w s fun p s => if p = 0 || ttOwnedBy s n p then f s else s.reply .denied

/-- The compare time after a periodic fire at time t: whether periods were missed, and the new time (03 R68). -/
def nextCmp (c per t : Nat) : Bool × Nat :=
  let c1 := c + per
  if c1 ≤ t then (true, (c1 + per * ((t - c1) / per + 1)) % 2 ^ 64) else (false, c1 % 2 ^ 64)

/-- Re-arms comparator n after a fire, or disables it. -/
def rearm (n : Nat) (ctl : Word) (s : State) : State :=
  if !ctl.getLsbD 1 then s.clrBits .timTtCtl 1 n
  else
    let per := s.rd .timTtPerS n
    let x := nextCmp (cmpOf s n) per.toNat s.now
    let s1 := setCmp n x.2 (s.wr .timTtPerA per n)
    if x.1 then s1.setBits .timTtStat (bit 1) n else s1

/-- What a fire of comparator n does beside its actions: FIRED, the next compare time or EN cleared, STEP, the wake
(03 R68). -/
def fireRegs (n : Nat) (s : State) : State :=
  let ctl := s.rd .timTtCtl n
  let s1 := rearm n ctl (s.setBits .timTtStat (bit 0) n)
  let s2 := s1.setTb { s1.tb with hit := s1.tb.hit &&& ~~~ bit n }
  let s3 := if s2.tb.stepped.getLsbD n then
      (s2.setBits .timTtStat (bit 2) n).setTb { s2.tb with stepped := s2.tb.stepped &&& ~~~ bit n } else s2
  if ctl.getLsbD 2 then s3.setBits .supWakesrc (bit 3) else s3

/-- A write that reaches comparator n in the tick of its fire takes effect after the fire: the fire comes first, and its
actions are owed (03 R72). -/
def fireFirst (n : Nat) (s : State) : State :=
  if !s.tb.hit.getLsbD n then s
  else
    let s1 := fireRegs n s
    s1.setTb { s1.tb with owed := s1.tb.owed ++ [(n, cmpOf s n, s.rd .timTtCtl n)] }

/-- A write to TTn_OWN (03 R69): allocates or releases. -/
def ttOwnWrite (w : Who) (n : Nat) (v : Word) (s : State) : State :=
  asFnd w s fun s =>
    let o := s.rd .timTtOwn n
    if v.getLsbD 31 then
      if o.getLsbD 31 && fld o 0 10 ≠ fld v 0 10 then (recordDenied (fld v 0 10) n s).reply .denied
      else (s.put .timTtOwn v n).reply .ok
    else (((fireFirst n s).put .timTtOwn v n).clrBits .timTtCtl 0x7F01 n).reply .ok

/-- COMPARATOR_ALLOCATE (03 R69). -/
def execComparatorAllocate (w : Who) (n : Fin 32) (v : Word) (s : State) : Host.Outcome State Fault Refusal :=
  .next (ttOwnWrite w n.val v s)

/-- Comparator n holds PPS output i: EN and the ACT bit (03 R71). -/
def holdsPps (c : Word) (i : Nat) : Bool := c.getLsbD 0 && c.getLsbD (13 + i)

/-- The CTL word would hold a PPS bit that another comparator holds. -/
def ppsTaken (s : State) (n : Nat) (v : Word) : Bool :=
  (List.range 2).any (fun i => holdsPps v i && (List.range 32).any (fun m => m ≠ n && holdsPps (s.rd .timTtCtl m) i))

/-- A write to TTn_CTL (03 R69 to R71). -/
def ctlPut (w : Who) (n : Nat) (v : Word) (s : State) : State :=
  let old := s.rd .timTtCtl n
  let x := v &&& 0x7F07
  if (x.getLsbD 10 || x.getLsbD 13 || x.getLsbD 14) && !ttOwnedBy s n 0 then s.reply .denied
  else if x.getLsbD 0 && x.getLsbD 1 && s.rd .timTtPerS n = 0 then s.reply .denied
  else if ppsTaken s n x then (recordDenied (whoPart w) n s).reply .denied
  else
    let s1 := s.wr .timTtCtl x n
    let s2 := if x.getLsbD 0 && !old.getLsbD 0 then
        s1.setTb { s1.tb with stepped := s1.tb.stepped &&& ~~~ bit n } else s1
    s2.reply .ok

/-- A write to TTn_CTL by an initiator: after a fire of the same tick (03 R69 to R72). -/
def ttCtlWrite (w : Who) (n : Nat) (v : Word) (s : State) : State :=
  asTtOwner w n s fun s => ctlPut w n v (fireFirst n s)

/-- COMPARATOR_CONTROL_WRITE (03 R71). -/
def execComparatorControlWrite (w : Who) (n : Fin 32) (v : Word) (s : State) : Host.Outcome State Fault Refusal :=
  .next (ttCtlWrite w n.val v s)

/-- The valid release group that comparator n is bound to (07 R165). -/
def groupOf (s : State) (n : Nat) : Option Nat := (List.range 16).find? (fun g => groupOk s g && groupCmp s g = n)

/-- A write to TTn_PER_S (03 R70, 07 R166, R183). -/
def perPut (n : Nat) (v : Word) (s : State) : State :=
  let c := s.rd .timTtCtl n
  if v ≠ 0 && !(1000 ≤ v.toNat && v.toNat ≤ 4000000000) then s.reply .denied
  else if v = 0 && c.getLsbD 0 && c.getLsbD 1 then s.reply .denied
  else
    let s1 := s.wr .timTtPerS v n
    match groupOf s n with
    | none => s1.reply .ok
    | some g =>
      let ms := (members s).filter (fun m => relGrp (s.rd .schPdRelS m) = g)
      let div := (members s).any (fun m =>
        (relGrp (s.rd .schPdRelS m) = g && relDiv (s.rd .schPdRelS m) ≠ 1) ||
          ((s.part m).state.admitted && relGrp (s.rdA .schPdRelS m) = g && relDiv (s.rdA .schPdRelS m) ≠ 1))
      if div then s.reply .denied
      else if !admits s1 ms then admFail s
      else s1.reply .ok

/-- A write to TTn_PER_S by an initiator: after a fire of the same tick (03 R69 to R72). -/
def ttPerWrite (w : Who) (n : Nat) (v : Word) (s : State) : State :=
  asTtOwner w n s fun s => perPut n v (fireFirst n s)

/-- COMPARATOR_PERIOD_WRITE (07 R166). -/
def execComparatorPeriodWrite (w : Who) (n : Fin 32) (v : Word) (s : State) : Host.Outcome State Fault Refusal :=
  .next (ttPerWrite w n.val v s)

/-- Targets take the actions of a fire: in Run, and not in a reset (03 R68, R72). -/
def actionsTaken (s : State) : Bool := s.pwr.state = .run && !inReset s

/-- A PPS output starts, or restarts, its pulse. -/
def ppsStart (i : Nat) (s : State) : State :=
  s.setTb (if i = 0 then { s.tb with pps0 := true } else { s.tb with pps1 := true })

/-- A fire of release group g with compare time c: its partitions fall due, and where one does the engine domain is
requested (07 R167). -/
def prewake (g c : Nat) (s : State) : State :=
  let t := groupFire g c s
  if t.sch.due.length > s.sch.due.length then clockRequest .engine t else t

/-- The actions of a fire with compare time c (03 R68, R73). -/
def fireActions (n c : Nat) (ctl : Word) (meas : List Meas) (s : State) : State :=
  let s1 := if ctl.getLsbD 8 then alpFire n meas s else s
  let s2 := if ctl.getLsbD 9 then diLatch n s1 else s1
  let s3 := if ctl.getLsbD 12 then loopFire n (doFire n s2) else s2
  let s4 := if ctl.getLsbD 11 && stnTt s3 = n then stnFire c s3 else s3
  let s5 := if ctl.getLsbD 10 then
      (match groupOf s4 n with
       | some g => prewake g c s4
       | none => s4) else s4
  let s6 := if ctl.getLsbD 13 then ppsStart 0 s5 else s5
  if ctl.getLsbD 14 then ppsStart 1 s6 else s6

/-- COMPARATOR_FIRE (03 R68, R72): the actions of a fire that a write followed in its tick are delivered first. -/
def comparatorFire (n : Nat) (meas : List Meas) (s : State) : State :=
  match s.tb.owed.find? (fun x => x.1 = n) with
  | some x =>
    let s1 := s.setTb { s.tb with owed := s.tb.owed.erase x }
    if actionsTaken s1 then fireActions n x.2.1 x.2.2 meas s1 else s1
  | none =>
    let ctl := s.rd .timTtCtl n
    let c := cmpOf s n
    if tbHeld s || !ctl.getLsbD 0 || decide (s.now < c) then s
    else
      let s1 := fireRegs n s
      if actionsTaken s1 then fireActions n c ctl meas s1 else s1

/-- COMPARATOR_FIRE (03 R68). -/
def execComparatorFire (n : Fin 32) (meas : List Meas) (s : State) : Host.Outcome State Fault Refusal :=
  .next (comparatorFire n.val meas s)

/-- PPS_PULSE_END (03 R75). -/
def ppsEnd (i : Nat) (s : State) : State :=
  s.setTb (if i = 0 then { s.tb with pps0 := false } else { s.tb with pps1 := false })

/-- PPS_PULSE_END (03 R75). -/
def execPpsPulseEnd (i : Fin 2) (s : State) : Host.Outcome State Fault Refusal := .next (ppsEnd i.val s)

/-- The level of PPS output i (03 R75). -/
def ppsLevel (s : State) (i : Nat) : Bool :=
  (if i = 0 then s.tb.pps0 else s.tb.pps1) != (s.rd .timPpsCtl i).getLsbD 1

/-! ### Trigger inputs (03 R74) -/

/-- The stamp of a trigger edge in units of 2^-16 ns: within 8 ns in fast mode. -/
def trigStamp (s : State) : Nat :=
  let t : Int := s.nowAt 0 * 65536 + Int.ofNat (frac16 s)
  if tbSrc s = 0 then ((t + Int.ofNat (Config.trigError s.free).val - 524288) % 2 ^ 80).toNat else t.toNat

/-- TRIG_EDGE (03 R74, 02 R41): the wake source is latched whether or not EN is set. -/
def trigEdge (i : Nat) (rising : Bool) (s : State) : State :=
  let c := s.rd .timTrigCtl i
  if tbHeld s || rising = c.getLsbD 1 then s
  else
    let s1 := s.setBits .supWakesrc (bit (1 + i))
    if !c.getLsbD 0 then s1
    else if c.getLsbD 3 then s1.setBits .timTrigCtl (bit 2) i
    else
      let t := trigStamp s1
      ((((s1.spend.wr .timTrigLo (lo32 (t / 65536)) i).wr .timTrigHi (hi32 (t / 65536)) i).wr
        .timTrigFrac (wd (t % 65536)) i).setBits .timTrigCtl (bit 3) i)

/-- TRIG_EDGE (03 R74). -/
def execTrigEdge (i : Fin 2) (rising : Bool) (s : State) : Host.Outcome State Fault Refusal :=
  .next (trigEdge i.val rising s)

/-- A read of a stamp's low word latches the other words for the reader and clears VALID (03 R74). -/
def trigRead (w : Who) (i : Nat) (s : State) : State :=
  asReader w .timTrigLo s fun _ s =>
    (((s.wrB (whoBank w) .timTrigHi (s.rd .timTrigHi i) i).wrB (whoBank w) .timTrigFrac (s.rd .timTrigFrac i) i).clrBits
      .timTrigCtl (bit 3) i).answer .ok (s.rd .timTrigLo i)

/-- TRIG_STAMP_READ (03 R74). -/
def execTrigStampRead (w : Who) (i : Fin 2) (s : State) : Host.Outcome State Fault Refusal := .next (trigRead w i.val s)

/-! ### Registers -/

/-- Writes of CLK and TIM registers with rules of their own; none for the others. -/
def timWrite (w : Who) (r : Reg) (i : Nat) (v : Word) (s : State) : Option State :=
  match r with
  | .clkXadly | .clkXbdly =>
    some (asFnd w s fun s => if (s.fuse 0).getLsbD 17 then s.reply .denied else postPew (r.addr 0 0) v s)
  | .clkEpllfreq => some (freqWrite w v s)
  | .clkPllctl => some (pllctlWrite w i v s)
  | .timTbinc => some (asFnd w s fun s =>
      if 0x3FEF9DB3 ≤ v.toNat && v.toNat ≤ 0x4010624D then (s.wr .timTbinc v).reply .ok else s.reply .denied)
  | .timTbslew => some (slewWrite w v s)
  | .timTbstepLo => some (asFnd w s fun s => (s.setTb { s.tb with stepLo := v }).reply .ok)
  | .timTbstepHi => some (stepWrite w v s)
  | .timPpsCtl => some (asFnd w s fun s =>
      if 1 ≤ fld v 12 20 && fld v 12 20 ≤ 500000 then (s.put .timPpsCtl v i).reply .ok else s.reply .denied)
  | .timTtCtl => some (ttCtlWrite w i v s)
  | .timTtCmpLo | .timTtCmpHi => some (asTtOwner w i s fun s =>
      if (s.rd .timTtCtl i).getLsbD 0 then s.reply .busy else (s.put r v i).reply .ok)
  | .timTtPerS => some (ttPerWrite w i v s)
  | .timTtStat => some (asTtOwner w i s fun s => (s.put r v i).reply .ok)
  | .timTtOwn => some (ttOwnWrite w i v s)
  | .timTtPerA => some (asTtOwner w i s fun s => s.reply .ok)
  | _ => none

/-- Reads of CLK and TIM registers with rules of their own; none for the others. -/
def timRead (w : Who) (r : Reg) (i : Nat) (s : State) : Option State :=
  match r with
  | .clkMonstat => some (s.answer .ok (monstat s))
  | .clkPllctl => some (s.spend.answer .ok (pllctl s i))
  | .timTbnsLo => some (tbnsRead w s)
  | .timTbnsHi | .timTbfrac => some (s.answer .ok (s.rdB (whoBank w) r))
  | .timTbslew => some (s.answer .ok (BitVec.ofInt 32 (s.tb.slew.tdiv (2 ^ 28))))
  | .timTbstat => some (s.answer .ok (s.rd .timTbstat ||| wd (b2n (decide (s.tb.slew ≠ 0)) * 4)))
  | .timTrigLo => some (trigRead w i s)
  | .timTrigHi | .timTrigFrac => some (s.answer .ok (s.rdB (whoBank w) r i))
  | _ => none

end Sys2Proof.Machine
end

