-- ==== Sys2Proof/Machine/Triads.lean ====
section
/-!
DEFINITION. The triads (04): comparison and voting, odd lanes and retirement, ingot resynchronisation, split and merge,
debug halts and fault injection.
-/

namespace Sys2Proof.Machine

/-! ### Odd lanes and faults (04 R83, R86, R90, R91) -/

/-- The triad is in RESYNC, BIST or HANDOVER. -/
def inHandover (s : State) (t : Nat) : Bool :=
  match (s.triad t).state with
  | .resync | .bist | .handover => true
  | _ => false

/-- A halt request that waits is taken when the triad leaves RESYNC, BIST or HANDOVER (04 R96). -/
def takeHalt (t : Nat) (s : State) : State :=
  let x := s.triad t
  if !x.haltPend then s
  else
    let m : BitVec 3 := if splitRuns s t then BitVec.ofNat 3 (2 ^ fld (s.rd .fabTdbg t) 4 2) else 0b111
    s.setTriad t { x with haltPend := false, halted := x.halted ||| m }

/-- The triad enters FAULTED and its job is abandoned (04 R91); a halt request that waits is taken (04 R96). -/
def triadFails (t : Nat) (s : State) : State := takeHalt t (abandon (3 * t) (faultTriad t s))

/-- Odd events of a lane within the retirement window, the latest first in the history (04 R90, R100). -/
def oddCount (s : State) (t : Nat) (l : Lane) : Nat :=
  let w := fld (s.rd .fabLanecfg) 8 8 * 3600000000000
  ((s.triad t).hist.filter (fun h => h.1 = l && decide (s.now < h.2 + w))).length

/-- The bit of a lane. -/
def laneBit (l : Lane) : BitVec 3 := BitVec.ofNat 3 (2 ^ l.idx)

/-- Lanes of triad t are retired (04 R90, R94, R95). -/
def retireLanes (t : Nat) (m : BitVec 3) (s : State) : State :=
  if m = 0 then s
  else
    let x := s.triad t
    triadEvent t (bit 3) (record .laneRetired 0 [wd t, wd m.toNat] (s.setTriad t { x with retired := x.retired ||| m }))

/-- A lane is odd with a cause (04 R86): it is held, counted, stamped and reported; enough events retire it. -/
def laneOdd (t : Nat) (l : Lane) (c : OddCause) (st : TState) (s : State) : State :=
  let x := s.triad t
  let n := s.rd .fabTodd t
  let s1 := s.setTriad t { x with
    state := st, odd := some l, cause := c, hist := (l, s.now) :: x.hist, inj := none, rsPend := true
    rsDue := fld (s.rd .fabLanecfg) 16 8 = 0, shown := x.shown.filter (fun p => p.lane ≠ l)
    await := x.await.filter (fun a => a.lane ≠ l), late := x.late.filter (fun p => p.lane ≠ l) }
  let s2 := s1.wr .fabTodd (fset n (8 * l.idx) 8 (min 255 (fld n (8 * l.idx) 8 + 1))) t
  let s3 := record .laneOdd 0 [wd t, wd l.idx, wd c.ctorIdx] (triadStamp t (triadEvent t (bit 1) s2))
  let lim := fld (s3.rd .fabLanecfg) 0 4
  if lim ≠ 0 ∧ lim ≤ oddCount s3 t l then
    let s4 := retireLanes t (laneBit l) s3
    retireCheck t (s4.setTriad t { s4.triad t with rsPend := false, rsDue := false })
  else s3

/-- The first output of a lane that is not decided yet. -/
def headOf (x : Triad) (l : Lane) : Option Shown := x.shown.find? (fun p => p.lane = l)

/-- Two lanes are left: where both have presented an output, the two differ, and the comparison of two faults (04 R82). -/
def leftTwo (t : Nat) (s : State) : State :=
  let x := s.triad t
  if alloyRuns s t && decide (2 ≤ ([Lane.a, Lane.b, Lane.c].filterMap (headOf x)).length) then triadFails t s else s

/-- A lane makes itself odd, or loses the vote (04 R79, R81, R83): a second lane out faults the triad. -/
def goOdd (t : Nat) (l : Lane) (c : OddCause) (s : State) : State :=
  let x := s.triad t
  if x.odd = some l then s
  else
    match x.state with
    | .alloy3 => leftTwo t (laneOdd t l c .alloy2 s)
    | .alloy2 => triadFails t s
    | .quiesce => if splitMode s t then s else if x.odd.isSome then triadFails t s else leftTwo t (laneOdd t l c .quiesce s)
    | _ => s

/-- The number of single-bit L2 errors that a lane has corrected goes up (04 R83). -/
def countL2 (t : Nat) (l : Lane) (s : State) : State :=
  let x := s.triad t
  s.setTriad t { x with l2Corr := Tab.set 0 x.l2Corr l.idx (Tab.get 0 x.l2Corr l.idx + 1) }

/-- SELF_ERROR (04 R83): an error that a lane's caches detect; a single-bit L2 error is corrected and counted, any other
makes the lane odd. -/
def selfError (t : Nat) (l : Lane) (corrected : Bool) (s : State) : State :=
  if corrected then countL2 t l s else goOdd t l .self s

/-- SELF_ERROR (04 R83). -/
def execSelfError (t : Fin 32) (err : LaneErr) (s : State) : Host.Outcome State Fault Refusal :=
  .next (selfError t err.lane err.corrected s)

/-- The comparator and voter of triad t compare: in alloy mode, in the voted stores of a resync, and in those of the flush
of a split (04 R84, R88, R94). -/
def compares (s : State) (t : Nat) : Bool :=
  alloyRuns s t ||
    (match (s.triad t).state with
     | .resync => true
     | .handover => splitMode s t
     | _ => false)

/-- VOTER_DISAGREEMENT (04 R84): the triad enters FAULTED while it compares. -/
def voterDisagreement (t : Fin 32) (s : State) : State := if compares s t then triadFails t s else s

/-- VOTER_DISAGREEMENT (04 R84). -/
def execVoterDisagreement (t : Fin 32) (s : State) : Host.Outcome State Fault Refusal := .next (voterDisagreement t s)

/-! ### Resynchronisation (04 R87 to R90) -/

/-- A half of an ingot slot: header words, registers and nesting stack as given, and the CRC (04 R87). -/
def ingotHalf (t seq : Nat) (part pc sw la : Word) (nest regs : List Byte) : List Byte :=
  let b := leBytes 4 (2 ^ 24 + t * 65536 + seq % 65536) ++ leBytes 4 part.toNat ++ leBytes 4 pc.toNat ++ leBytes 4 sw.toNat ++
    leBytes 4 la.toNat ++ nest ++ leBytes 4 0 ++ regs ++ List.replicate 28 0
  b ++ leBytes 4 (crc32c b).toNat

/-- The idle ingot of triad t with a sequence number (04 R87, R95). -/
def ingotBytes (t seq : Nat) : List Byte :=
  ingotHalf t seq 0 Config.dispatchEntry 0 0 (List.replicate 8 0) (List.replicate 192 0)

/-- The nesting entries of an odd lane: those at and above the depth are 0 (04 R87). -/
def oddNest (k depth : Nat) : List Byte :=
  leBytes 8 (leNat ((List.range 8).map (Config.oddLane k)) % 16 ^ depth)

/-- The odd lane's own state in the layout of the ingot (04 R87): its registers are free values (DESIGN CHOICE log 45). -/
def diagBytes (t seq k : Nat) : List Byte :=
  let w (i : Nat) : Word := wd (leNat ((List.range 4).map (fun j => Config.oddLane k (i + j))))
  let depth := fld (w 24) 16 5 % 17
  ingotHalf t seq (w 12 &&& 0x800003FF) (w 16) (w 20) ((w 24 &&& 0x11F) ||| wd (depth * 65536)) (oddNest k depth)
    ((List.range 192).map (fun j => Config.oddLane k (32 + j)))

/-- Triad t enters RESYNC (04 R88): the odd lane's own state goes into the diagnostic half of the slot. The ingot's sequence
number counts per triad from 1 (DESIGN CHOICE log 152). -/
def enterResync (t : Nat) (s : State) : State :=
  let x := s.triad t
  let s1 := s.spend.setTriad t { x with state := .resync, rsStart := s.now, shown := [], await := [], late := [] }
  (memWrite (ingotBase + t * 512 + 256) (diagBytes t (x.ingots + 1) s.free) s1).2

/-- The good lanes write the ingot, once the flush has come through (04 R88). -/
def writeIngot (t : Nat) (s : State) : State :=
  let x := s.triad t
  (memWrite (ingotBase + t * 512) (ingotBytes t (x.ingots + 1)) (s.setTriad t { x with ingots := x.ingots + 1 })).2

/-- The lanes of triad t hold the idle ingot (04 R88, R95). -/
def loadIdle (t : Nat) (s : State) : State := s.setEng (3 * t) { pc := Config.dispatchEntry }

/-- The queue of triad t is empty. -/
def queueEmpty (s : State) (t : Nat) : Bool :=
  s.parts.all (fun p => !(p.2.state = .queued && isHome s p.1 (3 * t)))

/-- RESYNC (04 R88): at a job boundary with a resync due. -/
def resync (t : Fin 32) (s : State) : State :=
  let x := s.triad t
  if x.state = .alloy2 && x.rsPend && triadIdle s t && (x.rsDue || queueEmpty s t) then enterResync t s else s

/-- RESYNC (04 R88). -/
def execResync (t : Fin 32) (s : State) : Host.Outcome State Fault Refusal := .next (resync t s)

/-- RESYNC_DEFER_EXPIRY (04 R88). -/
def resyncDefer (t : Fin 32) (s : State) : State :=
  let x := s.triad t
  if x.rsPend then s.setTriad t { x with rsDue := true } else s

/-- RESYNC_DEFER_EXPIRY (04 R88). -/
def execResyncDeferExpiry (t : Fin 32) (s : State) : Host.Outcome State Fault Refusal := .next (resyncDefer t s)

/-- A completed resync: RSDONE, the count and the duration (04 R88, R102). -/
def resyncCount (t : Nat) (s : State) : State :=
  let w := s.rd .fabTrsyn t
  let d := min 0xFFFF ((s.now - (s.triad t).rsStart) / 10)
  triadEvent t (bit 2) (s.wr .fabTrsyn (wd (min 0xFFFF (fld w 16 16 + 1) * 65536 + d)) t)

/-- The lanes that fail of a 3-bit result. -/
def failedLanes (pass : BitVec 3) : List Lane := [Lane.a, Lane.b, Lane.c].filter (fun l => !pass.getLsbD l.idx)

/-- A MODE is requested that is not the active one. -/
def modeDiffers (s : State) (t : Nat) : Bool := wantsSplit s t != splitMode s t

/-- A MODE that differs from the active MODE puts a triad that runs into QUIESCE; one that restores it withdraws the request,
in RESYNC too until the hand-over boundary (04 R92, R93). -/
def modeFollow (t : Nat) (s : State) : State :=
  let x := s.triad t
  match x.state with
  | .alloy3 | .alloy2 | .split =>
    if modeDiffers s t then s.setTriad t { x with state := .quiesce, before := x.state, req := true, inj := none }
    else s
  | .quiesce =>
    if modeDiffers s t then s
    else retireCheck t
      (s.setTriad t { x with state := if x.before = .alloy3 && x.odd.isSome then .alloy2 else x.before, req := false })
  | .resync => if x.swapped then s else s.setTriad t { x with req := modeDiffers s t }
  | _ => s

/-- After the swap of TCTLn_S: the self-test where R93 calls for it, else the hand-over. -/
def proceed (t : Nat) (s : State) : State :=
  let x := s.triad t
  let test := (s.rd .fabTctlA t).getLsbD 2 || (splitMode s t && x.odd.isSome)
  s.setTriad t { x with state := if test then .bist else .handover, rsPend := false, rsDue := false }

/-- Three lanes have passed: ALLOY3, or QUIESCE where a hand-over is requested, from which one whose boundary has passed goes
on at once (04 R79, R93). -/
def resyncAll (t : Nat) (s : State) : State :=
  let x := s.triad t
  let s1 := loadIdle t (resyncCount t (s.setTriad t { x with
    state := .alloy3, odd := none, rsPend := false, rsDue := false, before := .alloy3 }))
  if x.swapped then proceed t s1 else takeHalt t (modeFollow t s1)

/-- Two lanes have passed: ALLOY2 with the third odd, from which a hand-over whose boundary has passed goes on at once
(04 R79, R88, R93). -/
def resyncTwo (t : Nat) (l : Lane) (s : State) : State :=
  let x := s.triad t
  let s1 := s.setTriad t { x with odd := none, rsPend := false, rsDue := false, before := .alloy2 }
  let s2 := loadIdle t (laneOdd t l .self .alloy2 (resyncCount t s1))
  if (s2.triad t).state = .faulted then takeHalt t s2
  else if x.swapped then proceed t s2 else takeHalt t (modeFollow t s2)

/-- Fewer than two lanes have passed: those that fail are odd, and the triad is FAULTED (04 R79, R88). -/
def resyncFails (t : Nat) (ls : List Lane) (s : State) : State :=
  triadFails t (ls.foldl (fun s l => laneOdd t l .self .resync s) (s.setTriad t { s.triad t with odd := none }))

/-- RESYNC_DONE (04 R79, R88): a mismatch in the flush faults the triad; else the ingot is written, and the lanes that pass
decide. -/
def resyncDone (t : Fin 32) (pass : BitVec 3) (flushOk : Bool) (s : State) : State :=
  if (s.triad t).state ≠ .resync then s
  else if !flushOk then triadFails t s
  else
    let s1 := writeIngot t s
    match failedLanes pass with
    | [] => resyncAll t s1
    | [l] => resyncTwo t l s1
    | ls => resyncFails t ls s1

/-- RESYNC_DONE (04 R88). -/
def execResyncDone (t : Fin 32) (pass : BitVec 3) (flushOk : Bool) (s : State) : Host.Outcome State Fault Refusal :=
  .next (resyncDone t pass flushOk s)

/-! ### Split and merge (04 R92 to R96) -/

/-- A write to TCTLn_S (04 R92, R93): admission runs over the capacity that a split, or the end of one, leaves (07 R183); in FAULTED it swaps at once and starts the self-test. -/
def tctlWrite (w : Who) (t : Nat) (v : Word) (s : State) : State :=
  asFnd w s fun s =>
    let m := fld v 0 2
    let x := s.triad t
    let s1 := s.put .fabTctlS v t
    let s2 := modeFollow t s1
    if m ≥ 2 then s.reply .denied
    else if m = 0 && x.retired ≠ 0 then s.reply .denied
    else if (m = 1 && countsA s t && capA s2 = 0) || ((m = 1 || splitRuns s t) && !(check1 s2 && check2 s2)) then admFail s
    else if x.state = .faulted then
      ((s1.wr .fabTctlA (s1.rd .fabTctlS t) t).setTriad t { x with state := .bist, req := true, swapped := true }).reply .ok
    else s2.reply .ok

/-- MODE_REQUEST (04 R92). -/
def execModeRequest (w : Who) (t : Fin 32) (v : Word) (s : State) : Host.Outcome State Fault Refusal :=
  .next (tctlWrite w t v s)

/-- HANDOVER_BOUNDARY (04 R78, R93): TCTLn_S swaps; a pending resync first, then the self-test where R93 calls for it,
else the hand-over. -/
def handoverBoundary (t : Fin 32) (s : State) : State :=
  let x := s.triad t
  if !(x.state = .quiesce && triadIdle s t) then s
  else
    let s1 := s.wr .fabTctlA (s.rd .fabTctlS t) t
    let retired := match x.odd with
      | some l => x.retired.getLsbD l.idx
      | none => true
    let s2 := s1.setTriad t { s1.triad t with swapped := true }
    if x.rsPend && !retired then enterResync t s2 else proceed t s2

/-- HANDOVER_BOUNDARY (04 R93). -/
def execHandoverBoundary (t : Fin 32) (s : State) : Host.Outcome State Fault Refusal := .next (handoverBoundary t s)

/-- BIST_COMPLETE (04 R94, R95): failing lanes are retired; a split needs one lane that passes, a merge three. -/
def bistComplete (t : Fin 32) (pass : BitVec 3) (s : State) : State :=
  if (s.triad t).state ≠ .bist then s
  else
    let s1 := retireLanes t (~~~ pass) s
    let ok := if splitMode s1 t then decide ((s1.triad t).retired ≠ 0b111) else decide ((s1.triad t).retired = 0)
    if ok then s1.setTriad t { s1.triad t with state := .handover } else triadFails t s1

/-- BIST_COMPLETE (04 R94). -/
def execBistComplete (t : Fin 32) (pass : BitVec 3) (s : State) : Host.Outcome State Fault Refusal :=
  .next (bistComplete t pass s)

/-- A hand-over has completed in a state: HOVER, and QUIESCE again where the shadow already differs (04 R79, R94, R95). -/
def handoverEnd (t : Nat) (st : TState) (s : State) : State :=
  let x := s.triad t
  let s1 := s.setTriad t { x with state := st, odd := none, req := false, swapped := false, stopped := 0, rsPend := false
                                  rsDue := false, shown := [], await := [], late := [], issued := none, got := [] }
  modeFollow t (takeHalt t (triadEvent t (bit 0) s1))

/-- SPLIT_COMPLETE (04 R94). -/
def splitComplete (t : Fin 32) (s : State) : State :=
  if (s.triad t).state = .handover && splitMode s t then handoverEnd t .split s else s

/-- SPLIT_COMPLETE (04 R94). -/
def execSplitComplete (t : Fin 32) (s : State) : Host.Outcome State Fault Refusal := .next (splitComplete t s)

/-- MERGE_COMPLETE (04 R95): three lanes that pass, else FAULTED with the failing ones retired. -/
def mergeComplete (t : Fin 32) (pass : BitVec 3) (s : State) : State :=
  if (s.triad t).state = .handover && !splitMode s t then
    if pass = 0b111 && (s.triad t).retired = 0 then handoverEnd t .alloy3 (loadIdle t s)
    else triadFails t (retireLanes t (~~~ pass) s)
  else s

/-- MERGE_COMPLETE (04 R95). -/
def execMergeComplete (t : Fin 32) (pass : BitVec 3) (s : State) : Host.Outcome State Fault Refusal :=
  .next (mergeComplete t pass s)

/-- ENGINE_ERROR (04 R94): a split engine stops alone and its job is abandoned. -/
def engineError (e : Fin 96) (s : State) : State :=
  let t := e.val / 3
  if !execSplit s e then s
  else
    let x := s.triad t
    let s1 := s.setTriad t { x with stopped := x.stopped ||| BitVec.ofNat 3 (2 ^ (e.val % 3)) }
    let s2 := record .engineError 0 [wd e.val] (triadStamp t (triadEvent t (bit 4) s1))
    abandon e (loseHome e false s2)

/-- ENGINE_ERROR (04 R94). -/
def execEngineError (e : Fin 96) (s : State) : Host.Outcome State Fault Refusal := .next (engineError e s)

/-! ### Debug halts and fault injection (04 R97, R98, R101, R106) -/

/-- The lanes that a TDBG write acts on: all of an alloy triad, the selected engine in split mode. -/
def dbgLanes (s : State) (t : Nat) (v : Word) : BitVec 3 :=
  if splitRuns s t then BitVec.ofNat 3 (2 ^ fld v 4 2) else 0b111

/-- A halt or a resume: an access that was being re-issued on a halted lane issues afresh on resume (06 R154). -/
def dropRetries (t : Nat) (s : State) : State :=
  (List.range 3).foldl (fun s i =>
    if (s.eng (3 * t + i)).retry.isSome && execHalted s (3 * t + i) then
      s.setEng (3 * t + i) { s.eng (3 * t + i) with retry := none }
    else s) s

/-- A write to TDBGn, but for its STEP: only the debug port, at a level that lets it halt (04 R97, R106). -/
def tdbgWrite (w : Who) (t : Nat) (v : Word) (s : State) : State :=
  match w with
  | .part _ => s.reply .denied
  | .dbg =>
    if !debugWrites s then refuseDebug s
    else if fld v 4 2 = 3 then s.reply .denied
    else
      let s1 := s.put .fabTdbg v t
      let x := s1.triad t
      let m := dbgLanes s1 t v
      let y := if v.getLsbD 0 then
          if inHandover s1 t then { x with haltPend := true } else { x with halted := x.halted ||| m }
        else { x with haltPend := false, halted := x.halted &&& ~~~ m }
      (dropRetries t (s1.setTriad t y)).reply .ok

/-- HALT_REQUEST (04 R97). -/
def execHaltRequest (w : Who) (t : Fin 32) (v : Word) (s : State) : Host.Outcome State Fault Refusal :=
  .next (tdbgWrite w t (v ||| 1) s)

/-- DEBUG_RESUME (04 R106): HALTREQ written 0. -/
def debugResume (w : Who) (t : Nat) (v : Word) (s : State) : State := tdbgWrite w t (v &&& ~~~ 1) s

/-- DEBUG_RESUME (04 R106). -/
def execDebugResume (w : Who) (t : Fin 32) (v : Word) (s : State) : Host.Outcome State Fault Refusal :=
  .next (debugResume w t v s)

/-- A write to FAB.INJ (04 R98, R101). -/
def injWrite (w : Who) (v : Word) (s : State) : State :=
  asFnd w s fun s =>
    let t := fld v 16 5
    let x := s.triad t
    let l := match fld v 8 2 with
      | 0 => Lane.a | 1 => .b | _ => .c
    if fld v 8 2 = 3 || fld v 0 2 = 3 || x.state ≠ .alloy3 || x.req then s.reply .denied
    else if !v.getLsbD 31 then s.reply .ok
    else if x.inj.isSome then s.reply .busy
    else (s.setTriad t { x with inj := some (l, BitVec.ofNat 2 (fld v 0 2)) }).reply .ok

/-- FAULT_INJECTION (04 R98). -/
def execFaultInjection (w : Who) (v : Word) (s : State) : Host.Outcome State Fault Refusal := .next (injWrite w v s)

/-- An armed injection of kind SELF applies as a job's instruction executes on the triad (04 R98). -/
def selfInjection (e : Nat) (s : State) : State :=
  let x := s.triad (e / 3)
  match x.inj with
  | some (l, k) =>
    if k = 2 && execAlloy s e then goOdd (e / 3) l .self (s.setTriad (e / 3) { x with inj := none }) else s
  | none => s

/-! ### Registers (04 R99 to R106) -/

/-- A map register: bit t for each triad that satisfies a predicate. -/
def triadMap (f : Nat → Bool) : Word := wd (((List.range 32).filter f).map (2 ^ ·)).sum

/-- The code of a triad state (04 R77). -/
def TState.code : TState → Nat
  | .alloy3 => 0 | .alloy2 => 1 | .resync => 2 | .quiesce => 3 | .handover => 4 | .split => 5 | .faulted => 6 | .bist => 7

/-- The partition whose job runs on triad t in alloy mode. -/
def triadJob (s : State) (t : Nat) : Option Part := if alloyRuns s t then (s.eng (3 * t)).job else none

/-- FAB.TSTATn (04 R104): QREQ while a requested MODE is not the active one. -/
def tstat (s : State) (t : Nat) : Word :=
  let x := s.triad t
  let q := (x.state ≠ .faulted && modeDiffers s t) || !s.sch.enabledOnce
  let part := match triadJob s t with
    | some n => n.toNat
    | none => 0
  wd (x.state.code * 2 ^ 20 + x.cause.ctorIdx * 65536 + b2n x.rsPend * 2 ^ 15 + b2n (x.halted ≠ 0) * 2 ^ 14 +
    x.retired.toNat * 2 ^ 11 + b2n q * 1024 + part)

/-- FAB.TEVn (04 R105). -/
def tev (s : State) (t : Nat) : Word :=
  let odd := match (s.triad t).odd with
    | some l => l.idx
    | none => 3
  s.rd .fabTev t ||| wd (odd * 65536 + b2n (triadJob s t).isSome * 256)

/-- Writes of FAB registers with rules of their own; none for the others. -/
def fabWrite (w : Who) (r : Reg) (i : Nat) (v : Word) (s : State) : Option State :=
  match r with
  | .fabLanecfg => some (asFnd w s fun s => if fld v 8 8 = 0 then s.reply .denied else (s.put .fabLanecfg v).reply .ok)
  | .fabInj => some (injWrite w v s)
  | .fabTctlS => some (tctlWrite w i v s)
  | .fabTdbg => some (tdbgWrite w i v s)
  | _ => none

/-- Reads of FAB registers with a rule of their own; none for the others. -/
def fabRead (r : Reg) (i : Nat) (s : State) : Option State :=
  let st (t : Nat) : TState := (s.triad t).state
  match r with
  | .fabAlloymap => some (s.answer .ok (triadMap fun t => st t = .alloy3 || st t = .alloy2))
  | .fabDegmap => some (s.answer .ok (triadMap fun t => st t = .alloy2))
  | .fabSplitmap => some (s.answer .ok (triadMap fun t => st t = .split))
  | .fabFaultmap => some (s.answer .ok (triadMap fun t => st t = .faulted))
  | .fabRetmap => some (s.answer .ok (triadMap fun t => (s.triad t).retired ≠ 0))
  | .fabHaltmap => some (s.answer .ok (triadMap fun t => (s.triad t).halted ≠ 0))
  | .fabTstat => some (s.answer .ok (tstat s i))
  | .fabTev => some (s.answer .ok (tev s i))
  | .fabTdbg => some (s.answer .ok (s.rd .fabTdbg i ||| (if (s.triad i).halted ≠ 0 then bit 2 else 0)))
  | _ => none

end Sys2Proof.Machine
end

