-- ==== Sys2Proof/Machine/Power.lean ====
section
/-!
DEFINITION. Supplies, power failure, power states and resets (02 R26 to R47, R423 to R425): what each reset reaches, and
the fatal halt.
-/

namespace Sys2Proof.Machine

/-- Replaces the supplies, resets and boot. -/
def State.setPwr (x : Power) (s : State) : State := { s with pwr := x }
/-- Replaces the control balls. -/
def State.setPins (x : Pins) (s : State) : State := { s with pins := x }

/-! ### What a reset reaches (02 R44) -/

/-- A register of this class keeps its value over a reset. -/
def Keep.over (k : Keep) (r : ResetKind) : Bool :=
  match k, r with
  | .never, _ => false
  | .warm, .warm => true
  | .warm, _ => false
  | .pewter, .powerUp | .pewter, .porst => false
  | .pewter, _ => true
  | .vpew, .powerUp => false
  | .vpew, _ => true

/-- The registers that some reset leaves alone. -/
def keptRegs : List Reg :=
  (regsSup ++ regsClk ++ regsTim ++ regsFab ++ regsSch ++ regsMem ++ regsArb ++ regsShe ++ regsAlp ++ regsSto).filter
    (fun r => r.row.keep ≠ .never)

/-- An address lies in a register of the map, or in an array of them with one index. -/
def Reg.holds (r : Reg) (a : Nat) : Bool :=
  let w := r.row
  decide (w.base ≤ a) &&
    (if w.s1 = 0 then a = w.base else (a - w.base) % w.s1 = 0 && decide ((a - w.base) / w.s1 < w.n1))

/-- A key of the register file names a register, an active copy or a bank that the reset leaves alone. -/
def keyKept (k : ResetKind) (key : Nat) : Bool :=
  let a := key % 2 ^ 40
  keptRegs.any (fun r => r.row.keep.over k && (r.holds a || (r.row.aoff ≠ 0 && decide (r.row.aoff ≤ a) && r.holds (a - r.row.aoff))))

/-- The write count of key slot i, which survives a warm reset with the slot's other status reset (08 R210). -/
def keepCounts (k : ResetKind) (old s : State) : State :=
  if k ≠ .warm then s
  else (List.range 32).foldl (fun s i => s.wr .sheKsStat (old.rd .sheKsStat i &&& 0xFFFF0000) i) s

/-- The bits of a fuse word are programmed in both cells and enter the shadow (17 R386). -/
def burn (i : Nat) (v : Word) (s : State) : State :=
  let f := s.fuses
  { s with fuses := { f with
    cellA := Tab.set 0 f.cellA i (Tab.get 0 f.cellA i ||| v)
    cellB := Tab.set 0 f.cellB i (Tab.get 0 f.cellB i ||| v)
    shadow := Tab.set 0 f.shadow i (Tab.get 0 f.shadow i ||| v) } }

/-- A word that is being programmed completes (17 R386). -/
def finishFuse (s : State) : State :=
  match s.fuses.prog with
  | none => s
  | some (i, v) => let s1 := burn i v s
    { s1 with fuses := { s1.fuses with prog := none } }

/-- The clocks after a reset: the PLLs stop; XA is enabled anew by a boot from step 2 (02 R48, 03 R52, R55, R64). -/
def clkReset (k : ResetKind) (x : Clocks) : Clocks :=
  match k with
  | .powerUp | .porst => {}
  | .warm => { x with on := 0, lock := 0, onFrc := 0b1111, gates := 0, engHeld := false
                      mult := if x.fallback then 36 else 40, fpllMhz := if x.fallback then 700 else 800 }
  | .cold | .brownOut => { x with on := 0, lock := 0, onFrc := 0b1111, gates := 0, engHeld := false, mult := 40, fpllMhz := 800
                                  xaOn := false, xaDelay := false, xaPass := 0, xaFail := 0, fallback := false }

/-- The triads after a reset: a warm reset keeps retired lanes, whose triads are FAULTED (04 R77, R90). The odd events of
before the reset no longer count within WINDOW (DESIGN CHOICE log 153). -/
def triadsReset (k : ResetKind) (t : Tab Triad) : Tab Triad :=
  if k ≠ .warm then []
  else (t.filter (fun e => e.2.retired ≠ 0)).map (fun e => (e.1, { state := .faulted, retired := e.2.retired }))

/-- The settings that the field die keeps: those in force, or those it keeps already. -/
def keepField (s : State) : Tab Word :=
  (s.regs.filter (fun e => dieKey e.1)).foldl (fun t e => Tab.insert (Tab.erase t e.1) e.1 e.2) s.dio.kept

/-- An input after a reset: its level and edges, and, but for VPEW power-up, the mask of its source's pulse, which runs
on. -/
def diReset (k : ResetKind) (x : Di) : Di :=
  { raw := x.raw, filt := x.filt, edge := x.edge, edges := x.edges, mask := k ≠ .powerUp && x.mask
    maskTo := if k = .powerUp then 0 else x.maskTo }

/-- The field die after a reset: it keeps its balls and supplies, and its settings while it drives the field safe state,
in which test-pulse sources keep pulsing; at VPEW power-up it has no configuration (02 R28, 13 R314, R322). -/
def fieldReset (k : ResetKind) (s : State) : Field :=
  let x := s.dio
  let cold : Field := { di := (x.di.map (fun e => (e.1, diReset k e.2))).filter (fun e => !decide (e.2 = ({} : Di)))
                        vfdi := x.vfdi, vfld := x.vfld }
  if k = .powerUp then cold
  else { cold with
    dos := (x.dos.map (fun e => (e.1, ({ deadTo := e.2.deadTo } : Do)))).filter (fun e => !decide (e.2 = ({} : Do)))
    pulses := x.pulses, tp := x.tp, cfgd := x.cfgd, kept := keepField s }

/-- The storage side after a reset: what stands on the SSDs, and, after a warm reset, the recorder buffer (15 R354, R357,
R363). A FORMAT that was running leaves headers that disagree. -/
def stoReset (k : ResetKind) (s : State) : Store :=
  let x := s.sto
  let warm := decide (k = .warm)
  let torn : Tab Hdr :=
    match x.cmd, x.hdrs with
    | some (3, _), (l, h) :: hs => (l, { h with time := s.now, streams := [] }) :: hs
    | _, hs => hs
  { hdrs := torn, log := if warm then x.log else x.disk, disk := x.disk, early := if warm then x.early else []
    formats := x.formats }

/-- Keys, update and image store after a reset: what stands on the SSDs. -/
def secReset (x : Secure) : Secure := { slots := x.slots, sets := x.sets, pend := x.pend, raise := x.raise }

/-- The registers, units, memory and buffers that a reset of a kind reaches (02 R44). The pewter counter carries the
timebase on (03 R64); the boot is set by the caller. -/
def resetCore (k : ResetKind) (s : State) : State :=
  let s0 := finishFuse s
  let wide := decide (k = .powerUp ∨ k = .porst)
  let s1 : State := { s0 with
    regs := s0.regs.filter (fun e => keyKept k e.1)
    mem := if k = .warm ∨ k = .cold then s0.mem else []
    poison := if k = .warm ∨ k = .cold then s0.poison else []
    ecc := if k = .warm ∨ k = .cold then s0.ecc else []
    pins := { s0.pins with rstout := false, brst := false }
    fuses := { s0.fuses with shadow := if wide then [] else s0.fuses.shadow }
    clk := clkReset k s0.clk
    tb := if wide then {} else { s0.tb with pps0 := false, pps1 := false, replica := [], owed := [] }
    triads := triadsReset k s0.triads
    engs := [], parts := [], sch := {}, arb := {}, she := {}, eth := {}, stn := {}, cans := []
    dio := fieldReset k s
    alp := { vloop := s0.alp.vloop }
    sto := stoReset k s0
    brb := {}
    sec := secReset s0.sec
    sup := { line := s0.sup.line } }
  let s2 := deadTimes (List.range 64) s0 (keepCounts k s0 s1)
  if wide then s2 else handTo (pewSrc s2) s2

/-! ### Where the boot goes on (02 R48) -/

/-- Boot step 2 begins: XA is enabled. -/
def startStep2 (s : State) : State :=
  (s.setClk { s.clk with xaOn := true, xaDelay := false, xaPass := 0, xaFail := 0, fallback := false }).setPwr
    { s.pwr with boot := .step 2 }

/-- Boot step 3 begins: the PLLs start; NPLL stays stopped under fallback. -/
def startStep3 (s : State) : State :=
  (s.setClk { s.clk with on := if s.clk.fallback then 0b1011 else 0b1111, lock := 0, onFrc := 0b1111 }).setPwr
    { s.pwr with boot := .step 3 }

/-- The boot goes on at step n, once WRST_L is high (02 R44). -/
def bootFrom (n : Nat) (s : State) : State :=
  if !s.pins.wrst then s.setPwr { s.pwr with boot := .held, wrstHold := some n }
  else
    let s1 := s.setPwr { s.pwr with wrstHold := none }
    match n with
    | 1 => s1.setPwr { s1.pwr with boot := .step 1 }
    | 2 => startStep2 s1
    | _ => startStep3 s1

/-- What of the supplies a reset leaves: the pewter domain's flags, the switches, and what a power failure that stands has
stopped (02 R32, R33; DEDUCED log 144). -/
def pwrReset (x : Power) : Power :=
  { vpewOk := x.vpewOk, pwrup := x.pwrup, armed := x.armed, browned := x.browned, vcaOn := x.vcaOn, vcbOn := x.vcbOn
    fatal := x.fatal, pflat := x.pflat, pfailDue := x.pfailDue, classNHeld := x.classNHeld, updHeld := x.updHeld }

/-- Memory survives a warm reset that begins now: it is kept, and has been initialised. -/
def memSafe (s : State) : Bool :=
  s.pwr.state ≠ .pewter && (bootPast s 4 || (s.pwr.memKept && (bootAt s 3 || bootAt s 4)))

/-- The step at which a warm reset restarts the boot: 3, but 2 from pewter, and no later than the step that runs (02 R38,
R44, R48). -/
def warmStep (s : State) : Nat :=
  if bootAt s 1 then 1 else if bootAt s 2 || s.pwr.state = .pewter then 2 else 3

/-- A warm reset begins (02 R38, R44, R45); a reset that holds the logic already governs. -/
def warmReset (s : State) : State :=
  if s.pwr.boot = .held && s.pwr.state = .run then s
  else
    let keep := memSafe s
    let n := warmStep s
    let s1 := resetCore .warm s
    bootFrom n (s1.setPwr { pwrReset s1.pwr with memKept := keep })

/-- A cold reset begins (02 R44). -/
def coldReset (s : State) : State :=
  let s1 := resetCore .cold s
  bootFrom 2 (s1.setPwr (pwrReset s1.pwr))

/-- A reset of a kind begins. -/
def doReset (k : ResetKind) (s : State) : State :=
  match k with
  | .warm => warmReset s
  | .cold => coldReset s
  | .brownOut => let s1 := resetCore .brownOut s
    s1.setPwr { pwrReset s1.pwr with browned := true }
  | .porst => let s1 := resetCore .porst s
    s1.setPwr { pwrReset s1.pwr with armed := false, browned := false, pflat := false, fatal := false }
  | .powerUp => let s1 := resetCore .powerUp s
    s1.setPwr { vpewOk := s.pwr.vpewOk, vcaOn := s.pwr.vcaOn, vcbOn := s.pwr.vcbOn, pfailDue := s.pwr.pfailDue }

/-- The wider of two waiting resets (02 R45). -/
def wider (a : Option ResetKind) (k : ResetKind) : ResetKind :=
  match a with
  | some .cold => .cold
  | _ => k

/-- A cold or warm reset is asked for, with its bit of RSTCAUSE: it waits while a flush runs, a brown-out that holds the
logic governs, and the fatal halt and a reset that holds the pewter domain ignore it (02 R34, R45, R46, R424). -/
def askReset (k : ResetKind) (cause : Nat) (s : State) : State :=
  if s.pwr.fatal || tbHeld s then s
  else
    let s1 := s.setBits .supRstcause (bit cause)
    if s1.pwr.browned then s1
    else if s1.pwr.flush.isSome then s1.setPwr { s1.pwr with deferred := some (wider s1.pwr.deferred k) }
    else doReset k s1

/-! ### The fatal halt (02 R46, 18 R413) -/

/-- Every partition is held: jobs end, outputs go safe. -/
def holdAll (s : State) : State :=
  let s1 := { s with sch := { s.sch with contPend := false, due := [] } }
  s1.parts.foldl (fun s p =>
    if (s.part p.1).state.admitted then
      let s1 := schedEnd p.1 s
      haltPart p.1 .held false { s1 with sch := { s1.sch with contPend := false } }
    else s) s1

/-- The device enters the fatal halt for cause b. -/
def fatalHalt (b : Nat) (s : State) : State :=
  let s1 := (s.setBits .supFatal (bit b)).setBits .supRstcause (bit 8)
  if s1.pwr.fatal then s1
  else
    let s2 := enterFieldSafe (s1.setPwr { s1.pwr with fatal := true })
    let s3 := holdAll { s2 with dio := { s2.dio with cmdSafe := true, wdg := false } }
    { s3 with sup := { s3.sup with kto := none } }

/-! ### Supplies (02 R29, R34, R424) -/

/-- VPEW_POWER_UP (02 R424). -/
def vpewUp (s : State) : State :=
  if s.pwr.vpewOk then s
  else
    let s1 := doReset .powerUp (s.setPwr { s.pwr with vpewOk := true })
    s1.setPwr { s1.pwr with pwrup := true }

/-- VPEW_POWER_UP (02 R424). -/
def execVpewPowerUp (s : State) : Host.Outcome State Fault Refusal := .next (vpewUp s)

/-- VPEW_BELOW_THRESHOLD (02 R424): the whole device is held in reset. -/
def vpewDown (s : State) : State :=
  if !s.pwr.vpewOk then s else doReset .powerUp (s.setPwr { s.pwr with vpewOk := false })

/-- VPEW_BELOW_THRESHOLD (02 R424). -/
def execVpewBelowThreshold (s : State) : Host.Outcome State Fault Refusal := .next (vpewDown s)

/-- POWER_UP_RESET_END (02 R424). -/
def pwrupEnd (s : State) : State := if s.pwr.vpewOk then s.setPwr { s.pwr with pwrup := false } else s

/-- POWER_UP_RESET_END (02 R424). -/
def execPowerUpResetEnd (s : State) : Host.Outcome State Fault Refusal := .next (pwrupEnd s)

/-- A VCORE group is connected: the rail after the switches can be in its range (02 R29, R34). -/
def vcoreOn (s : State) : Bool := s.pwr.vcaOn || s.pwr.vcbOn

/-- MONITOR_ARM (02 R34): every monitored rail has been in range for 1 ms, and boot step 1 begins; with TEST_EN high every
partition stays unreleased instead (01 R15; DEDUCED log 145). -/
def monitorArm (s : State) : State :=
  if tbHeld s || s.pwr.armed || s.pwr.fatal || !vcoreOn s then s
  else
    let s1 := s.setPwr { s.pwr with armed := true }
    if s1.pins.testEn then fatalHalt 1 s1 else bootFrom 1 s1

/-- MONITOR_ARM (02 R34). -/
def execMonitorArm (s : State) : Host.Outcome State Fault Refusal := .next (monitorArm s)

/-- VCORE_CONNECT (02 R29): the power switch of the group closes. -/
def vcoreConnect (b : Bool) (s : State) : State :=
  if b then (s.setPwr { s.pwr with vcbOn := true }).setPins { s.pins with vcbPg := true }
  else (s.setPwr { s.pwr with vcaOn := true }).setPins { s.pins with vcaPg := true }

/-- VCORE_CONNECT (02 R29). -/
def execVcoreConnect (b : Bool) (s : State) : Host.Outcome State Fault Refusal := .next (vcoreConnect b s)

/-- BROWN_OUT (02 R34, R45): never waits; the fatal halt stays. -/
def brownOut (s : State) : State :=
  if !s.pwr.armed || s.pwr.browned then s else doReset .brownOut (s.setBits .supRstcause (bit 2))

/-- BROWN_OUT (02 R34). -/
def execBrownOut (s : State) : Host.Outcome State Fault Refusal := .next (brownOut s)

/-- VCORE_DISCONNECT (02 R29, R30): an alarm and a record, which a logic held in reset cannot make, and the brown-out
reaction once no group is left; whether the power-good ball or the voltage caused it is not told. -/
def vcoreDisconnect (b : Bool) (s : State) : State :=
  let pg := Config.pgLevel s.free
  let on := if b then s.pwr.vcbOn else s.pwr.vcaOn
  if !on then s
  else
    let s1 := if b then (s.setPwr { s.pwr with vcbOn := false }).setPins { s.pins with vcbPg := pg }
      else (s.setPwr { s.pwr with vcaOn := false }).setPins { s.pins with vcaPg := pg }
    let s2 := if s1.pwr.boot = .held then s1.spend else alarmRec .sup .vcoreLost [wd (b2n b)] s1.spend
    if vcoreOn s2 then s2 else brownOut s2

/-- VCORE_DISCONNECT (02 R29). -/
def execVcoreDisconnect (b : Bool) (s : State) : Host.Outcome State Fault Refusal := .next (vcoreDisconnect b s)

/-- BROWN_OUT_RECOVERY (02 R34): every monitored rail has been in range for 1 ms, and the boot restarts at step 2. -/
def brownRecovery (s : State) : State :=
  if !s.pwr.browned || !vcoreOn s then s
  else
    let s1 := s.setPwr { s.pwr with browned := false }
    if s1.pwr.fatal then s1 else bootFrom 2 s1

/-- BROWN_OUT_RECOVERY (02 R34). -/
def execBrownOutRecovery (s : State) : Host.Outcome State Fault Refusal := .next (brownRecovery s)

/-! ### Power failure (02 R31 to R33, R423) -/

/-- A flush starts: with no volume mounted it writes nothing and is complete at once (02 R423). -/
def startFlush (s : State) : State :=
  if s.sto.vol.isSome then flushStart (s.setPwr { s.pwr with flush := some s.now }) else s.setBits .supPwrstat 1

/-- The timeline of 02 R32 starts: the event enters the recorder buffer, the flush starts, class N releases and update
writes stop. -/
def pfailTimeline (s : State) : State :=
  let s1 := record .powerFail 0 [lo32 s.now, hi32 s.now] s
  startFlush (s1.setPwr { s1.pwr with classNHeld := true, updHeld := true, pfailDue := false })

/-- PFAIL has risen in a reset, in doze or in pewter and is high when the device leaves it (02 R423). -/
def pfailStill (s : State) : State :=
  if s.pwr.pfailDue && s.pins.pfail && !inReset s && s.pwr.state = .run && s.pwr.flush.isNone then pfailTimeline s else s

/-- PFAIL_RISE (02 R32, R423): the flush of a software cold reset counts as a power-fail flush (DEDUCED log 148). -/
def pfailRise (s : State) : State :=
  if s.pins.pfail then s
  else
    let s1 := s.setPins { s.pins with pfail := true }
    if tbHeld s1 then s1.setPwr { s1.pwr with pfailDue := true }
    else
      let s2 := s1.setPwr { s1.pwr with pflat := true }
      if inReset s2 || s2.pwr.state ≠ .run then s2.setPwr { s2.pwr with pfailDue := true }
      else if s2.pwr.flush.isSome then record .powerFail 0 [lo32 s2.now, hi32 s2.now] s2
      else pfailTimeline s2

/-- PFAIL_RISE (02 R423). -/
def execPfailRise (s : State) : Host.Outcome State Fault Refusal := .next (pfailRise s)

/-- FLUSH_COMPLETE (02 R32). -/
def flushComplete (s : State) : State :=
  if s.pwr.flush.isNone then s
  else
    let s1 := flushEnd s
    (s1.setPwr { s1.pwr with flush := none }).setBits .supPwrstat 1

/-- FLUSH_COMPLETE (02 R32). -/
def execFlushComplete (s : State) : Host.Outcome State Fault Refusal := .next (flushComplete s)

/-- PFAIL_FALL (02 R33). -/
def pfailFall (s : State) : State :=
  (s.setPins { s.pins with pfail := false }).setPwr { s.pwr with classNHeld := false, updHeld := false, pfailDue := false }

/-- PFAIL_FALL (02 R33). -/
def execPfailFall (s : State) : Host.Outcome State Fault Refusal := .next (pfailFall s)

/-- DEFERRED_RESET (02 R45, R46): when the flush is complete, or 2 ms after the timeline started; not in the fatal halt. -/
def deferredReset (s : State) : State :=
  match s.pwr.deferred with
  | none => s
  | some k =>
    if s.pwr.fatal then s else
    let past := match s.pwr.flush with
      | none => true
      | some t => decide (t + 2000000 ≤ s.now)
    if past then doReset k (s.setPwr { s.pwr with deferred := none, flush := none }) else s

/-- DEFERRED_RESET (02 R45). -/
def execDeferredReset (s : State) : Host.Outcome State Fault Refusal := .next (deferredReset s)

/-! ### Power states (02 R35 to R41) -/

/-- Every partition other than the foundry partition is held: none of them takes part in the cycle (02 R36). -/
def othersHeld (s : State) : Bool :=
  s.parts.all (fun p => p.1 = 0 ||
    (match p.2.state with
     | .off | .stopped | .shed | .held => true
     | .wait | .queued | .run => false))

/-- A write to PSTATE (02 R36, R40). KEY is not looked at where REQ is 00b (DESIGN CHOICE log 146); a request while an entry
runs or in a reset is DENIED (DESIGN CHOICE log 147). -/
def pstateWrite (w : Who) (v : Word) (s : State) : State :=
  asFnd w s fun s =>
    let req := fld v 8 2
    let s1 := s.put .supPstate v
    if req = 0 then s1.reply .ok
    else if fld v 24 8 ≠ 0xA5 || req = 3 || !othersHeld s || s.pwr.state ≠ .run || s.pwr.entering.isSome || inReset s ||
        s.pwr.fatal then s.reply .denied
    else
      let dest := if req = 1 then PowerState.doze else .pewter
      let s2 := { s1 with dio := { s1.dio with dozeSafe := true } }
      (enterFieldSafe (s2.setPwr { s2.pwr with entering := some dest })).reply .ok

/-- DOZE_REQUEST (02 R36). -/
def execDozeRequest (w : Who) (v : Word) (s : State) : Host.Outcome State Fault Refusal := .next (pstateWrite w v s)

/-- PEWTER_REQUEST (02 R36): the same register. -/
def pewterRequest (w : Who) (v : Word) (s : State) : State := pstateWrite w v s

/-- PEWTER_REQUEST (02 R36). -/
def execPewterRequest (w : Who) (v : Word) (s : State) : Host.Outcome State Fault Refusal := .next (pewterRequest w v s)

/-- An enabled wake source is latched (02 R37). -/
def wakes (s : State) : Bool := s.rd .supWakesrc &&& s.rd .supWakeen ≠ 0

/-- Doze is entered (02 R35): PLLs off, links down, the timebase on the pewter counter, the PPS pulses end. -/
def enterDoze (s : State) : State :=
  let s1 := networkDown (handTo (pewSrc s) s)
  (s1.setClk { s1.clk with on := 0, lock := 0, onFrc := 0b1111, gates := 0 }).setPwr { s1.pwr with state := .doze }

/-- Pewter is entered (02 R35): only the pewter domain keeps its state. -/
def enterPewter (s : State) : State :=
  let s2 := resetCore .cold s
  let s3 := { s2 with mem := [], poison := [], ecc := [], pins := { s2.pins with rstout := s.pins.rstout }
                      dio := { s2.dio with dozeSafe := true, cmdSafe := false } }
  s3.setPwr { pwrReset s3.pwr with state := .pewter }

/-- POWER_STATE_ENTRY (02 R36, R37): before pewter the recorder buffer is flushed; the last step waits until no write to
the pewter domain is still crossing (03 R61). -/
def stateEntry (s : State) : State :=
  match s.pwr.entering with
  | none => s
  | some dest =>
    if !s.clk.pewQ.isEmpty then s
    else
      let s0 := if dest = .pewter && s.sto.vol.isSome then writeAll s else s
      let s1 := s0.setPwr { s0.pwr with entering := none }
      if wakes s1 then { s1.setBits .supPstate (bit 3) with dio := { s1.dio with dozeSafe := false } }
      else
        let s2 := s1.setTb { s1.tb with pps0 := false, pps1 := false }
        if dest = .doze then enterDoze s2 else enterPewter s2

/-- POWER_STATE_ENTRY (02 R37). -/
def execPowerStateEntry (s : State) : Host.Outcome State Fault Refusal := .next (stateEntry s)

/-- WAKE_PIN (02 R41): latched in every state. -/
def wakePin (s : State) : State := if tbHeld s then s else s.setBits .supWakesrc 1

/-- WAKE_PIN (02 R41). -/
def execWakePin (s : State) : Host.Outcome State Fault Refusal := .next (wakePin s)

/-- The device returns to Run from doze (02 R38): the PLLs start, the CAN clocks return. -/
def leaveDoze (s : State) : State :=
  let s1 := s.setClk { s.clk with on := if s.clk.fallback then 0b1011 else 0b1111, lock := 0, onFrc := 0b1111 }
  let s2 := if s.clk.fallback then s1 else (List.range 20).foldl (fun s n => s.setCan n { s.can n with dead := false }) s1
  let s3 := { s2 with dio := { s2.dio with dozeSafe := false } }
  pfailStill ((s3.setPwr { s3.pwr with state := .run }).wr .supPstate (fset (s3.rd .supPstate) 0 2 1))

/-- The device wakes from pewter: the boot runs from step 2 (02 R38). -/
def leavePewter (s : State) : State :=
  let s1 := s.setPwr { s.pwr with state := .run, fromPewter := true }
  bootFrom 2 (s1.wr .supPstate (fset (s1.rd .supPstate) 0 2 2))

/-! ### Software resets and the reset balls (02 R43, R44, R424) -/

/-- A cold reset by RSTCTL flushes the recorder first (15 R363). -/
def coldBySw (s : State) : State :=
  if s.pwr.fatal || s.pwr.flush.isSome || s.sto.vol.isNone then askReset .cold 3 s else askReset .cold 3 (startFlush s)

/-- A write to RSTCTL (02 R43): a logic held in reset, or powered down in pewter, takes none. -/
def rstctlWrite (w : Who) (v : Word) (s : State) : State :=
  asFnd w s fun s =>
    if s.pwr.boot = .held then s
    else if fld v 24 8 ≠ 0x5A then s.reply .denied
    else
      match fld v 0 2 with
      | 1 => (askReset .warm 5 s).reply .ok
      | 2 => (coldBySw s).reply .ok
      | _ => s.reply .denied

/-- WARM_RESET_SW (02 R43). -/
def execWarmResetSw (w : Who) (v : Word) (s : State) : Host.Outcome State Fault Refusal := .next (rstctlWrite w v s)

/-- COLD_RESET_SW (02 R43): the same register. -/
def coldResetSw (w : Who) (v : Word) (s : State) : State := rstctlWrite w v s

/-- COLD_RESET_SW (02 R43). -/
def execColdResetSw (w : Who) (v : Word) (s : State) : Host.Outcome State Fault Refusal := .next (coldResetSw w v s)

/-- WRST_L_LOW (02 R38, R44 to R46); during a reset by PORST_L it sets its bit alone (R45). -/
def wrstLow (s : State) : State :=
  if !s.pins.wrst then s
  else
    let s1 := s.setPins { s.pins with wrst := false }
    if !tbHeld s1 then askReset .warm 4 s1
    else if s1.pwr.vpewOk && !s1.pwr.pwrup then s1.setBits .supRstcause (bit 4)
    else s1

/-- WRST_L_LOW (02 R44). -/
def execWrstLLow (s : State) : Host.Outcome State Fault Refusal := .next (wrstLow s)

/-- WRST_L_RELEASE (02 R44): a reset that the ball holds goes on. -/
def wrstRelease (s : State) : State :=
  let s1 := s.setPins { s.pins with wrst := true }
  match s1.pwr.wrstHold with
  | none => s1
  | some n => bootFrom n s1

/-- WRST_L_RELEASE (02 R44). -/
def execWrstLRelease (s : State) : Host.Outcome State Fault Refusal := .next (wrstRelease s)

/-- PORST_L_LOW (02 R44, R424): a low level that begins in the power-up reset is part of that reset. -/
def porstLow (s : State) : State :=
  if !s.pins.porst then s
  else
    let s1 := s.setPins { s.pins with porst := false }
    if !s1.pwr.vpewOk || s1.pwr.pwrup then s1 else doReset .porst (s1.setBits .supRstcause (bit 1))

/-- PORST_L_LOW (02 R44). -/
def execPorstLLow (s : State) : Host.Outcome State Fault Refusal := .next (porstLow s)

/-- PORST_L_RELEASE (02 R424): boot step 1 follows once the monitors are armed. -/
def porstRelease (s : State) : State := s.setPins { s.pins with porst := true }

/-- PORST_L_RELEASE (02 R424). -/
def execPorstLRelease (s : State) : Host.Outcome State Fault Refusal := .next (porstRelease s)

/-- TRST_L_LOW (02 R44): the debug port only, which holds what it has latched by its own reads. -/
def trstLow (s : State) : State := { s with regs := s.regs.filter (fun e => decide (e.1 / 2 ^ 40 ≠ 1025)) }

/-- TRST_L_LOW (02 R44). -/
def execTrstLLow (s : State) : Host.Outcome State Fault Refusal := .next (trstLow s)

/-- PWRSTAT (02 R39). -/
def pwrstat (s : State) : Word :=
  (s.rd .supPwrstat &&& 1) ||| wd (b2n s.pwr.pflat * 512 + b2n s.pins.pfail * 256 + b2n s.pwr.vcbOn * 32 +
    b2n s.pwr.vcaOn * 16 + b2n s.pins.vcbPg * 8 + b2n s.pins.vcaPg * 4 + b2n s.pwr.flush.isSome * 2)

end Sys2Proof.Machine
end

