-- ==== Sys2Proof/Machine/Update.lean ====
section
/-!
DEFINITION. Fuses, keys and field update (17): programming and checking fuses, key loading, manifests and billets, the
slots of the image store, activation, trial and revert, and settings.
-/

namespace Sys2Proof.Machine

/-- Replaces keys, update and image store. -/
def State.setSec (x : Secure) (s : State) : State := { s with sec := x }
/-- Replaces supervision. -/
def State.setSup (x : Superv) (s : State) : State := { s with sup := x }
/-- Replaces the fuses. -/
def State.setFuses (x : Fuses) (s : State) : State := { s with fuses := x }

/-! ### Sections of the fuse array (17 R383, R384) -/

/-- A section: its lock bit in word 0, its first and last data word, and its check word. -/
structure Section where
  lock : Nat
  first : Nat
  last : Nat
  check : Nat
  deriving DecidableEq, Repr

/-- The sections: ID, OSC, SMAP, RK0 to RK3, KWK. -/
def sections : List Section :=
  [⟨16, 1, 2, 52⟩, ⟨17, 3, 4, 53⟩, ⟨18, 5, 10, 54⟩, ⟨20, 12, 19, 55⟩, ⟨21, 20, 27, 56⟩, ⟨22, 28, 35, 57⟩,
   ⟨23, 36, 43, 58⟩, ⟨19, 44, 51, 59⟩]

/-- The data words of a section as the shadow holds them. -/
def sectionWords (s : State) (x : Section) : List Word := (List.range (x.last + 1 - x.first)).map (fun i => s.fuse (x.first + i))

/-- A section's check word matches its data (17 R384). -/
def sectionOk (s : State) (x : Section) : Bool := crc32c (wordBytes (sectionWords s x)) = s.fuse x.check

/-- A section is locked. -/
def sectionLocked (s : State) (x : Section) : Bool := (s.fuse 0).getLsbD x.lock

/-- Word i belongs to a section. -/
def Section.has (x : Section) (i : Nat) : Bool := (x.first ≤ i && i ≤ x.last) || i = x.check

/-- Every locked section matches (17 R384). -/
def shadowOk (s : State) : Bool := sections.all (fun x => !sectionLocked s x || sectionOk s x)

/-- The words and bits that the table of 17 R383 lists. -/
def fuseBits (i : Nat) : Word :=
  if i = 0 then 0x0FFF000F
  else if i = 2 then 0xFFFF
  else if i = 3 ∨ i = 4 then 0x1FFFF
  else if i = 11 ∨ i = 60 ∨ i = 61 ∨ i = 62 ∨ i = 63 ∨ i ≥ 96 then 0
  else 0xFFFFFFFF

/-- The shadow that a fuse load senses: a bit reads 1 if either cell is programmed (17 R383). -/
def sensed (f : Fuses) : Tab Word :=
  (f.cellB.foldl (fun t e => Tab.set 0 t e.1 (Tab.get 0 t e.1 ||| e.2)) f.cellA)

/-! ### Programming (17 R386) -/

/-- The programmed bits of a word that are lock bits of a section whose check word does not match. -/
def locksBad (s : State) (v : Word) : Bool := sections.any (fun x => v.getLsbD x.lock && !sectionOk s x)

/-- A write to FPROG (17 R386). -/
def fprogWrite (w : Who) (v : Word) (s : State) : State :=
  asFnd w s fun s =>
    let i := fld v 0 7
    let d := s.rd .secFpdata
    if fld v 24 8 ≠ 0x96 then s.reply .denied
    else if s.fuses.prog.isSome || s.pins.pfail then s.reply .busy
    else if fuseBits i = 0 || sections.any (fun x => x.has i && sectionLocked s x) then s.reply .denied
    else if i = 0 && locksBad s d then s.reply .denied
    else if s.schEn && !((64 ≤ i && i ≤ 95) || (i = 0 && d &&& ~~~ 0x0F000007 = 0)) then s.reply .denied
    else (s.setFuses { s.fuses with prog := some (i, d &&& fuseBits i) }).reply .ok

/-- FUSE_PROGRAM (17 R386). -/
def execFuseProgram (w : Who) (v : Word) (s : State) : Host.Outcome State Fault Refusal := .next (fprogWrite w v s)

/-- The number of programmed bits of a word. -/
def popcount (w : Word) : Nat := ((List.range 32).filter (fun i => w.getLsbD i)).length

/-- The security version counter of component c (17 R383). -/
def svnOf (s : State) (c : Nat) : Nat := ((List.range 8).map (fun i => popcount (s.fuse (64 + 8 * c + i)))).sum

/-- The lowest k unprogrammed bits of a word. -/
def lowBits (w : Word) (k : Nat) : Word :=
  (((List.range 32).filter (fun i => !w.getLsbD i)).take k).foldl (fun v i => v ||| bit i) 0

/-- The next word of component c's counter to program on the way to a value: word and bits. -/
def raiseStep (s : State) (c svn : Nat) : Option (Nat × Word) :=
  if svn ≤ svnOf s c then none
  else
    ((List.range 8).find? (fun i => s.fuse (64 + 8 * c + i) ≠ 0xFFFFFFFF)).map
      (fun i => (64 + 8 * c + i, lowBits (s.fuse (64 + 8 * c + i)) (svn - svnOf s c)))

/-- The next counter programming starts, if one is due and no word is being programmed (17 R401). -/
def startRaise (s : State) : State :=
  if s.fuses.prog.isSome then s
  else
    match s.sec.raise.find? (fun x => (raiseStep s x.1 x.2).isSome) with
    | none => s.setSec { s.sec with raise := [] }
    | some (c, svn) =>
      let s1 := s.setSec { s.sec with raising := some c, raise := s.sec.raise.filter (fun x => (raiseStep s x.1 x.2).isSome) }
      s1.setFuses { s1.fuses with prog := raiseStep s c svn }

/-- Programming ends; took are the cells' bits that read back programmed (17 R386, R401, R404). -/
def fuseDone (took : Word) (s : State) : State :=
  match s.fuses.prog with
  | none => s
  | some (i, v) =>
    let good := v &&& took
    let st := if good = v then Status.ok else .fault
    let s1 := burn i good (s.setFuses { s.fuses with prog := none })
    let s2 := s1.wr .secFstat (wd (st.code + (if st = .ok then 0 else 2 ^ 29)))
    let s3 := recordCode (.num 0x80C00001) 0 [wd i, v, wd st.code] s2
    let s4 := match s3.sec.raising with
      | none => s3
      | some c => recordCode (.num 0x80C00006) 0 [wd c, wd (svnOf s c), wd (svnOf s3 c)]
          (s3.setSec { s3.sec with raising := none, raiseBad := decide (st ≠ .ok) })
    if s4.sec.raiseBad then s4 else startRaise s4

/-- FUSE_PROGRAM_DONE (17 R386). -/
def execFuseProgramDone (took : Word) (s : State) : Host.Outcome State Fault Refusal := .next (fuseDone took s)

/-! ### Keys (17 R387) -/

/-- Unwraps the blob at KLADDR into slot k: the status and the state. -/
def keyLoad (k : Nat) (s : State) : Status × State :=
  if !(s.fuse 0).getLsbD 19 then (.keyEmpty, s)
  else
    let r := partRead 0 (s.rd .secKladdr).toNat 48 s
    if r.1 ≠ .ok then (r.1, r.2.2)
    else
      let s1 := r.2.2
      let h := wd (leNat (r.2.1.take 4))
      let typ := fld (s1.rd .sheKsCtl k) 24 2
      if fld h 24 8 ≠ 1 || fld h 0 2 ≠ typ then (.denied, s1)
      else
        match keyUnwrap (wordBytes (sectionWords s1 ⟨19, 44, 51, 59⟩)) (r.2.1.drop 8) with
        | none => (.crc, s1)
        | some bs =>
          let key := beNat (bs.take (if typ = 0 ∨ typ = 3 then 16 else 32))
          (.ok, (List.range 8).foldl (fun s i => keyWrite k i (wd (key / 2 ^ (32 * i))) s) s1)

/-- A write to KLOAD. -/
def kloadWrite (w : Who) (v : Word) (s : State) : State :=
  asFnd w s fun s =>
    if !v.getLsbD 31 then s.reply .ok
    else
      let r := keyLoad (fld v 0 5) s
      (r.2.wr .secKlstat (wd r.1.code)).reply .ok

/-- KEY_LOAD (17 R387). -/
def execKeyLoad (w : Who) (v : Word) (s : State) : Host.Outcome State Fault Refusal := .next (kloadWrite w v s)

/-! ### Manifests (17 R392, R393) -/

/-- A little-endian field of a manifest. -/
def manF (m : List Byte) (off n : Nat) : Nat := leNat (slice m off n)
/-- Image length. -/
def manLen (m : List Byte) : Nat := manF m 0x18 4
/-- Billet count N. -/
def manN (m : List Byte) : Nat := (manLen m + 65535) / 65536
/-- Component named. -/
def manComp (m : List Byte) : Nat := manF m 0 4 / 2 ^ 20 % 4
/-- Root key named. -/
def manRoot (m : List Byte) : Nat := manF m 0 4 / 2 ^ 16 % 4
/-- Interface version. -/
def manIv (m : List Byte) : Nat := manF m 0x10 2
/-- Image version. -/
def manVer (m : List Byte) : Nat := manF m 0x0C 4
/-- Security version. -/
def manSvn (m : List Byte) : Nat := manF m 0x12 2
/-- Bundle. -/
def manBundle (m : List Byte) : Nat := manF m 8 4
/-- ADVSVN. -/
def manAdv (m : List Byte) : Bool := manF m 0x14 4 % 2 = 1

/-- The largest image of a component (17 R388). -/
def maxImage (c : Nat) : Nat :=
  match c with
  | 0 => 8 * 2 ^ 20 | 1 => 16 * 2 ^ 20 | 2 => 64 * 2 ^ 20 | _ => 224 * 2 ^ 20

/-- Reserved fields of a manifest are 0. -/
def manReserved (m : List Byte) : Bool :=
  manF m 0 4 % 2 ^ 16 = 0 && manF m 0 4 / 2 ^ 18 % 4 = 0 && manF m 0 4 / 2 ^ 22 % 4 = 0 && manF m 0x14 4 / 2 = 0 &&
    manF m 0x1C 4 = 0 && manF m 0x34 12 = 0

/-- No root key is locked (17 R385). -/
def unprovisioned (s : State) : Bool := fld (s.fuse 0) 20 4 = 0

/-- Root key k is trusted, and hashes to its fuses (17 R385, R393). -/
def rootOk (s : State) (k : Nat) (pub : List Byte) : Bool :=
  (s.fuse 0).getLsbD (20 + k) && !(s.fuse 0).getLsbD (24 + k) &&
    sha256 pub = wordBytes ((List.range 8).map (fun i => s.fuse (12 + 8 * k + i)))

/-- The checks of 17 R393 on a manifest for component c, in order. -/
def manCheck (s : State) (c : Nat) (m : List Byte) : Status :=
  let n := manN m
  if manF m 3 1 ≠ 1 || !manReserved m then .version
  else if manF m 4 4 ≠ 0xC0 + 32 * n || manLen m > maxImage c then .size
  else if !unprovisioned s && !rootOk s (manRoot m) (slice m 0x60 32) then .denied
  else if !edVerify (slice m 0x60 32) (slice m (0x80 + 32 * n) 64) (m.take (0x80 + 32 * n)) then .crc
  else if manSvn m < svnOf s c then .version
  else .ok

/-- The interface version of Y lies in the range that X accepts for component c of Y (17 R395). -/
def ivFits (x y : List Byte) (c : Nat) : Bool :=
  decide (manF x (0x20 + 4 * c) 2 ≤ manIv y) && decide (manIv y ≤ manF x (0x22 + 4 * c) 2)

/-- A set of slots is compatible: component and manifest of each (17 R395). -/
def compatible (l : List (Nat × List Byte)) : Bool :=
  l.all (fun x => l.all (fun y => x.1 = y.1 || ivFits x.2 y.2 y.1))

/-! ### Slots (17 R389 to R391, R398, R399) -/

/-- The slots of component c in a state. -/
def slotsIn (s : State) (c : Nat) (st : SlotState) : List Nat := (List.range 3).filter (fun k => (s.slot c k).state = st)

/-- The manifest of component c's slot in a state, if there is one. -/
def manIn (s : State) (c : Nat) (st : SlotState) : Option (List Byte) := (slotsIn s c st).head?.map (fun k => (s.slot c k).man)

/-- A slot in TRIAL: component and slot. -/
def trialSlot (s : State) : Option (Nat × Nat) :=
  ((List.range 4).flatMap (fun c => (slotsIn s c .trial).map (fun k => (c, k)))).head?

/-- The ONLINE links. -/
def onlineLinks (s : State) : BitVec 4 := s.onlineMask

/-- Sets a slot's state, with its record where it is STAGING, VALID or BAD (17 R404). -/
def slotTo (c k : Nat) (st : SlotState) (s : State) : State :=
  let x := s.slot c k
  let s1 := s.setSlot c k { x with state := st }
  match st with
  | .staging | .valid | .bad => recordCode (.num 0x80C00002) 0 [wd c, wd k, wd (manVer x.man)] s1
  | _ => s1

/-- Component of UARG. -/
def uComp (s : State) : Nat := fld (s.rd .secUarg) 28 2
/-- Slot of UARG. -/
def uSlot (s : State) : Nat := fld (s.rd .secUarg) 24 2
/-- Index or length of UARG. -/
def uArg (s : State) : Nat := fld (s.rd .secUarg) 0 24

/-- A slot that is in use: ACTIVE, TRIAL or FALLBACK. -/
def SlotState.inUse : SlotState → Bool
  | .active | .trial | .fallback => true
  | _ => false

/-- Length of billet i of a manifest. -/
def billetLen (m : List Byte) (i : Nat) : Nat := min 65536 (manLen m - 65536 * i)

/-- Billets missing in a slot, lowest first. -/
def missing (x : Slot) : List Nat := (List.range (manN x.man)).filter (fun i => !x.billets.any (fun b => b.1 = i))

/-- MANIFEST (17 R398). -/
def cmdManifest (s : State) : Status × State :=
  let c := uComp s
  let k := uSlot s
  if k = 3 || (s.slot c k).state.inUse then (.denied, s)
  else
    let a := (s.rd .secUaddr).toNat
    let h := partRead 0 a 0x80 s
    if h.1 ≠ .ok then (h.1, h.2.2)
    else
      let n := min (manN h.2.1) 3584
      let r := partRead 0 a (0xC0 + 32 * n) h.2.2
      if r.1 ≠ .ok then (r.1, r.2.2)
      else
        let s1 := r.2.2
        let st := manCheck s1 c r.2.1
        if st ≠ .ok then (st, s1)
        else if manComp r.2.1 ≠ c then (.denied, s1)
        else if onlineLinks s1 = 0 then (.fault, s1)
        else (.ok, slotTo c k .staging (s1.setSlot c k { man := r.2.1, links := onlineLinks s1 }))

/-- BILLET (17 R398, R399). -/
def cmdBillet (s : State) : Status × State :=
  let c := uComp s
  let k := uSlot s
  let x := s.slot c k
  let i := uArg s
  if k = 3 || x.state ≠ .staging then (.denied, s)
  else if i ≥ manN x.man then (.size, s)
  else if s.pins.pfail || s.pwr.updHeld then (.busy, s)
  else
    let r := partRead 0 (s.rd .secUaddr).toNat (billetLen x.man i) s
    if r.1 ≠ .ok then (r.1, r.2.2)
    else if sha256 r.2.1 ≠ slice x.man (0x80 + 32 * i) 32 then (.crc, r.2.2)
    else if onlineLinks r.2.2 = 0 then (.fault, r.2.2)
    else (.ok, r.2.2.setSlot c k { x with billets := Tab.set [] x.billets i r.2.1, links := x.links &&& onlineLinks r.2.2 })

/-- SEAL (17 R398). -/
def cmdSeal (s : State) : Status × State :=
  let c := uComp s
  let k := uSlot s
  let x := s.slot c k
  if k = 3 || x.state ≠ .staging || !(missing x).isEmpty then (.denied, s)
  else if onlineLinks s = 0 then (.fault, s)
  else (.ok, slotTo c k .valid s)

/-- ERASE (17 R398). -/
def cmdErase (s : State) : Status × State :=
  let c := uComp s
  let k := uSlot s
  if k = 3 || (s.slot c k).state.inUse then (.denied, s)
  else if onlineLinks s = 0 then (.fault, s)
  else (.ok, s.setSlot c k {})

/-- MIRROR (17 R389): each slot that is not EMPTY or STAGING is copied to the ONLINE links that lack it; a slot with no
copy on an ONLINE link cannot be. -/
def cmdMirror (s : State) : Status × State :=
  let on := onlineLinks s
  let full := (List.range 12).filter (fun i =>
    !((s.slot (i / 3) (i % 3)).state = .empty || (s.slot (i / 3) (i % 3)).state = .staging))
  let can := full.filter (fun i => (s.slot (i / 3) (i % 3)).links &&& on ≠ 0)
  let s1 := can.foldl (fun s i =>
    s.setSlot (i / 3) (i % 3) { s.slot (i / 3) (i % 3) with links := (s.slot (i / 3) (i % 3)).links ||| on }) s
  (if on = 0 || can.length ≠ full.length then .fault else .ok, s1)

/-! ### Activation, trial and revert (17 R395, R396, R400, R401) -/

/-- The set that activating slot k of component c makes: that slot and the ACTIVE slots of the others. -/
def activeSet (s : State) (c k : Nat) : List (Nat × List Byte) :=
  (List.range 4).filterMap (fun d => if d = c then some (c, (s.slot c k).man) else (manIn s d .active).map (fun m => (d, m)))

/-- A component earlier in the order has a VALID slot of the same bundle (17 R396). -/
def bundleWaits (s : State) (c k : Nat) : Bool :=
  (List.range c).any (fun d => (slotsIn s d .valid).any (fun j => manBundle (s.slot d j).man = manBundle (s.slot c k).man))

/-- The activation time of ACTT. -/
def actTime (s : State) : Nat := (s.rd .secActt 0).toNat + 2 ^ 32 * (s.rd .secActt 1).toNat

/-- ACTIVATE (17 R400). -/
def cmdActivate (s : State) : Status × State :=
  let c := uComp s
  let k := uSlot s
  if k = 3 || (s.slot c k).state ≠ .valid || actTime s < s.now + 1000000000 || (trialSlot s).isSome ||
      s.sec.pend.isSome || bundleWaits s c k then (.denied, s)
  else if !compatible (activeSet s c k) then (.version, s)
  else if onlineLinks s = 0 then (.fault, s)
  else (.ok, s.setSec { s.sec with pend := some { comp := c, slot := k, time := actTime s } })

/-- CANCEL (17 R398). -/
def cmdCancel (s : State) : Status × State :=
  if s.sec.pend.isNone then (.denied, s) else (.ok, s.setSec { s.sec with pend := none })

/-- CONFIRM (17 R401): the TRIAL slot is ACTIVE, and its counter is raised where ADVSVN is set. -/
def cmdConfirm (s : State) : Status × State :=
  match trialSlot s with
  | none => (.denied, s)
  | some (c, k) =>
    let x := s.slot c k
    let s1 := slotTo c k .active s
    let s2 := recordCode (.num 0x80C00004) 0 [wd c, wd k, wd x.tries] (s1.setSec { s1.sec with trial := none })
    (.ok, if manAdv x.man then startRaise (s2.setSec { s2.sec with raise := s2.sec.raise ++ [(c, manSvn x.man)] }) else s2)

/-- The slot of component c in use: TRIAL, else ACTIVE. -/
def inUseMan (s : State) (c : Nat) : Option (List Byte) :=
  match manIn s c .trial with
  | some m => some m
  | none => manIn s c .active

/-- Settings area of component c. -/
def State.settings (s : State) (c : Nat) : Settings := Tab.get {} s.sec.sets c

/-- Replaces the settings area of component c. -/
def State.setSettings (c : Nat) (x : Settings) (s : State) : State :=
  s.setSec { s.sec with sets := Tab.set {} s.sec.sets c x }

/-- SLOAD (17 R397): the area, header and data, goes to UADDR. -/
def cmdSload (s : State) : Status × State :=
  let x := s.settings (uComp s)
  if onlineLinks s = 0 then (.fault, s)
  else partWrite 0 (s.rd .secUaddr).toNat
    ((List.range 64).map (Config.settingsHead x.ver x.data.length) ++ x.data) s

/-- SSTORE (17 R397): the area from UADDR, header and UARG bytes of data, stamped with SETVER of the slot in use. -/
def cmdSstore (s : State) : Status × State :=
  let n := uArg s
  if 64 + n > 2 ^ 24 then (.size, s)
  else if onlineLinks s = 0 then (.fault, s)
  else
    let r := partRead 0 (s.rd .secUaddr).toNat (64 + n) s
    if r.1 ≠ .ok then (r.1, r.2.2)
    else (.ok, r.2.2.setSettings (uComp s) { ver := ((inUseMan s (uComp s)).map (fun m => manF m 0x32 2)).getD 0
                                             data := r.2.1.drop 64 })

/-- The status field of USTAT. -/
def setUstat (st : Status) (s : State) : State := s.wr .secUstat (fset (s.rd .secUstat) 0 8 st.code)

/-- The command of a UCMD code. -/
def ucmdRun (code : Nat) (s : State) : Option (Status × State) :=
  match code with
  | 1 => some (cmdManifest s)
  | 2 => some (cmdBillet s)
  | 3 => some (cmdSeal s)
  | 4 => some (cmdErase s)
  | 5 => some (cmdMirror s)
  | 6 => some (cmdActivate s)
  | 7 => some (cmdCancel s)
  | 8 => some (cmdConfirm s)
  | 9 => some (cmdSload s)
  | 10 => some (cmdSstore s)
  | _ => none

/-- A write to UCMD (17 R398): the command's result goes to USTAT. -/
def ucmdWrite (w : Who) (v : Word) (s : State) : State :=
  asFnd w s fun s =>
    if fld v 24 8 ≠ 0x69 then s.reply .denied
    else
      match ucmdRun (fld v 0 4) s with
      | none => s.reply .denied
      | some (st, s1) => (setUstat st s1).reply .ok

/-- The word of a UCMD write. -/
def ucmdWord (key : BitVec 8) (code : Nat) : Word := wd (key.toNat * 2 ^ 24 + code)

/-- MANIFEST (17 R398). -/
def execManifest (w : Who) (key : BitVec 8) (s : State) : Host.Outcome State Fault Refusal := .next (ucmdWrite w (ucmdWord key 1) s)
/-- BILLET (17 R398). -/
def execBillet (w : Who) (key : BitVec 8) (s : State) : Host.Outcome State Fault Refusal := .next (ucmdWrite w (ucmdWord key 2) s)
/-- SEAL (17 R398). -/
def execSealImage (w : Who) (key : BitVec 8) (s : State) : Host.Outcome State Fault Refusal := .next (ucmdWrite w (ucmdWord key 3) s)
/-- ERASE (17 R398). -/
def execErase (w : Who) (key : BitVec 8) (s : State) : Host.Outcome State Fault Refusal := .next (ucmdWrite w (ucmdWord key 4) s)
/-- MIRROR (17 R389). -/
def execMirror (w : Who) (key : BitVec 8) (s : State) : Host.Outcome State Fault Refusal := .next (ucmdWrite w (ucmdWord key 5) s)
/-- ACTIVATE (17 R400). -/
def execActivate (w : Who) (key : BitVec 8) (s : State) : Host.Outcome State Fault Refusal := .next (ucmdWrite w (ucmdWord key 6) s)
/-- CANCEL (17 R398). -/
def execCancel (w : Who) (key : BitVec 8) (s : State) : Host.Outcome State Fault Refusal := .next (ucmdWrite w (ucmdWord key 7) s)
/-- CONFIRM (17 R401). -/
def execConfirm (w : Who) (key : BitVec 8) (s : State) : Host.Outcome State Fault Refusal := .next (ucmdWrite w (ucmdWord key 8) s)
/-- SLOAD (17 R397). -/
def execSload (w : Who) (key : BitVec 8) (s : State) : Host.Outcome State Fault Refusal := .next (ucmdWrite w (ucmdWord key 9) s)
/-- SSTORE (17 R397). -/
def execSstore (w : Who) (key : BitVec 8) (s : State) : Host.Outcome State Fault Refusal := .next (ucmdWrite w (ucmdWord key 10) s)

/-- The pending activation is abandoned with a status (17 R400). -/
def abandonAct (a : Activation) (st : Status) (s : State) : State :=
  recordCode (.num 0x80C00003) 0 [wd a.comp, wd a.slot, wd st.code] (setUstat st (s.setSec { s.sec with pend := none }))

/-- The slots of component c change at an activation of slot k (17 R400). -/
def activateSlots (c k : Nat) (s : State) : State :=
  let s1 := (slotsIn s c .fallback).foldl (fun s j => slotTo c j .valid s) s
  let s2 := (slotsIn s1 c .active).foldl (fun s j => slotTo c j .fallback s) s1
  s2.setSlot c k { s2.slot c k with state := .trial, tries := 0 }

/-- ACTIVATION_INSTANT (17 R400): a device that is not running abandons it at its next boot or wake. -/
def activationInstant (s : State) : State :=
  match s.sec.pend with
  | none => s
  | some a =>
    if s.now < a.time || s.pwr.state ≠ .run || inReset s || s.pwr.fatal then s
    else if s.pins.pfail then abandonAct a .busy s
    else if tbSrc s ≠ 0 then abandonAct a .stale s
    else if (s.slot a.comp a.slot).state ≠ .valid || !compatible (activeSet s a.comp a.slot) then abandonAct a .version s
    else
      let s1 := activateSlots a.comp a.slot (s.setSec { s.sec with pend := none })
      askReset .warm 5 (recordCode (.num 0x80C00003) 0 [wd a.comp, wd a.slot, 0] s1)

/-- ACTIVATION_INSTANT (17 R400). -/
def execActivationInstant (s : State) : Host.Outcome State Fault Refusal := .next (activationInstant s)

/-- An activation whose instant has passed is abandoned with TIMEOUT at a boot or wake (17 R400). -/
def lateActivation (s : State) : State :=
  match s.sec.pend with
  | none => s
  | some a => if a.time ≤ s.now then abandonAct a .timeout s else s

/-- The TRIAL slot k of component c is reverted (17 R401). -/
def revertTrial (c k : Nat) (s : State) : State :=
  let tries := (s.slot c k).tries
  let s1 := slotTo c k .bad s
  let s2 := (slotsIn s1 c .fallback).foldl (fun s j => slotTo c j .active s) s1
  recordCode (.num 0x80C00004) 0 [wd c, wd k, wd tries] (s2.setBits .secUstat (bit 8))

/-- CONFIRMATION_TIMEOUT (17 R401): the device reverts and performs a cold reset. -/
def confirmTimeout (s : State) : State :=
  match s.sec.trial, trialSlot s with
  | some _, some (c, k) => askReset .cold 7 (revertTrial c k (s.setSec { s.sec with trial := none }))
  | _, _ => s

/-- CONFIRMATION_TIMEOUT (17 R401). -/
def execConfirmationTimeout (s : State) : Host.Outcome State Fault Refusal := .next (confirmTimeout s)

/-! ### Selection and verification at boot (17 R393 to R395, R401) -/

/-- The image of a slot, read from its billets. -/
def slotImage (x : Slot) : List Byte := ((List.range (manN x.man)).flatMap (fun i => Tab.get [] x.billets i)).take (manLen x.man)

/-- A slot can be read: an ONLINE link carries a complete copy (17 R389). -/
def readable (s : State) (x : Slot) : Bool := x.links &&& onlineLinks s ≠ 0

/-- Puts a slot at its place among slots in order of version, highest first, then number. -/
def putByVersion (ver : Nat → Nat) (k : Nat) : List Nat → List Nat
  | [] => [k]
  | j :: l => if ver j < ver k || (ver j = ver k && decide (k < j)) then k :: j :: l else j :: putByVersion ver k l

/-- VALID slots, highest version first, then the lowest number. -/
def validOrder (s : State) (c : Nat) : List Nat :=
  (slotsIn s c .valid).foldr (putByVersion (fun k => manVer (s.slot c k).man)) []

/-- The slots of component c in the order in which a boot tries them (17 R401). -/
def bootOrder (s : State) (c : Nat) : List Nat :=
  ((slotsIn s c .trial).filter (fun k => (s.slot c k).tries < 3) ++ slotsIn s c .active ++ slotsIn s c .fallback ++
    validOrder s c).filter (fun k => readable s (s.slot c k))

/-- A TRIAL slot of component c that has had 3 tries or that no ONLINE link can give is passed over and reverted. -/
def passOver (c : Nat) (s : State) : State :=
  ((slotsIn s c .trial).filter (fun k => decide ((s.slot c k).tries ≥ 3) || !readable s (s.slot c k))).foldl
    (fun s k => revertTrial c k s) s

/-- The boot header of an FND image satisfies check 1: version and reserved fields (17 R394). -/
def headForm (h : List Byte) : Bool :=
  leNat (slice h 0 4) = 0x01000000 && leNat (slice h 0x0C 4) < 2 ^ 28 && leNat (slice h 0x10 4) < 2 ^ 24 &&
    leNat (slice h 0x14 4) &&& 0xFFFFFF07 = 0 && leNat (slice h 0x18 40) = 0 && leNat (slice h 0x140 192) = 0

/-- A word of the boot header. -/
def headWord (h : List Byte) (off : Nat) : Word := wd (leNat (slice h off 4))

/-- Region entry k of the boot header. -/
def headRegion (h : List Byte) (k : Nat) : Region :=
  { vbase := fld (headWord h (0x40 + 16 * k)) 12 20 * 4096
    len := (fld (headWord h (0x44 + 16 * k)) 0 20 + 1) * 4096
    pbase := fld (headWord h (0x48 + 16 * k)) 0 28 * 4096
    attr := headWord h (0x4C + 16 * k) }

/-- Valid entries k < j of a boot header meet in virtual addresses. -/
def headOverlap (h : List Byte) (k j : Nat) : Bool :=
  let a := headRegion h k
  let b := headRegion h j
  a.attr.getLsbD 31 && b.attr.getLsbD 31 && decide (a.vbase < b.vbase + b.len) && decide (b.vbase < a.vbase + a.len)

/-- The region entries and the area of a boot header satisfy check 2 (17 R394, 08 R193, 07 R164). -/
def headPlaces (bad : Region → Bool) (h : List Byte) : Bool :=
  let sz := headWord h 0x10
  let a := fld (headWord h 0x0C) 0 28 * 4096
  let len := 2 * (fld sz 0 8 + 1) * 256 + 4 * (fld sz 8 8 + 1) * 256 + (fld sz 16 8 + 1) * 256
  (List.range 16).all (fun k => !(headRegion h k).attr.getLsbD 31 || !bad (headRegion h k)) &&
    (List.range 16).all (fun k => (List.range k).all (fun j => !headOverlap h j k)) &&
    isCycle a && decide (a + len ≤ ingotBase)

/-- The entry and the vector table of a boot header satisfy check 3 (17 R394). -/
def headEntry (h : List Byte) : Bool :=
  let in' (va : Nat) (r : Right) : Bool := (List.range 16).any (fun k => (headRegion h k).covers va && r.granted (headRegion h k).attr)
  let e := (headWord h 4).toNat
  let v := (headWord h 8).toNat
  e % 4 = 0 && in' e .fetch && v % 4 = 0 && in' v .load

end Sys2Proof.Machine
end

