-- ==== Sys2Proof/Machine/Boot.lean ====
section
/-!
DEFINITION. The boot sequence (02 R48, R49): its steps from the fuse load to the release of the foundry partition, the
storage links that step 5 waits for, and the returns to Run that end in it.
-/

namespace Sys2Proof.Machine

/-! ### The stop line (02 R49) -/

/-- The byte of a character. -/
def chr (c : Char) : Byte := BitVec.ofNat 8 c.toNat

/-- A decimal or hexadecimal digit, in upper case. -/
def digit (n : Nat) : Byte := BitVec.ofNat 8 (if n < 10 then 48 + n else 55 + n)

/-- The stop line: BOOT STOP Snn STxx, CR, LF. -/
def stopLine (n : Nat) (st : Status) : List Byte :=
  ("BOOT STOP S".toList.map chr) ++ [digit (n / 10 % 10), digit (n % 10)] ++ (" ST".toList.map chr) ++
    [digit (st.code / 16), digit (st.code % 16), 13, 10]

/-- The boot stops (02 R49): every partition is held, the stop line goes out. -/
def bootStop (n : Nat) (st : Status) (s : State) : State :=
  (s.setPwr { s.pwr with boot := .stopped n st }).setSup { s.sup with line := stopLine n st }

/-- BOOT_STOP_REPEAT (02 R49). -/
def stopRepeat (s : State) : State :=
  match s.pwr.boot with
  | .stopped n st => s.setSup { s.sup with line := stopLine n st }
  | .held | .step _ | .released => s

/-- BOOT_STOP_REPEAT (02 R49). -/
def execBootStopRepeat (s : State) : Host.Outcome State Fault Refusal := .next (stopRepeat s)

/-! ### Steps 1 to 4 -/

/-- FUSE_LOAD (02 R48 step 1; 03 R52; 17 R383, R384). -/
def fuseLoad (s : State) : State :=
  if !bootAt s 1 then s
  else
    let s1 := s.setFuses { s.fuses with shadow := sensed s.fuses }
    if !shadowOk s1 then fatalHalt 0 s1
    else
      let s2 := if (s1.fuse 0).getLsbD 17 then
          (s1.wr .clkXadly (s1.fuse 3 &&& 0x1FFFF)).wr .clkXbdly (s1.fuse 4 &&& 0x1FFFF) else s1
      bootFrom 2 s2

/-- FUSE_LOAD (02 R48). -/
def execFuseLoad (s : State) : Host.Outcome State Fault Refusal := .next (fuseLoad s)

/-- XA is confirmed: its delay has expired and four windows have passed; step 3 begins (03 R52). -/
def xaConfirm (s : State) : State :=
  if bootAt s 2 && s.clk.xaDelay && s.clk.xaPass = 4 then bootFrom 3 s else s

/-- XA_DELAY_EXPIRY (03 R52). -/
def xaDelayExpiry (s : State) : State :=
  if bootAt s 2 && s.clk.xaOn then xaConfirm (s.setClk { s.clk with xaDelay := true }) else s

/-- XA_DELAY_EXPIRY (03 R52). -/
def execXaDelayExpiry (s : State) : Host.Outcome State Fault Refusal := .next (xaDelayExpiry s)

/-- XA_MONITOR_WINDOW (03 R52, R55). -/
def execXaMonitorWindow (cnt : BitVec 16) (s : State) : Host.Outcome State Fault Refusal :=
  .next (xaConfirm (xaJudge cnt.toNat s))

/-- XA_CONFIRM_TIMEOUT (03 R52): the boot goes on under FRC fallback. -/
def xaTimeout (s : State) : State :=
  if bootAt s 2 && s.clk.xaDelay then bootFrom 3 (xaFallback s) else s

/-- XA_CONFIRM_TIMEOUT (03 R52). -/
def execXaConfirmTimeout (s : State) : Host.Outcome State Fault Refusal := .next (xaTimeout s)

/-- Step 3 is done once every powered PLL has locked; step 4 begins. -/
def pllLock (n : Nat) (s : State) : State :=
  let s1 := pllLockNow n s
  if bootAt s1 3 && s1.clk.lock = s1.clk.on then s1.setPwr { s1.pwr with boot := .step 4 } else s1

/-- PLL_LOCK (03 R57). -/
def execPllLock (n : Fin 4) (s : State) : Host.Outcome State Fault Refusal := .next (pllLock n.val s)

/-! ### Step 5: storage (02 R48, 15 R350, R354) -/

/-- The enabled links have all become ONLINE or FAILED. -/
def linksSettled (s : State) : Bool :=
  (List.range 4).all (fun l => !(s.rd .stoLCtl l).getLsbD 31 || (s.link l).state = .online || (s.link l).state = .failed)

/-- The end of step 5: with AUTOMNT the device issues MOUNT; step 6 begins. -/
def storageDone (s : State) : State :=
  if !bootAt s 5 || !linksSettled s then s
  else
    let s1 := if (s.rd .stoCtl).getLsbD 31 && s.sto.cmd.isNone then { s with sto := { s.sto with cmd := some (1, false) } } else s
    s1.setPwr { s1.pwr with boot := .step 6 }

/-- Step 5 begins: every enabled link trains. -/
def storageStart (s : State) : State :=
  let s1 := (List.range 4).foldl (fun s l =>
    if (s.rd .stoLCtl l).getLsbD 31 then s.setLink l { state := .train } else s) s
  storageDone (s1.setPwr { s1.pwr with boot := .step 5 })

/-- MEMORY_INIT_DONE (02 R48 step 4): memory is zero after a reset that does not keep it. -/
def memInit (s : State) : State :=
  if !bootAt s 4 then s
  else storageStart (if s.pwr.memKept then s else { s with mem := [], poison := [], ecc := [] })

/-- MEMORY_INIT_DONE (02 R48). -/
def execMemoryInitDone (s : State) : Host.Outcome State Fault Refusal := .next (memInit s)

/-- LINK_ENABLE (15 R350). -/
def execLinkEnable (w : Who) (l : Fin 4) (v : Word) (s : State) : Host.Outcome State Fault Refusal :=
  .next (storageDone (linkEnable w l v s))
/-- PCIE_LINK_UP (15 R350). -/
def execPcieLinkUp (l : Fin 4) (gen width : BitVec 4) (s : State) : Host.Outcome State Fault Refusal :=
  .next (storageDone (pcieLinkUp l gen width s))
/-- TRAIN_TIMEOUT (15 R350). -/
def execTrainTimeout (l : Fin 4) (s : State) : Host.Outcome State Fault Refusal := .next (storageDone (trainTimeout l s))
/-- SSD_READY (15 R350). -/
def execSsdReady (l : Fin 4) (i : SsdInfo) (s : State) : Host.Outcome State Fault Refusal := .next (storageDone (ssdReady l i s))
/-- READY_TIMEOUT (15 R350). -/
def execReadyTimeout (l : Fin 4) (s : State) : Host.Outcome State Fault Refusal := .next (storageDone (readyTimeout l s))
/-- COMMAND_TIMEOUT (15 R351). -/
def execCommandTimeout (l : Fin 4) (s : State) : Host.Outcome State Fault Refusal := .next (storageDone (commandTimeout l s))
/-- PCIE_LINK_DOWN (15 R351): a link-down event or a controller fatal status, both FAULT. -/
def execPcieLinkDown (l : Fin 4) (_ : Bool) (s : State) : Host.Outcome State Fault Refusal := .next (storageDone (pcieLinkDown l s))

/-! ### Steps 6 to 8 (02 R48, R49; 17 R394, R397, R401) -/

/-- The verification of slot k of component c, with the set of slots it must be compatible with (17 R393 to R395). -/
def verifySlot (c k : Nat) (others : List (Nat × List Byte)) (s : State) : Status :=
  let x := s.slot c k
  let img := slotImage x
  let st := manCheck s c x.man
  if st ≠ .ok then st
  else if sha256 img ≠ slice x.man 0x40 32 then .crc
  else if c = 2 && !headForm img then .version
  else if c = 2 && !(headPlaces (fun g => !regionOk 0 16 g s) img && headEntry img) then .denied
  else if !compatible ((c, x.man) :: others) then .version
  else .ok

/-- A slot that is in TRIAL has its tries raised before it is read. -/
def countTry (c k : Nat) (s : State) : State :=
  let x := s.slot c k
  if x.state = .trial then s.setSlot c k { x with tries := x.tries + 1 } else s

/-- Tries one slot: chosen where it verifies; else BAD, and reverted where it was in TRIAL. -/
def trySlot (c k : Nat) (others : List (Nat × List Byte)) (s : State) : Status × State :=
  let s1 := countTry c k s
  let st := verifySlot c k others s1
  if st = .ok then (.ok, s1.setSec { s1.sec with chosen := s1.sec.chosen ++ [(c, k)] })
  else
    let s2 := if (s1.slot c k).state = .trial then revertTrial c k s1 else slotTo c k .bad s1
    (st, s2.setSec { s2.sec with lastBad := st })

/-- The manifests of the slots chosen so far, and of the APP slot in use (17 R395, R401). -/
def chosenSet (s : State) : List (Nat × List Byte) :=
  s.sec.chosen.map (fun x => (x.1, (s.slot x.1 x.2).man)) ++
    (match inUseMan s 3 with
     | some m => [(3, m)]
     | none => [])

/-- Step 6: one FND slot is tried: its image is copied into DRAM from physical 0 while it is read, whatever the checks say
then (02 R48). -/
def foundryImage (s : State) : State :=
  if !bootAt s 6 then s
  else
    let s0 := passOver 2 s
    match bootOrder s0 2 with
    | [] => bootStop 6 s0.sec.lastBad s0
    | k :: _ =>
      let r := trySlot 2 k [] (memWrite 0 (slotImage (s0.slot 2 k)) s0).2
      if r.1 = .ok then r.2.setPwr { r.2.pwr with boot := .step 7 }
      else
        let s2 := passOver 2 r.2
        if (bootOrder s2 2).isEmpty then bootStop 6 r.1 s2 else s2

/-- FOUNDRY_IMAGE_DONE (02 R48). -/
def execFoundryImageDone (s : State) : Host.Outcome State Fault Refusal := .next (foundryImage s)

/-- Tries the slots of component c until one verifies, at most n of them. -/
def trySlots (c : Nat) : Nat → State → Bool × State
  | 0, s => (false, s)
  | n + 1, s =>
    let s0 := passOver c s
    match bootOrder s0 c with
    | [] => (false, s0)
    | k :: _ =>
      let r := trySlot c k (chosenSet s0) s0
      if r.1 = .ok then (true, r.2) else trySlots c n r.2

/-- The settings area of component c is checked against a manifest (17 R397). -/
def checkSettings (c : Nat) (m : List Byte) (s : State) : State :=
  let x := s.settings c
  if x.ok && manF m 0x30 2 ≤ x.ver && x.ver ≤ manF m 0x32 2 then s
  else recordCode (.num 0x80C00005) 0 [wd c, wd x.ver, wd (manF m 0x32 2)] (s.setSettings c { ver := manF m 0x32 2 })

/-- Writes both copies of a descriptor register of partition 0. -/
def putBoth (r : Reg) (v : Word) (s : State) : State := (s.wr r v).wrA r v

/-- The boot header's values stand in both copies of partition 0's descriptor and region entries (17 R394). -/
def loadHeader (s : State) : State :=
  let h := s.bytes 0 512
  let s1 := putBoth .schPdTrapS (headWord h 0x14) (putBoth .schPdSizeS (headWord h 0x10) (putBoth .schPdAreaS (headWord h 0x0C)
    (putBoth .schPdVecS (headWord h 8) (putBoth .schPdEntryS (headWord h 4) (putBoth .schPdCtlS 0 s)))))
  let both (r : Reg) (v : Word) (k : Nat) (s : State) : State := (s.wrB 0 r v k).wrBA 0 r v k
  (List.range 16).foldl (fun s k =>
    both .memRgnAttrS (headWord h (0x4C + 16 * k)) k (both .memRgnPbaseS (headWord h (0x48 + 16 * k)) k
      (both .memRgnSizeS (headWord h (0x44 + 16 * k)) k (both .memRgnVbaseS (headWord h (0x40 + 16 * k)) k s)))) s1

/-- Step 8: the foundry partition is released on triad 0 as one continuous job, RSTOUT_L rises, the foundry watchdog and
CONFTO start, counters are raised, a late activation is abandoned (02 R48; 17 R394, R400, R401; 18 R411). The field die
counts as having its configuration from here on (02 R28; DESIGN CHOICE log 149). -/
def foundryRelease (s : State) : State :=
  let s1 := loadHeader s
  let s2 := s1.setPins { s1.pins with rstout := true }
  let s3 := { s2.setPwr { s2.pwr with boot := .released, fromPewter := false, memKept := false } with
    dio := { s2.dio with cfgd := true, cmdSafe := false, dozeSafe := false, clkErr := false } }
  let s4 := s3.setSup { s3.sup with kto := some (fld (s3.rd .supFwdg) 0 16) }
  let s5 := s4.setSec { s4.sec with trial := (trialSlot s4).map (·.1) }
  let s6 := if unprovisioned s5 then
      recordCode (.num 0x80C00007) 0 [wd (((chosenSet s5).find? (fun x => x.1 = 2)).map (fun x => manRoot x.2) |>.getD 0)] s5 else s5
  let s7 := (List.range 4).foldl (fun s c =>
    match (chosenSet s).find? (fun x => x.1 = c) with
    | some (_, m) => checkSettings c m s
    | none => s) s6
  let s8 := startRaise (lateActivation (s7.setSec { s7.sec with raiseBad := false }))
  pfailStill (tryCont { s8 with sch := { s8.sch with contPend := true } })

/-- MICROCODE_LOADED (02 R48 step 7, R49): FIO and NET are selected, verified and loaded; step 8 follows. -/
def microcode (s : State) : State :=
  if !bootAt s 7 then s
  else
    let f := trySlots 0 3 (s.setSec { s.sec with lastBad := .fault })
    if !f.1 then bootStop 7 f.2.sec.lastBad f.2
    else
      let n := trySlots 1 3 (f.2.setSec { f.2.sec with lastBad := .fault })
      if !n.1 then bootStop 7 n.2.sec.lastBad n.2 else foundryRelease n.2

/-- MICROCODE_LOADED (02 R48). -/
def execMicrocodeLoaded (s : State) : Host.Outcome State Fault Refusal := .next (microcode s)

/-! ### Returns to Run (02 R38) -/

/-- WAKE (02 R37, R38): an enabled wake source is latched. -/
def wake (s : State) : State :=
  if !wakes s then s
  else
    match s.pwr.state with
    | .run => s
    | .doze => lateActivation (leaveDoze s)
    | .pewter => leavePewter s

/-- WAKE (02 R38). -/
def execWake (s : State) : Host.Outcome State Fault Refusal := .next (wake s)

end Sys2Proof.Machine
end

