-- ==== Sys2Proof/Machine/Float.lean ====
section
/-!
DEFINITION. IEEE 754 binary32 as 05 R119, R120 and 06 R147 use it: exact values rounded once, to nearest, ties to even;
every NaN produced is 7FC0_0000h.
-/

namespace Sys2Proof.Machine

/-- The conditions that a float instruction raises (05 R119): invalid, division by zero, overflow, tiny and inexact,
inexact. -/
structure FFlags where
  inv : Bool := false
  dz : Bool := false
  ovf : Bool := false
  unf : Bool := false
  inx : Bool := false
  deriving DecidableEq, Repr

/-- A result with the conditions it raises. -/
abbrev FRes := Word × FFlags

/-- The quiet NaN 7FC0_0000h (05 R119). -/
def qNaN : Word := 0x7FC00000

/-- The biased exponent. -/
def fExp (x : Word) : Nat := x.toNat / 2 ^ 23 % 256
/-- The fraction. -/
def fFrac (x : Word) : Nat := x.toNat % 2 ^ 23
/-- The sign. -/
def fNeg (x : Word) : Bool := x.getLsbD 31
/-- A NaN. -/
def isNaN (x : Word) : Bool := fExp x = 255 && fFrac x ≠ 0
/-- A signalling NaN. -/
def isSNaN (x : Word) : Bool := isNaN x && !x.getLsbD 22
/-- An infinity. -/
def isInf (x : Word) : Bool := fExp x = 255 && fFrac x = 0
/-- A zero. -/
def isZero (x : Word) : Bool := x.toNat % 2 ^ 31 = 0
/-- The significand of a finite value: the value is significand x 2 ^ exponent. -/
def fSig (x : Word) : Nat := if fExp x = 0 then fFrac x else 2 ^ 23 + fFrac x
/-- The exponent of a finite value's last place. -/
def fPow (x : Word) : Int := if fExp x = 0 then -149 else (fExp x : Int) - 150
/-- A sign bit. -/
def fSign (neg : Bool) : Nat := if neg then 2 ^ 31 else 0
/-- A word from a sign and the other 31 bits. -/
def fWord (neg : Bool) (m : Nat) : Word := BitVec.ofNat 32 (fSign neg + m)
/-- An infinity. -/
def fInf (neg : Bool) : Word := fWord neg 0x7F800000
/-- A zero. -/
def fZero (neg : Bool) : Word := fWord neg 0

/-- The number of bits of a number. -/
def bitLen (n : Nat) : Nat := if n = 0 then 0 else n.log2 + 1

/-- m / 2 ^ k rounded to nearest, ties to even. -/
def rne (m k : Nat) : Nat :=
  let q := m / 2 ^ k
  let r := m % 2 ^ k
  if 2 * r > 2 ^ k || (2 * r = 2 ^ k && q % 2 = 1) then q + 1 else q

/-- m x 2 ^ e measured in units of 2 ^ q, rounded, and whether that was inexact. -/
def toUnits (m : Nat) (e q : Int) : Nat × Bool :=
  if e < q then (rne m (q - e).toNat, m % 2 ^ (q - e).toNat ≠ 0) else (m * 2 ^ (e - q).toNat, false)

/-- Rounds the exact value (-1)^neg x m x 2 ^ e to binary32 (05 R119). The lowest bit of m may be a sticky bit if m has
at least 26 bits. Whether a value is tiny before or after rounding is open (DESIGN CHOICE log 30). -/
def roundF (neg : Bool) (m : Nat) (e : Int) : FRes :=
  if m = 0 then (fZero neg, {})
  else
    let top : Int := (bitLen m : Int) - 1 + e
    let q : Int := if top - 23 < -149 then -149 else top - 23
    let u := toUnits m e q
    let bits := (q + 149).toNat * 2 ^ 23 + u.1
    let wide := toUnits m e (top - 23)
    let tiny : Bool := top < -126 && (!Config.tinyAfter || !(top = -127 && wide.1 = 2 ^ 24))
    if bits ≥ 0x7F800000 then (fInf neg, { ovf := true, inx := true })
    else (fWord neg bits, { unf := tiny && u.2, inx := u.2 })

/-- The result of an operation with a NaN operand (05 R119). -/
def nanRes (a b : Word) : FRes := (qNaN, { inv := isSNaN a || isSNaN b })

/-- The result of an invalid operation. -/
def invRes : FRes := (qNaN, { inv := true })

/-- The signed significand of a finite value in units of 2 ^ q, q at most its exponent. -/
def fInt (x : Word) (q : Int) : Int :=
  let n : Int := ((fSig x * 2 ^ (fPow x - q).toNat : Nat) : Int)
  if fNeg x then -n else n

/-- ADDF (06 R147). -/
def addF (a b : Word) : FRes :=
  if isNaN a || isNaN b then nanRes a b
  else if isInf a then (if isInf b && fNeg a ≠ fNeg b then invRes else (a, {}))
  else if isInf b then (b, {})
  else
    let q := if fPow a < fPow b then fPow a else fPow b
    let s := fInt a q + fInt b q
    if s = 0 then (fZero (isZero a && fNeg a && isZero b && fNeg b), {})
    else roundF (decide (s < 0)) s.natAbs q

/-- SUBF (06 R147). -/
def subF (a b : Word) : FRes := if isNaN b then nanRes a b else addF a (b ^^^ 0x80000000)

/-- MULF (06 R147). -/
def mulF (a b : Word) : FRes :=
  let neg := fNeg a != fNeg b
  if isNaN a || isNaN b then nanRes a b
  else if (isInf a && isZero b) || (isZero a && isInf b) then invRes
  else if isInf a || isInf b then (fInf neg, {})
  else roundF neg (fSig a * fSig b) (fPow a + fPow b)

/-- DIVF (06 R147). -/
def divF (a b : Word) : FRes :=
  let neg := fNeg a != fNeg b
  if isNaN a || isNaN b then nanRes a b
  else if (isInf a && isInf b) || (isZero a && isZero b) then invRes
  else if isInf a then (fInf neg, {})
  else if isInf b then (fZero neg, {})
  else if isZero b then (fInf neg, { dz := true })
  else
    let n := fSig a * 2 ^ 60
    let q := n / fSig b
    let sticky := if n % fSig b = 0 then 0 else 1
    roundF neg (2 * q + sticky) (fPow a - fPow b - 61)

/-- The largest r with r * r at most n, found bit by bit from bit k down. -/
def isqrt (n : Nat) : Nat → Nat → Nat
  | 0, r => r
  | k + 1, r => if (r + 2 ^ k) * (r + 2 ^ k) ≤ n then isqrt n k (r + 2 ^ k) else isqrt n k r

/-- SQRTF (06 R147, 05 R120). -/
def sqrtF (a : Word) : FRes :=
  if isNaN a then nanRes a a
  else if isZero a then (a, {})
  else if fNeg a then invRes
  else if isInf a then (a, {})
  else
    let odd : Nat := if fPow a % 2 = 0 then 0 else 1
    let n := fSig a * 2 ^ (60 + odd)
    let r := isqrt n 44 0
    let sticky := if r * r = n then 0 else 1
    roundF false (2 * r + sticky) ((fPow a - odd) / 2 - 31)

/-- ABSF (06 R147). -/
def absF (a : Word) : FRes := if isNaN a then nanRes a a else (a &&& 0x7FFFFFFF, {})

/-- NEGF (06 R147). -/
def negF (a : Word) : FRes := if isNaN a then nanRes a a else (a ^^^ 0x80000000, {})

/-- CVTFW (06 R147, 05 R120): rounded toward zero. -/
def cvtFW (a : Word) : FRes :=
  if isNaN a then (0, { inv := true })
  else
    let big : FRes := (if fNeg a then 0x80000000 else 0x7FFFFFFF, { inv := true })
    if isInf a then big
    else
      let t : Nat := if fPow a < 0 then fSig a / 2 ^ (-fPow a).toNat else fSig a * 2 ^ (fPow a).toNat
      let inx : Bool := fPow a < 0 && fSig a % 2 ^ (-fPow a).toNat ≠ 0
      if t ≥ 2 ^ 31 + (if fNeg a then 1 else 0) then big
      else (BitVec.ofInt 32 (if fNeg a then -(t : Int) else t), { inx := inx })

/-- CVTWF (06 R147, 05 R120). -/
def cvtWF (a : Word) : FRes := roundF (a.toInt < 0) a.toInt.natAbs 0

/-- The order of two values that are no NaN: their exact values compared (05 R119: +0 and -0 are equal). -/
def fVal (x : Word) : Int := if fNeg x then -((x.toNat % 2 ^ 31 : Nat) : Int) else ((x.toNat % 2 ^ 31 : Nat) : Int)

/-- A float compare: with a NaN operand only not-equal holds (05 R120). -/
def cmpF (rel : Int → Int → Bool) (nan : Bool) (a b : Word) : Bool :=
  if isNaN a || isNaN b then nan else rel (fVal a) (fVal b)

end Sys2Proof.Machine
end

