-- ==== Sys2Proof/Machine/Flags.lean ====
section
/-!
DEFINITION. Word arithmetic and its flags: the result of every ALU and immediate operation with the C, V and DZ flags
that it sets (05 R115 to R117, 06 R142 to R144).
-/

namespace Sys2Proof.Machine

/-- The outcome of a word operation: the result, the flags it sets (none: unchanged; Z and N follow the result), and
whether V = 1 can trap (05 R115, R118). -/
structure Alu where
  val : Word
  c : Option Bool := none
  v : Option Bool := none
  dz : Option Bool := none
  traps : Bool := true
  deriving DecidableEq, Repr

/-- FL with the flags of an outcome (05 R107, R115). -/
def Alu.flags (r : Alu) (fl : BitVec 5) : BitVec 5 :=
  BitVec.ofBool (r.dz.getD (fl.getLsbD 4)) ++ BitVec.ofBool (r.v.getD (fl.getLsbD 3)) ++
    BitVec.ofBool (r.c.getD (fl.getLsbD 2)) ++ BitVec.ofBool (r.val.getLsbD 31) ++ BitVec.ofBool (r.val == 0)

/-- The exception of an outcome under a status word: DZ 6 with TDZ, V 7 with TV (05 R118). -/
def Alu.trap (r : Alu) (sw : Word) : Option Nat :=
  if r.dz = some true && sw.getLsbD 3 then some 6
  else if r.v = some true && r.traps && sw.getLsbD 4 then some 7
  else none

/-- An integer lies in the signed word range. -/
def fitsWord (x : Int) : Bool := -2147483648 ≤ x && x ≤ 2147483647

/-- An integer clamped to the signed word range (05 R115). -/
def clampWord (x : Int) : Word :=
  if x < -2147483648 then 0x80000000 else if x > 2147483647 then 0x7FFFFFFF else BitVec.ofInt 32 x

/-- ADD (05 R115). -/
def aluAdd (a b : Word) : Alu :=
  { val := a + b, c := some (decide (2 ^ 32 ≤ a.toNat + b.toNat)), v := some (!fitsWord (a.toInt + b.toInt)) }
/-- SUB (05 R115). -/
def aluSub (a b : Word) : Alu :=
  { val := a - b, c := some (decide (b.toNat ≤ a.toNat)), v := some (!fitsWord (a.toInt - b.toInt)) }
/-- ADDS (05 R115). -/
def aluAdds (a b : Word) : Alu :=
  { aluAdd a b with val := clampWord (a.toInt + b.toInt), traps := false }
/-- SUBS (05 R115). -/
def aluSubs (a b : Word) : Alu :=
  { aluSub a b with val := clampWord (a.toInt - b.toInt), traps := false }
/-- NEG (05 R115). -/
def aluNeg (a : Word) : Alu := aluSub 0 a
/-- MUL (05 R115). -/
def aluMul (a b : Word) : Alu :=
  { val := a * b, c := some false, v := some (!fitsWord (a.toInt * b.toInt)) }
/-- MULS (05 R115). -/
def aluMuls (a b : Word) : Alu :=
  { aluMul a b with val := clampWord (a.toInt * b.toInt), traps := false }
/-- DIV: the quotient's outcome (05 R116). -/
def aluDiv (a b : Word) : Alu :=
  if b = 0 then { val := 0, c := some false, v := some false, dz := some true }
  else { val := BitVec.ofInt 32 (a.toInt.tdiv b.toInt), c := some false, v := some (!fitsWord (a.toInt.tdiv b.toInt)),
         dz := some false }
/-- DIV: the remainder (05 R116). -/
def remDiv (a b : Word) : Word := if b = 0 then a else BitVec.ofInt 32 (a.toInt.tmod b.toInt)
/-- DIVU: the quotient's outcome (05 R116). -/
def aluDivu (a b : Word) : Alu :=
  if b = 0 then { val := 0, c := some false, v := some false, dz := some true }
  else { val := BitVec.ofNat 32 (a.toNat / b.toNat), c := some false, v := some false, dz := some false }
/-- DIVU: the remainder (05 R116). -/
def remDivu (a b : Word) : Word := if b = 0 then a else BitVec.ofNat 32 (a.toNat % b.toNat)

/-- A logical result: V is 0, C unchanged (05 R115). -/
def aluLogic (x : Word) : Alu := { val := x, v := some false }

/-- The C flag of a shift by n: unchanged by 0, the last bit out up to 32, 0 beyond (05 R117). -/
def shiftC (n : Nat) (last : Bool) : Option Bool := if n = 0 then none else if n ≤ 32 then some last else some false

/-- SHL (05 R117). -/
def aluShl (a : Word) (n : Nat) : Alu := { val := a <<< n, c := shiftC n (a.getLsbD (32 - n)), v := some false }
/-- SHR (05 R117). -/
def aluShr (a : Word) (n : Nat) : Alu := { val := a >>> n, c := shiftC n (a.getLsbD (n - 1)), v := some false }
/-- SAR (05 R117). -/
def aluSar (a : Word) (n : Nat) : Alu :=
  { val := a.sshiftRight n, c := shiftC n (a.getLsbD (n - 1)), v := some false }
/-- ROL (05 R117). -/
def aluRol (a : Word) (n : Nat) : Alu :=
  let r := a.rotateLeft (n % 32)
  { val := r, c := if n % 32 = 0 then none else some (r.getLsbD 0), v := some false }
/-- ROR (05 R117). -/
def aluRor (a : Word) (n : Nat) : Alu :=
  let r := a.rotateRight (n % 32)
  { val := r, c := if n % 32 = 0 then none else some (r.getLsbD 31), v := some false }

/-- The shift count of an operand: its bits 7:0 (05 R117). -/
def shiftCount (b : Word) : Nat := b.toNat % 256

/-- SHI by kind: SHLI, SHRI, SARI, ROLI, RORI (06 R144); the other kinds are no instruction. -/
def aluShi (kind : BitVec 3) (a : Word) (n : Nat) : Alu :=
  match kind.toNat with
  | 0 => aluShl a n
  | 1 => aluShr a n
  | 2 => aluSar a n
  | 3 => aluRol a n
  | _ => aluRor a n

/-- The sign-extended immediate (06 R138). -/
def sextW (imm : BitVec 16) : Word := imm.signExtend 32
/-- The zero-extended immediate (06 R138). -/
def zextW (imm : BitVec 16) : Word := imm.setWidth 32

end Sys2Proof.Machine
end

