-- ==== Sys2Proof/Machine/Supervise.lean ====
section
/-!
DEFINITION. Supervision (18): temperatures, the foundry watchdog, the causes of the fatal halt, the maintenance port and
the console, the pin-ownership table, and the registers of SUP and SEC.
-/

namespace Sys2Proof.Machine

/-! ### Health monitors (18 R409, R410, R413) -/

/-- A temperature in units of 0.125 degrees lies at or above a limit in degrees. -/
def atLeast (t : BitVec 16) (deg : Int) : Bool := decide (8 * deg ≤ t.toInt)

/-- TEMPERATURE_SAMPLE (18 R409, R410): two samples of one die at or above 135 C in a row are fatal. -/
def temperature (l f : BitVec 16) (s : State) : State :=
  if tbHeld s || s.pwr.state = .pewter then s
  else
    let warn : Int := Int.ofNat (fld (s.rd .supTlim) 0 8)
    let hot := atLeast l warn || atLeast f warn
    let cool := !atLeast l (warn - 5) && !atLeast f (warn - 5)
    let dead := (s.sup.hotL && atLeast l 135) || (s.sup.hotF && atLeast f 135)
    let s1 := s.wr .supTemp (wd (f.toNat * 65536 + l.toNat))
    let s2 := if hot && !s1.sup.warn then alarm .sup s1 else s1
    let s3 := s2.setSup { s2.sup with hotL := atLeast l 135, hotF := atLeast f 135
                                      warn := if hot then true else if cool then false else s2.sup.warn }
    if dead then fatalHalt 3 s3 else s3

/-- TEMPERATURE_SAMPLE (18 R409). -/
def execTemperatureSample (l f : BitVec 16) (s : State) : Host.Outcome State Fault Refusal := .next (temperature l f s)

/-- FABRIC_CHECK_DISAGREEMENT (18 R409, R413). -/
def execFabricCheckDisagreement (s : State) : Host.Outcome State Fault Refusal := .next (fatalHalt 2 s)

/-- TEST_EN_HIGH (01 R15, 18 R413). -/
def execTestEnHigh (s : State) : Host.Outcome State Fault Refusal :=
  .next (fatalHalt 1 (s.setPins { s.pins with testEn := true }))

/-! ### The foundry watchdog (18 R411, R412) -/

/-- A write to FWDG: KICK restarts the KTO count, which runs while the scheduler is disabled. -/
def fwdgWrite (w : Who) (v : Word) (s : State) : State :=
  asFnd w s fun s =>
    if fld v 16 8 = 0 || fld v 0 16 = 0 then s.reply .denied
    else
      let s1 := s.put .supFwdg v
      (if v.getLsbD 31 && !s.schEn && !s.pwr.fatal then s1.setSup { s1.sup with kto := some (fld v 0 16) } else s1).reply .ok

/-- KICK (18 R411): a write with KICK set. -/
def execKick (w : Who) (v : Word) (s : State) : Host.Outcome State Fault Refusal := .next (fwdgWrite w (v ||| bit 31) s)

/-- FOUNDRY_WATCHDOG_EXPIRY (18 R411): in the fatal halt the watchdog is stopped. -/
def fwdgExpiry (s : State) : State :=
  let due := if s.schEn then decide (s.sup.misses ≥ fld (s.rd .supFwdg) 16 8) else s.sup.kto.isSome
  if s.pwr.fatal || !due then s
  else
    let s1 := record .watchdog 0 [] (alarm .sup (s.setSup { s.sup with kto := none, misses := 0 }))
    askReset .warm 6 (s1.count .supFwdgcnt 1)

/-- FOUNDRY_WATCHDOG_EXPIRY (18 R411). -/
def execFoundryWatchdogExpiry (s : State) : Host.Outcome State Fault Refusal := .next (fwdgExpiry s)

/-! ### The maintenance port (18 R420) -/

/-- The port runs: enabled, in Run. -/
def mntOn (s : State) : Bool := (s.rd .supMntCtl).getLsbD 31 && s.pwr.state = .run

/-- Completes a transmit entry: DONE and its status; VID, port and stamp are 0. -/
def mntDone (va : Nat) (st : Status) (s : State) : State :=
  (partWrite 0 (va + 8) (leBytes 4 (2 ^ 31 + st.code * 65536) ++ leBytes 4 0 ++ leBytes 8 0) s).2

/-- Sends the entry at an index. -/
def mntSend (idx : Nat) (s : State) : State :=
  let va := (s.rd .supMntTxbase).toNat + 32 * idx
  if !ringOk s 0 va then mntDone va .denied s
  else
    let e := partRead 0 va 8 s
    let len := fld (entryWord e.2.1 1) 0 16
    if e.1 ≠ .ok then mntDone va e.1 e.2.2
    else if len < 14 || 1992 < len then mntDone va .size e.2.2
    else
      let f := partRead 0 (entryWord e.2.1 0).toNat len e.2.2
      if f.1 ≠ .ok then mntDone va f.1 f.2.2
      else mntDone va .ok (f.2.2.setSup { f.2.2.sup with mtx := f.2.1 })

/-- Sends the entries up to TXTAIL, at most k. -/
def mntSendAll : Nat → State → State
  | 0, s => s
  | k + 1, s =>
    let n := 2 ^ fld (s.rd .supMntCtl) 4 4
    let h := (s.rd .supMntTxhead).toNat % n
    if h = (s.rd .supMntTxtail).toNat % n then s
    else mntSendAll k ((mntSend h s).wr .supMntTxhead (wd ((h + 1) % n)))

/-- A write to MNT_TXTAIL, taken at once. -/
def mntTailWrite (w : Who) (v : Word) (s : State) : State :=
  asFnd w s fun s =>
    let s1 := s.wr .supMntTxtail v
    (if mntOn s then mntSendAll 4096 s1 else s1).reply .ok

/-- MAINTENANCE_TRANSMIT (18 R420). -/
def execMaintenanceTransmit (w : Who) (v : Word) (s : State) : Host.Outcome State Fault Refusal := .next (mntTailWrite w v s)

/-- MAINTENANCE_RECEIVE (18 R420, 09 R219 to R221): a frame from the destination address to the end of the payload; with
no returned entry it is lost. -/
def mntReceive (f : List Byte) (s : State) : State :=
  let n := 2 ^ fld (s.rd .supMntCtl) 8 4
  let h := (s.rd .supMntRxhead).toNat % n
  let va := (s.rd .supMntRxbase).toNat + 32 * h
  if !mntOn s || h = (s.rd .supMntRxtail).toNat % n then s
  else
    let e := entryRead 0 va s
    let d := f.take (fld (entryWord e.2.1 1) 0 16)
    let w := if e.1 ≠ .ok then (e.1, e.2.2) else partWrite 0 (entryWord e.2.1 0).toNat d e.2.2
    let st := if w.1 ≠ .ok then w.1 else if d.length < f.length then .size else .ok
    let out := leBytes 4 (f.length % 65536) ++ leBytes 4 (2 ^ 31 + st.code * 65536) ++ leBytes 4 0 ++ leBytes 8 0 ++ leBytes 8 0
    (partWrite 0 (va + 4) out w.2).2.wr .supMntRxhead (wd ((h + 1) % n))

/-- MAINTENANCE_RECEIVE (18 R420). -/
def execMaintenanceReceive (f : List Byte) (s : State) : Host.Outcome State Fault Refusal := .next (mntReceive f s)

/-- A write to MNT_MDIO: BUSY while an operation runs. -/
def mdioWrite (w : Who) (v : Word) (s : State) : State :=
  asFnd w s fun s =>
    if s.sup.mdio.isSome then s.reply .busy
    else
      let s1 := s.put .supMntMdio v
      (if v.getLsbD 31 then s1.setSup { s1.sup with mdio := some (v.getLsbD 30) } else s1).reply .ok

/-- MDIO_GO (18 R420): a write with GO set. -/
def execMdioGo (w : Who) (v : Word) (s : State) : Host.Outcome State Fault Refusal := .next (mdioWrite w (v ||| bit 31) s)

/-- MDIO_COMPLETE (18 R420): GO reads 0, and a read's data appears. -/
def mdioComplete (d : BitVec 16) (s : State) : State :=
  match s.sup.mdio with
  | none => s
  | some wr =>
    let v := s.rd .supMntMdio &&& ~~~ bit 31
    (s.setSup { s.sup with mdio := none }).wr .supMntMdio (if wr then v else fset v 0 16 d.toNat)

/-- MDIO_COMPLETE (18 R420). -/
def execMdioComplete (d : BitVec 16) (s : State) : Host.Outcome State Fault Refusal := .next (mdioComplete d s)

/-! ### The console (18 R420) -/

/-- A write to UDATA: FULL while TXFULL is 1. -/
def uartWrite (w : Who) (v : Word) (s : State) : State :=
  asFnd w s fun s =>
    if s.sup.utx.length ≥ 16 then s.reply .full
    else (s.setSup { s.sup with utx := s.sup.utx ++ [BitVec.ofNat 8 v.toNat] }).reply .ok

/-- UART_TRANSMIT (18 R420). -/
def execUartTransmit (w : Who) (v : Word) (s : State) : Host.Outcome State Fault Refusal := .next (uartWrite w v s)

/-- A read of UDATA takes a byte and clears RXLOST. -/
def uartRead (w : Who) (s : State) : State :=
  asReader w .supUdata s fun _ s =>
    match s.sup.urx with
    | [] => (s.setSup { s.sup with rxLost := false }).answer .ok 0
    | b :: l => (s.setSup { s.sup with urx := l, rxLost := false }).answer .ok (wd (2 ^ 31 + b.toNat))

/-- UART_READ (18 R420). -/
def execUartRead (w : Who) (s : State) : Host.Outcome State Fault Refusal := .next (uartRead w s)

/-- UART_RECEIVE (18 R420, 02 R41): the start bit is a wake source; the FIFO runs in Run. -/
def uartReceive (b : Byte) (s : State) : State :=
  if tbHeld s then s
  else
    let s1 := s.setBits .supWakesrc (bit 5)
    if s1.pwr.state ≠ .run then s1
    else if s1.sup.urx.length ≥ 16 then s1.setSup { s1.sup with rxLost := true }
    else s1.setSup { s1.sup with urx := s1.sup.urx ++ [b] }

/-- UART_RECEIVE (18 R420). -/
def execUartReceive (b : Byte) (s : State) : Host.Outcome State Fault Refusal := .next (uartReceive b s)

/-- UART_BYTE_SENT (18 R420). -/
def uartSent (s : State) : State := s.setSup { s.sup with utx := s.sup.utx.drop 1 }

/-- UART_BYTE_SENT (18 R420). -/
def execUartByteSent (s : State) : Host.Outcome State Fault Refusal := .next (uartSent s)

/-! ### The pin-ownership table (18 R421) -/

/-- A KIND is permitted for an entry. -/
def kindOk (i kind : Nat) : Bool :=
  match kind with
  | 0 => true
  | 1 => decide (96 ≤ i) && decide (i < 160)
  | 2 => decide (i < 96)
  | _ => decide (192 ≤ i) && decide (i < 212)

/-- Entry i is a channel marked S (17 R383). -/
def entryS (s : State) (i : Nat) : Bool :=
  if i < 96 then sChannel s 5 i else if i < 160 then sChannel s 8 (i - 96) else i < 192 && sChannel s 10 (i - 160)

/-- The resource of entry i is in use. -/
def entryBusy (s : State) (i : Nat) : Bool :=
  let kind := fld (s.rd .supPinown i) 12 2
  (if i < 96 then (s.rdA .dioDiCfgS i).getLsbD 31
   else if i < 160 then (s.rdA .dioDoCfgS (i - 96)).getLsbD 31
   else if i < 192 then (s.rdA .alpCCfgS (i - 160)).getLsbD 31
   else if i < 212 then canEn s (i - 192)
   else (s.rd .brbSlotOwn (i - 212)).getLsbD 31) ||
    (kind = 1 && (s.rd .schForceind).getLsbD 31) || (kind = 2 && (s.rdA .alpTrimcfgS).getLsbD 31)

/-- A write to PINOWNi. -/
def pinownWrite (w : Who) (i : Nat) (v : Word) (s : State) : State :=
  asFnd w s fun s =>
    let x := v &&& 0x800033FF
    let old := s.rd .supPinown i
    let kind := fld x 12 2
    let n := fld x 0 10
    if i ≥ 220 || (kind ≠ 0 && n ≠ 0) then s.reply .denied
    else if !x.getLsbD 31 then
      if old.getLsbD 31 && entryBusy s i then s.reply .busy else (s.wr .supPinown x i).reply .ok
    else if old.getLsbD 31 then
      if old = x then s.reply .ok else (recordDenied (whoPart w) i s).reply .denied
    else if !kindOk i kind || (kind = 0 && entryS s i && (pdCls (ctlS s n) ≠ 1 || pdCls (ctlA s n) ≠ 1)) then s.reply .denied
    else (s.wr .supPinown x i).reply .ok

/-- PIN_OWNERSHIP_WRITE (18 R421). -/
def execPinOwnershipWrite (w : Who) (i : BitVec 8) (v : Word) (s : State) : Host.Outcome State Fault Refusal :=
  .next (pinownWrite w i.toNat v s)

/-! ### Registers of SUP -/

/-- A write to PWRSTAT: PFLAT crosses into the pewter domain, FLUSHDONE clears at once (02 R39). -/
def pwrstatWrite (v : Word) (s : State) : State :=
  let s1 := s.clrBits .supPwrstat (v &&& 1)
  if v.getLsbD 9 then postPew (Reg.supPwrstat.addr 0 0) 0x200 s1 else s1.reply .ok

/-- Writes of SUP registers with rules of their own; none for the others. -/
def supWrite (w : Who) (r : Reg) (i : Nat) (v : Word) (s : State) : Option State :=
  match r with
  | .supPwrstat => some (asFnd w s (pwrstatWrite v))
  | .supPstate => some (pstateWrite w v s)
  | .supWakeen | .supWakesrc | .supRstcause => some (asFnd w s (postPew (r.addr 0 0) v))
  | .supRstctl => some (rstctlWrite w v s)
  | .supTlim => some (asFnd w s fun s =>
      if 80 ≤ fld v 0 8 && fld v 0 8 ≤ 125 then (s.put .supTlim v).reply .ok else s.reply .denied)
  | .supFwdg => some (fwdgWrite w v s)
  | .supFwdgcnt => some (asFnd w s (clearOnZero .supFwdgcnt v))
  | .supMntCtl => some (asFnd w s fun s =>
      let log (k : Nat) : Bool := 3 ≤ k && k ≤ 12
      if fld v 0 2 = 3 || (v.getLsbD 31 && !(log (fld v 8 4) && log (fld v 4 4))) then s.reply .denied
      else (s.put .supMntCtl v).reply .ok)
  | .supMntTxtail => some (mntTailWrite w v s)
  | .supMntMdio => some (mdioWrite w v s)
  | .supUdata => some (uartWrite w v s)
  | .supPinown => some (pinownWrite w i v s)
  | .supPinownr => some (asFnd w s (State.reply .denied))
  | _ => none

/-- Reads of SUP registers with rules of their own; none for the others. -/
def supRead (w : Who) (r : Reg) (s : State) : Option State :=
  match r with
  | .supPwrstat => some (s.answer .ok (pwrstat s))
  | .supDbgstat => some (s.answer .ok (s.rd .supDbgstat ||| wd (debugLevel s)))
  | .supUdata => some (uartRead w s)
  | .supUstat => some (s.answer .ok (wd (b2n s.sup.rxLost * 4 + b2n (decide (s.sup.utx.length ≥ 16)) * 2 +
      b2n (!s.sup.urx.isEmpty))))
  | _ => none

/-! ### Registers of SEC (17 R405) -/

/-- The slot whose billets USTAT and UMISS count: the one UARG names if it is STAGING, else the first that is. -/
def stagingSlot (s : State) : Option Slot :=
  if uSlot s < 3 && (s.slot (uComp s) (uSlot s)).state = .staging then some (s.slot (uComp s) (uSlot s))
  else ((List.range 12).map (fun i => s.slot (i / 3) (i % 3))).find? (fun x => x.state = .staging)

/-- The billets missing. -/
def missNow (s : State) : List Nat :=
  match stagingSlot s with
  | some x => missing x
  | none => []

/-- The code of a slot state (17 R391). -/
def SlotState.code (x : SlotState) : Nat := x.ctorIdx

/-- CSTATc (17 R405): tries are those of the TRIAL slot. -/
def cstat (s : State) (c : Nat) : Word :=
  let tries := ((slotsIn s c .trial).head?.map (fun k => (s.slot c k).tries)).getD 0
  wd (((manIn s c .active).map manIv).getD 0 * 65536 + tries % 4 * 4096 + (s.slot c 2).state.code * 256 +
    (s.slot c 1).state.code * 16 + (s.slot c 0).state.code)

/-- Writes of SEC registers with rules of their own; none for the others. -/
def secWrite (w : Who) (r : Reg) (v : Word) (s : State) : Option State :=
  match r with
  | .secFprog => some (fprogWrite w v s)
  | .secKload => some (kloadWrite w v s)
  | .secUcmd => some (ucmdWrite w v s)
  | .secConfto => some (asFnd w s fun s =>
      if fld v 0 16 < 10 then s.reply .denied else (s.put .secConfto v).reply .ok)
  | _ => none

/-- Reads of SEC registers with rules of their own; none for the others. -/
def secRead (r : Reg) (i : Nat) (s : State) : Option State :=
  match r with
  | .secFstat => some (s.answer .ok (s.rd .secFstat ||| wd (b2n s.fuses.prog.isSome * 2 ^ 31 + b2n (unprovisioned s) * 2 ^ 30)))
  | .secFread =>
    let k := fld (s.rd .secFrsel) 0 7
    some (s.answer .ok (if 44 ≤ k && k ≤ 51 then 0 else s.fuse k))
  | .secUstat => some (s.answer .ok (fset (s.rd .secUstat) 16 12 ((missNow s).headD 0xFFF)))
  | .secUmiss => some (s.answer .ok (wd (missNow s).length))
  | .secCstat => some (s.answer .ok (cstat s i))
  | .secSvn => some (s.answer .ok (wd (svnOf s i)))
  | _ => none

end Sys2Proof.Machine
end

