-- ==== Sys2Proof/Machine/RegBus.lean ====
section
/-!
DEFINITION. The physical space of 00: the span that an address lies in, the register at an offset, and one access to a
register, to memory or to the rack window with its status and record.
-/

namespace Sys2Proof.Machine

/-- The indices of the register of a row at distance d from its base, if the map assigns one there. -/
def RegRow.at (r : RegRow) (d : Nat) : Option (Nat × Nat) :=
  let i := if r.s1 = 0 then 0 else d / r.s1
  let x := if r.s1 = 0 then d else d % r.s1
  let j := if r.s2 = 0 then 0 else x / r.s2
  let y := if r.s2 = 0 then x else x % r.s2
  if i < r.n1 && j < r.n2 && y = 0 then some (i, j) else none

/-- The indices of the register of a row at an address, and whether it is the active copy (00 R9). -/
def RegRow.locate (r : RegRow) (a : Nat) : Option (Nat × Nat × Bool) :=
  match (if r.base ≤ a then r.at (a - r.base) else none) with
  | some p => some (p.1, p.2, false)
  | none =>
    if r.aoff ≠ 0 && r.base + r.aoff ≤ a then (r.at (a - r.base - r.aoff)).map (fun p => (p.1, p.2, true)) else none

/-- The spans of the register-space table (00): base, length, unit, registers. -/
def unitSpans : List (Nat × Nat × Unt × List Reg) :=
  [(0x6000000000, 0x10000, .sup, regsSup), (0x6000010000, 0x10000, .clk, regsClk), (0x6000020000, 0x10000, .tim, regsTim),
   (0x6000100000, 0x100000, .fab, regsFab), (0x6000200000, 0x100000, .sch, regsSch),
   (0x6000300000, 0x10000, .mem, regsMem), (0x6000310000, 0x10000, .arb, regsArb),
   (0x6000400000, 0x100000, .she, regsShe), (0x6000500000, 0x100000, .eth, regsEth),
   (0x6000600000, 0x100000, .stn, regsStn), (0x6000700000, 0x14000, .can, regsCan),
   (0x6000800000, 0x100000, .dio, regsDio), (0x6000900000, 0x100000, .alp, regsAlp),
   (0x6000A00000, 0x100000, .sto, regsSto), (0x6000B00000, 0x100000, .brb, regsBrb),
   (0x6000C00000, 0x100000, .sec, regsSec)]

/-- The unit span that an address lies in. -/
def spanOf (a : Nat) : Option (Nat × Nat × Unt × List Reg) :=
  unitSpans.find? (fun x => x.1 ≤ a && a < x.1 + x.2.1)

/-- The register that the map assigns to an address of a unit: the register, its indices, and whether it is the active
copy. -/
def regAt (rs : List Reg) (a : Nat) : Option (Reg × Nat × Nat × Bool) :=
  rs.findSome? (fun r => (r.row.locate a).map (fun p => (r, p)))

/-- The unit's own rule for a write of a register; none where the write is plain. -/
def unitWrite (u : Unt) (w : Who) (r : Reg) (i j : Nat) (v : Word) (s : State) : Option State :=
  match u with
  | .sup => supWrite w r i v s
  | .clk | .tim => timWrite w r i v s
  | .fab => fabWrite w r i v s
  | .sch => schWrite w r i v s
  | .mem | .arb => memWriteReg w r i v s
  | .she => sheWrite w r i j v s
  | .eth => ethWrite w r i j v s
  | .stn => stnWrite w r i v s
  | .can => canWrite w r i j v s
  | .dio => dioWrite w r i v s
  | .alp => alpWrite w r i v s
  | .sto =>
    match r with
    | .stoLCtl => some (storageDone (linkEnable w (BitVec.ofNat 2 i).toFin v s))
    | _ => stoWrite w r i j v s
  | .brb => brbWrite w r i v s
  | .sec => secWrite w r v s

/-- An access to a register that reaches it: a DIO register answers FAULT while the field link is lost (13 R305). -/
def linkDown (u : Unt) (s : State) : Bool := u = .dio && s.dio.lostL

/-- The write of a register: read-only copies and fields ignore it, only the foundry partition sets the registers that
have no rule of their own (00 R8, R9). -/
def regWrite (u : Unt) (w : Who) (r : Reg) (i j : Nat) (act : Bool) (v : Word) (s : State) : State :=
  if linkDown u s then s.reply .fault
  else if act then asFnd w s (State.reply .ok)
  else
    match unitWrite u w r i j v s with
    | some t => t
    | none => asFnd w s fun s => (s.put r v i j).reply .ok

/-- The group register of the outputs: supply good, GRP of a member, and the current, which no rule gives a value (13
R328; DESIGN CHOICE log 52). -/
def gstatRead (g : Nat) (s : State) : State :=
  let grp := (List.range 8).any (fun k => (s.dout (8 * g + k)).grp)
  s.spend.answer .ok (wd (b2n (s.dio.vfld.getLsbD g) * 2 ^ 31 + b2n grp * 2 ^ 30 +
    (Config.groupCurrent s.free).toNat))

/-- The unit's own rule for a read of a register; none where the read is plain. -/
def unitRead (u : Unt) (w : Who) (r : Reg) (i j : Nat) (act : Bool) (s : State) : Option State :=
  match u with
  | .sup => supRead w r s
  | .clk | .tim => timRead w r i s
  | .fab => fabRead r i s
  | .sch => schRead w r i act s
  | .mem | .arb => memReadReg w r i act s
  | .she =>
    match r with
    | .sheSubmitAddr => some (asReader w r s fun _ s => s.answer .ok 0)
    | _ => sheRead w r s
  | .eth => ethRead w r i act s
  | .stn => stnRead r i s
  | .can => canRead w r i j act s
  | .dio =>
    match r with
    | .dioTspop0 => some (fndRead w r s (tspopRead (whoBank w)))
    | .dioTspop => some (asReader w r s fun _ s => s.answer .ok (s.rdB (whoBank w) r i))
    | .dioGstat => some (gstatRead i s)
    | _ => (dioRead r i s).map (fun v => s.answer .ok v)
  | .alp => (alpRead r i s).map (fun v => s.answer .ok v)
  | .sto =>
    match r with
    | .stoPost => some (asReader w r s postNow)
    | .stoRd => some (asReader w r s readJobNow)
    | .stoPostAddr | .stoRdAddr => some (asReader w r s fun _ s => s.answer .ok 0)
    | .stoPostseq => some (asReader w r s fun n s => s.answer .ok (s.rdB n r i))
    | _ => (stoRead r i j s).map (fun v => s.answer .ok v)
  | .brb => brbRead w r i s
  | .sec => secRead r i s

/-- The read of a register: a shadowed register gives its shadow, its active copy the value in force (00 R9). -/
def regRead (u : Unt) (w : Who) (r : Reg) (i j : Nat) (act : Bool) (s : State) : State :=
  if linkDown u s then s.reply .fault
  else
    match unitRead u w r i j act s with
    | some t => t
    | none => asReader w r s fun _ s => s.answer .ok (if act then s.rdA r i j else s.rd r i j)

/-- The debug port's level admits an access at an address: a write, or a read (18 R418). -/
def levelAdmits (w : Who) (a : Nat) (write : Bool) (s : State) : Bool :=
  match w with
  | .part _ => true
  | .dbg => if write then debugWrites s else debugReads s a

/-- The number of a requester at the rack bridge: the debug port's, else the one given (08 R198). -/
def rackReq (w : Who) (req : Nat) : Nat :=
  match w with
  | .part _ => req
  | .dbg => 0x89

/-- The address of an access outside every span: FAULT, no effect, and a record (00 R5). -/
def outsideSpan (w : Who) (a : Nat) (s : State) : State :=
  (record .outsideSpan (whoPart w) [lo32 a, hi32 a] s).reply .fault

/-- An offset that the unit's map does not assign: DENIED, a read of 0, and a record (00 R5). -/
def unassigned (w : Who) (a : Nat) (s : State) : State :=
  (record .unassigned (whoPart w) [lo32 a, hi32 a] s).reply .denied

/-- A write of the physical space (00 R5, R6, 08 R195). -/
def busWrite (w : Who) (a : Nat) (sz : Size) (v : Word) (s : State) : State :=
  if !levelAdmits w a true s then refuseDebug s
  else
    match spanOf a with
    | some (_, _, u, rs) =>
      match regAt rs (a / 4 * 4) with
      | none => unassigned w a s
      | some (r, i, j, act) =>
        if sz ≠ .b4 || a % 4 ≠ 0 then s.reply .size else regWrite u w r i j act v s
    | none =>
      if isRack a then rackWrite (BitVec.ofNat 10 (whoPart w)) (a % 2 ^ 24) sz v s
      else if isMem a sz.bytes then
        if sz = .b8 then s.reply .size
        else
          let x := memWrite a (leBytes sz.bytes v.toNat) s
          x.2.reply x.1
      else outsideSpan w a s

/-- A read of the physical space (00 R5, R6, 08 R195). -/
def busRead (w : Who) (req : Nat) (a : Nat) (sz : Size) (s : State) : State :=
  if !levelAdmits w a false s then refuseDebug s
  else
    match spanOf a with
    | some (_, _, u, rs) =>
      match regAt rs (a / 4 * 4) with
      | none => unassigned w a s
      | some (r, i, j, act) =>
        if sz ≠ .b4 || a % 4 ≠ 0 then s.reply .size else regRead u w r i j act s
    | none =>
      if isRack a then rackRead (rackReq w req) (BitVec.ofNat 10 (whoPart w)) (a % 2 ^ 24) sz s
      else if isMem a sz.bytes then
        if sz = .b8 then s.reply .size
        else
          let x := memRead a sz.bytes s
          if x.1 = .ok then x.2.2.answer .ok (wd (leNat x.2.1)) else x.2.2.reply x.1
      else outsideSpan w a s

/-- The registers of the pewter domain (02 R38, 03 R61). -/
def pewterRegs : List Reg := [.supWakeen, .supWakesrc, .supRstcause, .clkXadly, .clkXbdly]

/-- A posted write reaches the pewter domain: its register takes it; PFLAT is the pewter bit of PWRSTAT (02 R39, 03
R61). -/
def pewterArrive (a : Nat) (v : Word) (s : State) : State :=
  if a = Reg.supPwrstat.row.base then
    if v.getLsbD 9 then s.setPwr { s.pwr with pflat := false } else s
  else
    match pewterRegs.find? (fun r => r.row.base = a) with
    | some r => s.put r v
    | none => s

/-- PEWTER_WRITE_ARRIVAL (03 R61): the oldest posted write arrives; PEWPEND is 0 once none is left. -/
def execPewterWriteArrival (s : State) : Host.Outcome State Fault Refusal :=
  .next (match s.clk.pewQ with
    | [] => s
    | (a, v) :: q => pewterArrive a v (s.setClk { s.clk with pewQ := q }))

end Sys2Proof.Machine
end

