-- ==== Sys2Proof/Machine/Operands.lean ====
section
/-!
DEFINITION. How an instruction runs on an executor: its registers, the fetch, the exceptions of 05 R121 to R123, and
the loads and stores of the virtual space of 05 R110.
-/

namespace Sys2Proof.Machine

/-! ### Registers of an executor (05 R107) -/

/-- Register W[r]. -/
def Engine.getW (g : Engine) (r : WReg) : Word := Tab.get 0 g.w r.toNat
/-- Sets register W[r]. -/
def Engine.setW (r : WReg) (v : Word) (g : Engine) : Engine := { g with w := Tab.set 0 g.w r.toNat v }
/-- Register F[r]. -/
def Engine.getF (g : Engine) (r : FReg) : Word := Tab.get 0 g.f r.toNat
/-- Sets register F[r]. -/
def Engine.setF (r : FReg) (v : Word) (g : Engine) : Engine := { g with f := Tab.set 0 g.f r.toNat v }
/-- The instruction is complete: PC names the next one. -/
def Engine.next (g : Engine) : Engine := { g with pc := g.pc + 4 }
/-- An exception handler runs (05 R108). -/
def Engine.inExc (g : Engine) : Bool := g.sw.getLsbD 14
/-- The effective address of a load or store (06 R145). -/
def Engine.ea (g : Engine) (a : WReg) (imm : BitVec 16) : Word := g.getW a + sextW imm

/-- The partition whose job runs on executor e, 0 where none does. -/
def State.jobOf (s : State) (e : Nat) : Nat :=
  match (s.eng e).job with
  | some n => n.toNat
  | none => 0

/-! ### Which executor runs (04 R97, 03 R59, 02 R35) -/

/-- Executor e can execute: it exists, runs a job, and neither the engines nor the device are held. -/
def canExec (s : State) (e : Nat) : Bool :=
  (s.eng e).job.isSome && execRuns s e && !s.clk.engHeld && s.pwr.state = .run && !s.pwr.fatal

/-- Executor e begins an instruction: it is not halted for debug and re-issues no access (04 R97, 06 R154). -/
def mayIssue (s : State) (e : Nat) : Bool := canExec s e && !execHalted s e && (s.eng e).retry.isNone

/-! ### Private lines (05 R133, R134, R136, 04 R76) -/

/-- Bytes from a with the executor's own dirty bytes laid over them. -/
def overlay (d : List Host.Cell) : Nat → List Byte → List Byte
  | _, [] => []
  | a, b :: bs => Tab.get b d a :: overlay d (a + 1) bs

/-- Dirty bytes with bytes from a written over them. -/
def dirtyPut : Nat → List Byte → List Host.Cell → List Host.Cell
  | _, [], d => d
  | a, b :: bs, d => dirtyPut (a + 1) bs (Tab.insert (Tab.erase d a) a b)

/-- Dirty bytes without the n bytes from a. -/
def dirtyDrop (a n : Nat) (d : List Host.Cell) : List Host.Cell := d.filter (fun c => !(a ≤ c.1 && c.1 < a + n))

/-- Executor e reads n bytes of memory. Where another unit has overwritten a private line, the caches may still hold it as it
was (05 R134, 08 R205; DESIGN CHOICE log 161). -/
def memLoad (e a n : Nat) (s : State) : Status × List Byte × State :=
  let x := memRead a n s
  let g := s.eng e
  let old := g.stale.filter (fun c => decide (a ≤ c.1) && decide (c.1 < a + n))
  if old.isEmpty then (x.1, overlay g.dirty a x.2.1, x.2.2)
  else if Config.stillCached s.free then (x.1, overlay g.dirty a (overlay old a x.2.1), x.2.2.spend)
  else
    let t := x.2.2.spend
    (x.1, overlay g.dirty a x.2.1, t.setEng e { t.eng e with stale := dirtyDrop a n g.stale })

/-- Executor e writes bytes of a private line: they stay in its cache until CYEND. The fill of a poisoned line fails. -/
def privStore (e a : Nat) (bs : List Byte) (s : State) : Status × State :=
  let s1 := settle (linesOf a bs.length) s
  if s1.poisoned a bs.length then (.fault, s1)
  else (.ok, s1.setEng e { s1.eng e with dirty := dirtyPut a bs (s1.eng e).dirty })

/-- Executor e writes bytes of shared memory. -/
def sharedStore (e a : Nat) (bs : List Byte) (s : State) : Status × State :=
  let x := memWrite a bs s
  if x.1 = .ok then
    (.ok, x.2.setEng e { x.2.eng e with dirty := dirtyDrop a bs.length (x.2.eng e).dirty })
  else x

/-! ### The windows (05 R110, R128, R132) -/

/-- The bytes of the job information block (05 R128). -/
def Jib.bytes (j : Jib) : List Byte :=
  leBytes 8 j.rel ++ leBytes 8 j.ddl ++ leBytes 8 j.count ++ leBytes 4 j.info.toNat ++ leBytes 4 j.budget.toNat ++
    leBytes 4 j.last.toNat ++ List.replicate 220 0

/-- The 32 bytes of a reply slot; an empty slot reads 0 (05 R132). -/
def replyBytes (r : Option Reply) : List Byte :=
  match r with
  | none => List.replicate 32 0
  | some x => leBytes 4 x.seq.toNat ++ [x.st, 0, 0, 0] ++ wordBytes (padTo 0 6 x.words)

/-- The 128 bytes of the four reply slots. -/
def replySlots (t : Tab Reply) : List Byte :=
  (List.range 4).flatMap (fun i => replyBytes ((t.find? (fun x => x.1 = i)).map (·.2)))

/-- The physical address of an access of n bytes within an image window of partition p, if it lies within the image:
II 0, OI 1, MK 2. -/
def imageAt (s : State) (p space off n : Nat) : Option Nat :=
  match space with
  | 0 => if off + n ≤ s.iiSize p then some (s.iiAddr p + off) else none
  | 1 => if off + n ≤ s.oiSize p then some (s.oiAddr p + off) else none
  | 2 => if off + n ≤ s.mkSize p then some (s.mkAddr p + off) else none
  | _ => none

/-- A read of a window below 4_0000h. -/
def windowLoad (e p va n : Nat) (s : State) : Status × Word × State :=
  if va < 0x30000 then
    match imageAt s p (va / 65536) (va % 65536) n with
    | some a =>
      let x := memLoad e a n s
      (x.1, wd (leNat x.2.1), x.2.2)
    | none => (.denied, 0, s)
  else if va + n ≤ 0x30100 then (.ok, wd (leNat (slice (s.part p).jib.bytes (va - 0x30000) n)), s)
  else if 0x30100 ≤ va && va + n ≤ 0x30180 then
    (.ok, wd (leNat (slice (replySlots (s.part p).shown) (va - 0x30100) n)), s)
  else (.denied, 0, s)

/-- A load of the virtual space: status, data, state (05 R110, R133, 08 R194). -/
def vLoad (e : Nat) (sz : Size) (va : Nat) (s : State) : Status × Word × State :=
  let p := s.jobOf e
  if va < 0x40000 then windowLoad e p va sz.bytes s
  else
    match s.xlate p .load va with
    | none => (.denied, 0, s)
    | some (pa, _) =>
      if isMem pa sz.bytes then
        let x := memLoad e pa sz.bytes s
        (x.1, wd (leNat x.2.1), x.2.2)
      else
        let t := busRead (.part (BitVec.ofNat 10 p)) e pa sz s
        (t.rsp.st, t.rsp.val, t)

/-- A store to the virtual space (05 R110, R133, 08 R194). -/
def vStore (e : Nat) (sz : Size) (va : Nat) (v : Word) (s : State) : Status × State :=
  let p := s.jobOf e
  let bs := leBytes sz.bytes v.toNat
  if va < 0x40000 then
    match (if 0x10000 ≤ va && va < 0x30000 then imageAt s p (va / 65536) (va % 65536) sz.bytes else none) with
    | some a => privStore e a bs s
    | none => (.denied, s)
  else
    match s.xlate p .store va with
    | none => (.denied, s)
    | some (pa, sh) =>
      if isMem pa sz.bytes then
        if sh then sharedStore e pa bs s else privStore e pa bs s
      else
        let t := busWrite (.part (BitVec.ofNat 10 p)) pa sz v s
        (t.rsp.st, t)

/-! ### Exceptions (05 R121 to R123) -/

/-- The nesting stack as a frame holds it: entry k, entry 0 the bottom, in bits 4k+3:4k (04 R87, 05 R122). -/
def nestBits (l : List (BitVec 4)) : Nat := l.foldl (fun a x => a * 16 + x.toNat) 0

/-- The nesting stack, top first, of a depth and its bits. -/
def nestOf : Nat → Nat → List (BitVec 4)
  | 0, _ => []
  | d + 1, b => BitVec.ofNat 4 (b / 16 ^ d) :: nestOf d b

/-- The 32 bytes of an exception frame (05 R122). -/
def frameBytes (g : Engine) (x : Nat) (st : Status) (addr fpc : Word) : List Byte :=
  wordBytes [fpc, g.sw &&& ~~~ bit 14, wd (g.nest.length * 65536 + b2n g.la * 256 + g.fl.toNat),
    wd (x * 2 ^ 24 + st.code), addr, 0] ++ leBytes 8 (nestBits g.nest)

/-- The physical address of an exception frame at a virtual address: 32-byte aligned, not 0, wholly in a valid region with
W = 1 and SH = 0 (05 R122). -/
def frameAt (s : State) (p : Nat) (va : Nat) : Option Nat :=
  if va = 0 || va % 32 ≠ 0 then none
  else
    match s.findRegion p va with
    | none => none
    | some g => if g.attr.getLsbD 3 && !g.shared then some (g.pbase + (va - g.vbase)) else none

/-- A word of the exception vector table; none where the read is refused or fails (05 R122). -/
def vecWord (e x : Nat) (s : State) : Option Word × State :=
  let va := ((s.rdA .schPdVecS (s.jobOf e)).toNat + 4 * x) % 2 ^ 32
  if va < 0x40000 then (none, s)
  else
    let r := vLoad e .b4 va s
    (if r.1 = .ok then some r.2.1 else none, r.2.2)

/-- Exception x on executor e, with a status, the address concerned and the frame PC: its handler starts, or the job
ends (05 R122, R123). A vector entry that is no instruction address is a misaligned jump target inside the handler. -/
def raise (e x : Nat) (st : Status) (addr fpc : Word) (s : State) : State :=
  let g := s.eng e
  if g.inExc || fld (s.rdA .schPdVecS (s.jobOf e)) 0 2 ≠ 0 then exceptionEnd e x fpc s
  else
    let r1 := vecWord e x s
    let r2 := vecWord e 15 r1.2
    match r1.1, r2.1 with
    | some h, some f =>
      match (if h = 0 then none else frameAt r2.2 (s.jobOf e) f.toNat) with
      | none => exceptionEnd e x fpc r2.2
      | some a =>
        let w := privStore e a (frameBytes g x st addr fpc) r2.2
        if w.1 ≠ .ok then exceptionEnd e x fpc w.2
        else
          let s3 := w.2.setEng e { w.2.eng e with sw := g.sw ||| bit 14, pc := h, frame := some (a, h) }
          if fld h 0 2 ≠ 0 then exceptionEnd e 2 h s3 else s3
    | _, _ => exceptionEnd e x fpc r2.2

/-- An exception that the current instruction raises before it has any effect (05 R121). -/
def raiseAt (e x : Nat) (st : Status) (addr : Word) (s : State) : State := raise e x st addr (s.eng e).pc s

/-- ACCESS with a status (05 R121). -/
def refuseAccess (e : Nat) (st : Status) (va : Word) (s : State) : State := raiseAt e 4 st va s

/-! ### The fetch (05 R121, 06 R155, 08 R194) -/

/-- The physical address of the instruction at executor e's PC, if it may be fetched. -/
def fetchAt (s : State) (e : Nat) : Option Nat :=
  match s.xlate (s.jobOf e) .fetch (s.eng e).pc.toNat with
  | none => none
  | some (pa, _) => if isMem pa 4 then some pa else none

/-- Executes an instruction whose word is at executor e's PC, unless its fetch fails. -/
def fetched (e : Nat) (f : State → State) (s : State) : State :=
  match fetchAt s e with
  | none => raiseAt e 3 .denied (s.eng e).pc s
  | some pa =>
    let r := memRead pa 4 s
    if r.1 = .ok then f r.2.2 else raiseAt e 3 .fault (s.eng e).pc r.2.2

/-- An instruction on executor e: nothing where the executor does not execute. An armed SELF injection applies as it
executes (04 R98). -/
def onExec (e : Nat) (f : State → State) (s : State) : State :=
  if !mayIssue s e then s
  else
    let s1 := selfInjection e s
    if !mayIssue s1 e then s1 else fetched e f s1

/-- Completes an instruction that changes only the executor's own state. -/
def complete (e : Nat) (f : Engine → Engine) (s : State) : State := s.setEng e (f (s.eng e)).next

/-- An instruction that changes only the executor's own state and raises nothing. -/
def plainOp (e : Nat) (f : Engine → Engine) (s : State) : State := onExec e (complete e f) s

/-! ### Loads and stores (06 R145, R154) -/

/-- The value that a load writes: sign-extended or zero-extended to 32 bits. -/
def loadValue (r : Retry) (v : Word) : Word :=
  if r.signed then
    match r.sz with
    | .b1 => (v.setWidth 8).signExtend 32
    | .b2 => (v.setWidth 16).signExtend 32
    | _ => v
  else v

/-- Writes a load's destination. -/
def loadDest (r : Retry) (v : Word) (g : Engine) : Engine :=
  if r.float then g.setF (r.reg.setWidth 4) (loadValue r v) else g.setW r.reg (loadValue r v)

/-- The value that a store stores. -/
def storeValue (r : Retry) (g : Engine) : Word := if r.float then g.getF (r.reg.setWidth 4) else g.getW r.reg

/-- Ends an access with a status: RETRY is re-issued, anything else but OK raises ACCESS. -/
def accessEnd (e : Nat) (r : Retry) (st : Status) (k : State → State) (s : State) : State :=
  match st with
  | .ok => k s
  | .retry => s.setEng e { s.eng e with retry := some r }
  | _ => refuseAccess e st r.ea s

/-- Executor e's address space gives an access for itself: what it has cached may change, its job must stand. -/
def sameJob (e : Nat) (old : Engine) (k : State → State) (s : State) : State :=
  if { s.eng e with dirty := old.dirty, stale := old.stale } = old then k s else s

/-- A load or store of executor e (05 R110, R111, R121, 06 R145, R154). -/
def doAccess (e : Nat) (r : Retry) (s : State) : State :=
  let g := s.eng e
  if r.ea.toNat % r.sz.bytes ≠ 0 then raiseAt e 2 .ok r.ea s
  else if r.store then
    let x := vStore e r.sz r.ea.toNat (storeValue r g) s
    sameJob e g (accessEnd e r x.1 (complete e id)) x.2
  else
    let x := vLoad e r.sz r.ea.toNat s
    sameJob e g (accessEnd e r x.1 (complete e (loadDest r x.2.1))) x.2.2

end Sys2Proof.Machine
end

