-- ==== Sys2Proof/Machine/GleigAlu.lean ====
section
/-!
DEFINITION. The word, immediate, compare and float instructions (06 R142 to R147).
-/

namespace Sys2Proof.Machine

/-! ### Word operations (06 R142 to R144, 05 R115 to R118) -/

/-- Completes a word operation: the result in W[d], FL, then the trap it may give with the next instruction as frame PC. -/
def aluEnd (e : Nat) (d : WReg) (r : Alu) (s : State) : State :=
  let g := s.eng e
  let t := s.setEng e { g.setW d r.val with fl := r.flags g.fl, pc := g.pc + 4 }
  match r.trap g.sw with
  | none => t
  | some x => raise e x .ok 0 (g.pc + 4) t

/-- An operation on one or two word registers. -/
def aluOp (e : Nat) (d a b : WReg) (f : Word → Word → Alu) (s : State) : State :=
  onExec e (fun s => aluEnd e d (f ((s.eng e).getW a) ((s.eng e).getW b)) s) s

/-- An operation on a word register and an immediate. -/
def immOp (e : Nat) (d a : WReg) (f : Word → Alu) (s : State) : State :=
  onExec e (fun s => aluEnd e d (f ((s.eng e).getW a)) s) s

/-- A division: the quotient in W[d], the remainder in W[c], which wins where they are one register (06 R143). -/
def divOp (e : Nat) (d a b c : WReg) (f : Word → Word → Alu) (h : Word → Word → Word) (s : State) : State :=
  onExec e (fun s =>
    let g := s.eng e
    let r := f (g.getW a) (g.getW b)
    let t := s.setEng e { (g.setW d r.val).setW c (h (g.getW a) (g.getW b)) with fl := r.flags g.fl, pc := g.pc + 4 }
    match r.trap g.sw with
    | none => t
    | some x => raise e x .ok 0 (g.pc + 4) t) s

/-- ADD (06 R142). -/
def execAdd (e : Exe) (d a b : WReg) (s : State) : Host.Outcome State Fault Refusal :=
  .next (aluOp e.val d a b aluAdd s)

/-- SUB (06 R142). -/
def execSub (e : Exe) (d a b : WReg) (s : State) : Host.Outcome State Fault Refusal :=
  .next (aluOp e.val d a b aluSub s)

/-- ADDS (06 R142). -/
def execAdds (e : Exe) (d a b : WReg) (s : State) : Host.Outcome State Fault Refusal :=
  .next (aluOp e.val d a b aluAdds s)

/-- SUBS (06 R142). -/
def execSubs (e : Exe) (d a b : WReg) (s : State) : Host.Outcome State Fault Refusal :=
  .next (aluOp e.val d a b aluSubs s)

/-- MUL (06 R142). -/
def execMul (e : Exe) (d a b : WReg) (s : State) : Host.Outcome State Fault Refusal :=
  .next (aluOp e.val d a b aluMul s)

/-- MULS (06 R142). -/
def execMuls (e : Exe) (d a b : WReg) (s : State) : Host.Outcome State Fault Refusal :=
  .next (aluOp e.val d a b aluMuls s)

/-- NEG (06 R142). -/
def execNeg (e : Exe) (d a : WReg) (s : State) : Host.Outcome State Fault Refusal := .next (immOp e.val d a aluNeg s)

/-- DIV (06 R142, R143, 05 R116). -/
def execDiv (e : Exe) (d a b c : WReg) (s : State) : Host.Outcome State Fault Refusal :=
  .next (divOp e.val d a b c aluDiv remDiv s)

/-- DIVU (06 R142, R143, 05 R116). -/
def execDivu (e : Exe) (d a b c : WReg) (s : State) : Host.Outcome State Fault Refusal :=
  .next (divOp e.val d a b c aluDivu remDivu s)

/-- AND (06 R142). -/
def execAnd (e : Exe) (d a b : WReg) (s : State) : Host.Outcome State Fault Refusal :=
  .next (aluOp e.val d a b (fun x y => aluLogic (x &&& y)) s)

/-- OR (06 R142). -/
def execOr (e : Exe) (d a b : WReg) (s : State) : Host.Outcome State Fault Refusal :=
  .next (aluOp e.val d a b (fun x y => aluLogic (x ||| y)) s)

/-- XOR (06 R142). -/
def execXor (e : Exe) (d a b : WReg) (s : State) : Host.Outcome State Fault Refusal :=
  .next (aluOp e.val d a b (fun x y => aluLogic (x ^^^ y)) s)

/-- NOT of words (06 R142). -/
def execNot (e : Exe) (d a : WReg) (s : State) : Host.Outcome State Fault Refusal :=
  .next (immOp e.val d a (fun x => aluLogic (~~~ x)) s)

/-- SHL (06 R142, 05 R117). -/
def execShl (e : Exe) (d a b : WReg) (s : State) : Host.Outcome State Fault Refusal :=
  .next (aluOp e.val d a b (fun x y => aluShl x (shiftCount y)) s)

/-- SHR (06 R142, 05 R117). -/
def execShr (e : Exe) (d a b : WReg) (s : State) : Host.Outcome State Fault Refusal :=
  .next (aluOp e.val d a b (fun x y => aluShr x (shiftCount y)) s)

/-- SAR (06 R142, 05 R117). -/
def execSar (e : Exe) (d a b : WReg) (s : State) : Host.Outcome State Fault Refusal :=
  .next (aluOp e.val d a b (fun x y => aluSar x (shiftCount y)) s)

/-- ROL (06 R142, 05 R117). -/
def execRol (e : Exe) (d a b : WReg) (s : State) : Host.Outcome State Fault Refusal :=
  .next (aluOp e.val d a b (fun x y => aluRol x (shiftCount y)) s)

/-- ROR (06 R142, 05 R117). -/
def execRor (e : Exe) (d a b : WReg) (s : State) : Host.Outcome State Fault Refusal :=
  .next (aluOp e.val d a b (fun x y => aluRor x (shiftCount y)) s)

/-- MOV (06 R142). -/
def execMov (e : Exe) (d a : WReg) (s : State) : Host.Outcome State Fault Refusal :=
  .next (plainOp e.val (fun g => g.setW d (g.getW a)) s)

/-- ADDI (06 R144). -/
def execAddi (e : Exe) (d a : WReg) (imm : BitVec 16) (s : State) : Host.Outcome State Fault Refusal :=
  .next (immOp e.val d a (fun x => aluAdd x (sextW imm)) s)

/-- ANDI (06 R144). -/
def execAndi (e : Exe) (d a : WReg) (imm : BitVec 16) (s : State) : Host.Outcome State Fault Refusal :=
  .next (immOp e.val d a (fun x => aluLogic (x &&& zextW imm)) s)

/-- ORI (06 R144). -/
def execOri (e : Exe) (d a : WReg) (imm : BitVec 16) (s : State) : Host.Outcome State Fault Refusal :=
  .next (immOp e.val d a (fun x => aluLogic (x ||| zextW imm)) s)

/-- XORI (06 R144). -/
def execXori (e : Exe) (d a : WReg) (imm : BitVec 16) (s : State) : Host.Outcome State Fault Refusal :=
  .next (immOp e.val d a (fun x => aluLogic (x ^^^ zextW imm)) s)

/-- MOVI (06 R144). -/
def execMovi (e : Exe) (d : WReg) (imm : BitVec 16) (s : State) : Host.Outcome State Fault Refusal :=
  .next (plainOp e.val (fun g => g.setW d (sextW imm)) s)

/-- MOVHI (06 R144). -/
def execMovhi (e : Exe) (d : WReg) (imm : BitVec 16) (s : State) : Host.Outcome State Fault Refusal :=
  .next (plainOp e.val (fun g => g.setW d (imm ++ 0#16)) s)

/-- An encoding that is illegal (06 R138): ILLEGAL with no other effect (05 R121). -/
def illegalOp (e : Nat) (s : State) : State := onExec e (raiseAt e 1 .ok 0) s

/-- SHI (06 R144); kinds 101b to 111b are illegal. -/
def execShi (e : Exe) (d a : WReg) (kind : BitVec 3) (cnt : BitVec 8) (s : State) : Host.Outcome State Fault Refusal :=
  .next (if kind.toNat ≤ 4 then immOp e.val d a (fun x => aluShi kind x cnt.toNat) s else illegalOp e.val s)

/-! ### Compares (06 R146, 05 R120) -/

/-- A compare of two word registers. -/
def cmpOp (e : Nat) (a b : WReg) (f : Word → Word → Bool) (s : State) : State :=
  plainOp e (fun g => { g with la := f (g.getW a) (g.getW b) }) s

/-- A compare of two float registers. -/
def fcmpOp (e : Nat) (a b : FReg) (f : Word → Word → Bool) (s : State) : State :=
  plainOp e (fun g => { g with la := f (g.getF a) (g.getF b) }) s

/-- CMP.EQ (06 R146). -/
def execCmpEq (e : Exe) (a b : WReg) (s : State) : Host.Outcome State Fault Refusal :=
  .next (cmpOp e.val a b (fun x y => x == y) s)

/-- CMP.NE (06 R146). -/
def execCmpNe (e : Exe) (a b : WReg) (s : State) : Host.Outcome State Fault Refusal :=
  .next (cmpOp e.val a b (fun x y => x != y) s)

/-- CMP.LT (06 R146). -/
def execCmpLt (e : Exe) (a b : WReg) (s : State) : Host.Outcome State Fault Refusal :=
  .next (cmpOp e.val a b (fun x y => x.slt y) s)

/-- CMP.LE (06 R146). -/
def execCmpLe (e : Exe) (a b : WReg) (s : State) : Host.Outcome State Fault Refusal :=
  .next (cmpOp e.val a b (fun x y => x.sle y) s)

/-- CMP.GT (06 R146). -/
def execCmpGt (e : Exe) (a b : WReg) (s : State) : Host.Outcome State Fault Refusal :=
  .next (cmpOp e.val a b (fun x y => y.slt x) s)

/-- CMP.GE (06 R146). -/
def execCmpGe (e : Exe) (a b : WReg) (s : State) : Host.Outcome State Fault Refusal :=
  .next (cmpOp e.val a b (fun x y => y.sle x) s)

/-- CMP.LTU (06 R146). -/
def execCmpLtu (e : Exe) (a b : WReg) (s : State) : Host.Outcome State Fault Refusal :=
  .next (cmpOp e.val a b (fun x y => x.ult y) s)

/-- CMP.LEU (06 R146). -/
def execCmpLeu (e : Exe) (a b : WReg) (s : State) : Host.Outcome State Fault Refusal :=
  .next (cmpOp e.val a b (fun x y => x.ule y) s)

/-- CMP.GTU (06 R146). -/
def execCmpGtu (e : Exe) (a b : WReg) (s : State) : Host.Outcome State Fault Refusal :=
  .next (cmpOp e.val a b (fun x y => y.ult x) s)

/-- CMP.GEU (06 R146). -/
def execCmpGeu (e : Exe) (a b : WReg) (s : State) : Host.Outcome State Fault Refusal :=
  .next (cmpOp e.val a b (fun x y => y.ule x) s)

/-- FCMP.EQ (06 R146, 05 R120). -/
def execFcmpEq (e : Exe) (a b : FReg) (s : State) : Host.Outcome State Fault Refusal :=
  .next (fcmpOp e.val a b (cmpF (fun x y => x = y) false) s)

/-- FCMP.NE (06 R146, 05 R120). -/
def execFcmpNe (e : Exe) (a b : FReg) (s : State) : Host.Outcome State Fault Refusal :=
  .next (fcmpOp e.val a b (cmpF (fun x y => x ≠ y) true) s)

/-- FCMP.LT (06 R146, 05 R120). -/
def execFcmpLt (e : Exe) (a b : FReg) (s : State) : Host.Outcome State Fault Refusal :=
  .next (fcmpOp e.val a b (cmpF (fun x y => x < y) false) s)

/-- FCMP.LE (06 R146, 05 R120). -/
def execFcmpLe (e : Exe) (a b : FReg) (s : State) : Host.Outcome State Fault Refusal :=
  .next (fcmpOp e.val a b (cmpF (fun x y => x ≤ y) false) s)

/-- FCMP.GT (06 R146, 05 R120). -/
def execFcmpGt (e : Exe) (a b : FReg) (s : State) : Host.Outcome State Fault Refusal :=
  .next (fcmpOp e.val a b (cmpF (fun x y => x > y) false) s)

/-- FCMP.GE (06 R146, 05 R120). -/
def execFcmpGe (e : Exe) (a b : FReg) (s : State) : Host.Outcome State Fault Refusal :=
  .next (fcmpOp e.val a b (cmpF (fun x y => x ≥ y) false) s)

/-! ### Float operations (06 R147, 05 R119, R120) -/

/-- The status word with the sticky flags of the conditions raised (05 R108, R119). -/
def stick (f : FFlags) (sw : Word) : Word :=
  sw ||| wd (b2n f.inv * 256 + b2n f.dz * 512 + b2n f.ovf * 1024 + b2n f.unf * 2048 + b2n f.inx * 4096)

/-- The exception of the conditions raised under the masks of a status word: FINV 8, FDZ 9, FOVF 10 (05 R119). -/
def floatTrap (f : FFlags) (sw : Word) : Option Nat :=
  if f.inv && sw.getLsbD 5 then some 8
  else if f.dz && sw.getLsbD 6 then some 9
  else if f.ovf && sw.getLsbD 7 then some 10
  else none

/-- Completes a float operation: its destination, the sticky flags, then the trap it may give. -/
def floatEnd (e : Nat) (put : Word → Engine → Engine) (r : FRes) (s : State) : State :=
  let g := s.eng e
  let t := s.setEng e { put r.1 g with sw := stick r.2 g.sw, pc := g.pc + 4 }
  match floatTrap r.2 g.sw with
  | none => t
  | some x => raise e x .ok 0 (g.pc + 4) t

/-- An operation on two float registers. -/
def floatOp (e : Nat) (d a b : FReg) (f : Word → Word → FRes) (s : State) : State :=
  onExec e (fun s => floatEnd e (fun v g => g.setF d v) (f ((s.eng e).getF a) ((s.eng e).getF b)) s) s

/-- An operation on one float register. -/
def floatOp1 (e : Nat) (d a : FReg) (f : Word → FRes) (s : State) : State :=
  onExec e (fun s => floatEnd e (fun v g => g.setF d v) (f ((s.eng e).getF a)) s) s

/-- ADDF (06 R147). -/
def execAddf (e : Exe) (d a b : FReg) (s : State) : Host.Outcome State Fault Refusal :=
  .next (floatOp e.val d a b addF s)

/-- SUBF (06 R147). -/
def execSubf (e : Exe) (d a b : FReg) (s : State) : Host.Outcome State Fault Refusal :=
  .next (floatOp e.val d a b subF s)

/-- MULF (06 R147). -/
def execMulf (e : Exe) (d a b : FReg) (s : State) : Host.Outcome State Fault Refusal :=
  .next (floatOp e.val d a b mulF s)

/-- DIVF (06 R147). -/
def execDivf (e : Exe) (d a b : FReg) (s : State) : Host.Outcome State Fault Refusal :=
  .next (floatOp e.val d a b divF s)

/-- SQRTF (06 R147). -/
def execSqrtf (e : Exe) (d a : FReg) (s : State) : Host.Outcome State Fault Refusal :=
  .next (floatOp1 e.val d a sqrtF s)

/-- ABSF (06 R147). -/
def execAbsf (e : Exe) (d a : FReg) (s : State) : Host.Outcome State Fault Refusal := .next (floatOp1 e.val d a absF s)

/-- NEGF (06 R147). -/
def execNegf (e : Exe) (d a : FReg) (s : State) : Host.Outcome State Fault Refusal := .next (floatOp1 e.val d a negF s)

/-- MOVF (06 R147). -/
def execMovf (e : Exe) (d a : FReg) (s : State) : Host.Outcome State Fault Refusal :=
  .next (plainOp e.val (fun g => g.setF d (g.getF a)) s)

/-- CVTFW (06 R147, 05 R120). -/
def execCvtfw (e : Exe) (d : WReg) (a : FReg) (s : State) : Host.Outcome State Fault Refusal :=
  .next (onExec e.val (fun s => floatEnd e.val (fun v g => g.setW d v) (cvtFW ((s.eng e.val).getF a)) s) s)

/-- CVTWF (06 R147, 05 R120). -/
def execCvtwf (e : Exe) (d : FReg) (a : WReg) (s : State) : Host.Outcome State Fault Refusal :=
  .next (onExec e.val (fun s => floatEnd e.val (fun v g => g.setF d v) (cvtWF ((s.eng e.val).getW a)) s) s)

/-- MOVFW (06 R147). -/
def execMovfw (e : Exe) (d : WReg) (a : FReg) (s : State) : Host.Outcome State Fault Refusal :=
  .next (plainOp e.val (fun g => g.setW d (g.getF a)) s)

/-- MOVWF (06 R147). -/
def execMovwf (e : Exe) (d : FReg) (a : WReg) (s : State) : Host.Outcome State Fault Refusal :=
  .next (plainOp e.val (fun g => g.setF d (g.getW a)) s)

/-- ILLEGAL_INSTRUCTION (06 R138, R158): a word that the decoder reads is no illegal encoding. -/
def execIllegalInstruction (e : Exe) (iw : Word) (s : State) : Host.Outcome State Fault Refusal :=
  .next (if (gleigDecode e iw).isNone then illegalOp e.val s else s)

end Sys2Proof.Machine
end

