-- ==== Sys2Proof/Machine/GleigMem.lean ====
section
/-!
DEFINITION. The loads, stores, bit instructions, brackets, atomics and the re-issue after RETRY (06 R145, R148, R149,
R152, R154).
-/

namespace Sys2Proof.Machine

/-! ### Loads and stores (06 R145) -/

/-- A load or store instruction with its effective address. -/
def memOp (e : Nat) (store float signed : Bool) (sz : Size) (reg : BitVec 5) (a : WReg) (imm : BitVec 16) (s : State) :
    State :=
  onExec e (fun s => doAccess e { store := store, reg := reg, float := float, signed := signed, sz := sz,
                                  ea := (s.eng e).ea a imm } s) s

/-- LDW (06 R145). -/
def execLdw (e : Exe) (d a : WReg) (imm : BitVec 16) (s : State) : Host.Outcome State Fault Refusal :=
  .next (memOp e.val false false false .b4 d a imm s)

/-- LDH (06 R145). -/
def execLdh (e : Exe) (d a : WReg) (imm : BitVec 16) (s : State) : Host.Outcome State Fault Refusal :=
  .next (memOp e.val false false true .b2 d a imm s)

/-- LDHU (06 R145). -/
def execLdhu (e : Exe) (d a : WReg) (imm : BitVec 16) (s : State) : Host.Outcome State Fault Refusal :=
  .next (memOp e.val false false false .b2 d a imm s)

/-- LDB (06 R145). -/
def execLdb (e : Exe) (d a : WReg) (imm : BitVec 16) (s : State) : Host.Outcome State Fault Refusal :=
  .next (memOp e.val false false true .b1 d a imm s)

/-- LDBU (06 R145). -/
def execLdbu (e : Exe) (d a : WReg) (imm : BitVec 16) (s : State) : Host.Outcome State Fault Refusal :=
  .next (memOp e.val false false false .b1 d a imm s)

/-- LDF (06 R145). -/
def execLdf (e : Exe) (d : FReg) (a : WReg) (imm : BitVec 16) (s : State) : Host.Outcome State Fault Refusal :=
  .next (memOp e.val false true false .b4 (0#1 ++ d) a imm s)

/-- STW (06 R145). -/
def execStw (e : Exe) (d a : WReg) (imm : BitVec 16) (s : State) : Host.Outcome State Fault Refusal :=
  .next (memOp e.val true false false .b4 d a imm s)

/-- STH (06 R145). -/
def execSth (e : Exe) (d a : WReg) (imm : BitVec 16) (s : State) : Host.Outcome State Fault Refusal :=
  .next (memOp e.val true false false .b2 d a imm s)

/-- STB (06 R145). -/
def execStb (e : Exe) (d a : WReg) (imm : BitVec 16) (s : State) : Host.Outcome State Fault Refusal :=
  .next (memOp e.val true false false .b1 d a imm s)

/-- STF (06 R145). -/
def execStf (e : Exe) (d : FReg) (a : WReg) (imm : BitVec 16) (s : State) : Host.Outcome State Fault Refusal :=
  .next (memOp e.val true true false .b4 (0#1 ++ d) a imm s)

/-- The re-issue of an access 100 ns after its RETRY (06 R154): while its lanes are halted the instruction waits to issue
afresh. -/
def reissue (e : Nat) (s : State) : State :=
  match (s.eng e).retry with
  | none => s
  | some r =>
    if !canExec s e then s
    else
      let s1 := s.setEng e { s.eng e with retry := none }
      if execHalted s e then s1 else doAccess e r s1

/-- RETRY_REISSUE (06 R154). -/
def execRetryReissue (e : Exe) (s : State) : Host.Outcome State Fault Refusal := .next (reissue e.val s)

/-! ### Bit instructions (05 R113, 06 R148) -/

/-- What a bit instruction does with LA and its bit: the new LA, and the bit it writes, if any. -/
abbrev BitFn := Bool → Bool → Bool × Option Bool

/-- Replaces a bit of a byte. -/
def setBitOf (b : Byte) (k : Nat) (v : Bool) : Byte :=
  if v then b ||| BitVec.ofNat 8 (2 ^ k) else b &&& ~~~ BitVec.ofNat 8 (2 ^ k)

/-- The place of an operand bit: space (3 data), byte offset in the image or virtual address, and bit number
(06 R148). -/
def bitPlace (g : Engine) : BitOpd → Nat × Nat × Nat
  | .direct sp byte bit => (sp.toNat, byte.toNat, bit.toNat)
  | .indirect sp a base =>
    let x := (g.getW a).toNat
    if sp.toNat = 3 then (3, ((g.getW base).toNat + x / 8) % 2 ^ 32, x % 8) else (sp.toNat, x / 8, x % 8)

/-- The virtual address of a place: the windows lie at 0, 1_0000h and 2_0000h (05 R110). -/
def placeAddr (p : Nat × Nat × Nat) : Word := wd (if p.1 = 3 then p.2.1 else p.1 * 65536 + p.2.1)

/-- The byte that a bit instruction accesses: its physical address and whether its line is private; none where the windows
or the region table refuse it. A writing form asks for both rights whatever LA holds, and II takes no writes (05 R113,
06 R148). -/
def bitByte (s : State) (n : Nat) (wr : Bool) (p : Nat × Nat × Nat) : Option (Nat × Bool) :=
  if p.1 = 3 then
    match s.xlate n .load p.2.1 with
    | none => none
    | some (pa, sh) => if wr && (s.xlate n .store p.2.1).isNone then none else some (pa, !sh)
  else if p.1 = 0 && wr then none
  else (imageAt s n p.1 p.2.1 1).map (fun a => (a, true))

/-- A bit instruction: one byte read, and written where the function gives a bit. Registers and the rack window refuse
8-bit accesses. -/
def bitOp (e : Nat) (wr : Bool) (o : BitOpd) (f : BitFn) (s : State) : State :=
  onExec e (fun s =>
    let g := s.eng e
    let p := bitPlace g o
    match bitByte s (s.jobOf e) wr p with
    | none => refuseAccess e .denied (placeAddr p) s
    | some (a, priv) =>
      if isRack a then refuseAccess e .size (placeAddr p) s
      else if !isMem a 1 then
        let t := busRead (.part (BitVec.ofNat 10 (s.jobOf e))) e a .b1 s
        refuseAccess e t.rsp.st (placeAddr p) t
      else
        let x := memLoad e a 1 s
        if x.1 ≠ .ok then refuseAccess e x.1 (placeAddr p) x.2.2
        else
          let b := x.2.1.headD 0
          let r := f g.la (b.getLsbD p.2.2)
          let t := match r.2 with
            | none => x.2.2
            | some v =>
              let bs := [setBitOf b p.2.2 v]
              if priv then (privStore e a bs x.2.2).2 else (sharedStore e a bs x.2.2).2
          complete e (fun g => { g with la := r.1 }) t) s

/-- A bit instruction by its legality: an illegal encoding raises ILLEGAL (06 R158). -/
def bitInstr (e : Nat) (wr edge : Bool) (o : BitOpd) (f : BitFn) (s : State) : State :=
  if bitLegal edge o then bitOp e wr o f s else onExec e (raiseAt e 1 .ok 0) s

/-- BLD (06 R148, 05 R113). -/
def execBld (e : Exe) (o : BitOpd) (s : State) : Host.Outcome State Fault Refusal :=
  .next (bitInstr e.val false false o (fun _ b => (b, none)) s)

/-- BLDN (06 R148, 05 R113). -/
def execBldn (e : Exe) (o : BitOpd) (s : State) : Host.Outcome State Fault Refusal :=
  .next (bitInstr e.val false false o (fun _ b => (!b, none)) s)

/-- BAND (06 R148, 05 R113). -/
def execBand (e : Exe) (o : BitOpd) (s : State) : Host.Outcome State Fault Refusal :=
  .next (bitInstr e.val false false o (fun l b => (l && b, none)) s)

/-- BANDN (06 R148, 05 R113). -/
def execBandn (e : Exe) (o : BitOpd) (s : State) : Host.Outcome State Fault Refusal :=
  .next (bitInstr e.val false false o (fun l b => (l && !b, none)) s)

/-- BOR (06 R148, 05 R113). -/
def execBor (e : Exe) (o : BitOpd) (s : State) : Host.Outcome State Fault Refusal :=
  .next (bitInstr e.val false false o (fun l b => (l || b, none)) s)

/-- BORN (06 R148, 05 R113). -/
def execBorn (e : Exe) (o : BitOpd) (s : State) : Host.Outcome State Fault Refusal :=
  .next (bitInstr e.val false false o (fun l b => (l || !b, none)) s)

/-- BXOR (06 R148, 05 R113). -/
def execBxor (e : Exe) (o : BitOpd) (s : State) : Host.Outcome State Fault Refusal :=
  .next (bitInstr e.val false false o (fun l b => (l != b, none)) s)

/-- BXORN (06 R148, 05 R113). -/
def execBxorn (e : Exe) (o : BitOpd) (s : State) : Host.Outcome State Fault Refusal :=
  .next (bitInstr e.val false false o (fun l b => (l != !b, none)) s)

/-- BSET (06 R148, 05 R113). -/
def execBset (e : Exe) (o : BitOpd) (s : State) : Host.Outcome State Fault Refusal :=
  .next (bitInstr e.val true false o (fun l _ => (l, if l then some true else none)) s)

/-- BCLR (06 R148, 05 R113). -/
def execBclr (e : Exe) (o : BitOpd) (s : State) : Host.Outcome State Fault Refusal :=
  .next (bitInstr e.val true false o (fun l _ => (l, if l then some false else none)) s)

/-- BASG (06 R148, 05 R113). -/
def execBasg (e : Exe) (o : BitOpd) (s : State) : Host.Outcome State Fault Refusal :=
  .next (bitInstr e.val true false o (fun l _ => (l, some l)) s)

/-- BRISE (06 R148, 05 R113). -/
def execBrise (e : Exe) (o : BitOpd) (s : State) : Host.Outcome State Fault Refusal :=
  .next (bitInstr e.val true true o (fun l m => (l && !m, some l)) s)

/-- BFALL (06 R148, 05 R113). -/
def execBfall (e : Exe) (o : BitOpd) (s : State) : Host.Outcome State Fault Refusal :=
  .next (bitInstr e.val true true o (fun l m => (m && !l, some l)) s)

/-! ### The logic accumulator and brackets (05 R114, 06 R149) -/

/-- A bracket open with a pending operation; NEST at depth 16 (05 R114). -/
def openOp (e : Nat) (code : Nat) (s : State) : State :=
  onExec e (fun s =>
    let g := s.eng e
    if g.nest.length ≥ 16 then raiseAt e 5 .ok 0 s
    else complete e (fun g => { g with nest := BitVec.ofNat 4 (b2n g.la * 8 + code) :: g.nest }) s) s

/-- LA after the close of a bracket: entry n applied to LA (05 R114). -/
def closeLa (n : BitVec 4) (la : Bool) : Bool :=
  let old := n.getLsbD 3
  match n.toNat % 8 with
  | 1 => old && la
  | 2 => old || la
  | 3 => old != la
  | 5 => old && !la
  | 6 => old || !la
  | 7 => old != !la
  | _ => la

/-- A bracket close; NEST at depth 0 (05 R114). -/
def closeOp (e : Nat) (s : State) : State :=
  onExec e (fun s =>
    match (s.eng e).nest with
    | [] => raiseAt e 5 .ok 0 s
    | n :: ns => complete e (fun g => { g with la := closeLa n g.la, nest := ns }) s) s

/-- NOT of LA (06 R149). -/
def execLaNot (e : Exe) (s : State) : Host.Outcome State Fault Refusal :=
  .next (plainOp e.val (fun g => { g with la := !g.la }) s)

/-- GOPEN.LD (06 R149). -/
def execGopenLd (e : Exe) (s : State) : Host.Outcome State Fault Refusal := .next (openOp e.val 0 s)

/-- GOPEN.AND (06 R149). -/
def execGopenAnd (e : Exe) (s : State) : Host.Outcome State Fault Refusal := .next (openOp e.val 1 s)

/-- GOPEN.OR (06 R149). -/
def execGopenOr (e : Exe) (s : State) : Host.Outcome State Fault Refusal := .next (openOp e.val 2 s)

/-- GOPEN.XOR (06 R149). -/
def execGopenXor (e : Exe) (s : State) : Host.Outcome State Fault Refusal := .next (openOp e.val 3 s)

/-- GOPEN.ANDN (06 R149). -/
def execGopenAndn (e : Exe) (s : State) : Host.Outcome State Fault Refusal := .next (openOp e.val 5 s)

/-- GOPEN.ORN (06 R149). -/
def execGopenOrn (e : Exe) (s : State) : Host.Outcome State Fault Refusal := .next (openOp e.val 6 s)

/-- GOPEN.XORN (06 R149). -/
def execGopenXorn (e : Exe) (s : State) : Host.Outcome State Fault Refusal := .next (openOp e.val 7 s)

/-- GCLOSE (06 R149). -/
def execGclose (e : Exe) (s : State) : Host.Outcome State Fault Refusal := .next (closeOp e.val s)

/-- RDLA (06 R149). -/
def execRdla (e : Exe) (d : WReg) (s : State) : Host.Outcome State Fault Refusal :=
  .next (plainOp e.val (fun g => g.setW d (wd (b2n g.la))) s)

/-- WRLA (06 R149). -/
def execWrla (e : Exe) (a : WReg) (s : State) : Host.Outcome State Fault Refusal :=
  .next (plainOp e.val (fun g => { g with la := g.getW a != 0 }) s)

/-! ### FENCE and the atomics (05 R133, R135, 06 R152) -/

/-- Posted rack writes of executor e's partition are queued: FENCE, CYEND and atomics wait for them (16 R375). -/
def fenceWaits (s : State) (e : Nat) : Bool := s.brb.wq.any (fun w => w.part.toNat = s.jobOf e)

/-- An instruction that first waits as FENCE does: while it waits it does nothing. -/
def fenced (e : Nat) (f : State → State) (s : State) : State := if fenceWaits s e then s else f s

/-- An atomic on the word at W[a]: from the old word, the value to store, if any, and LA (06 R152). -/
def atomOp (e : Nat) (d a : WReg) (f : Engine → Word → Option Word × Bool) (s : State) : State :=
  onExec e (fenced e fun s =>
    let g := s.eng e
    let va := g.getW a
    if va.toNat % 4 ≠ 0 then raiseAt e 2 .ok va s
    else
      match s.xlate (s.jobOf e) .atomic va.toNat with
      | none => refuseAccess e .denied va s
      | some (pa, _) =>
        let x := memLoad e pa 4 s
        if x.1 ≠ .ok then refuseAccess e x.1 va x.2.2
        else
          let old := wd (leNat x.2.1)
          let r := f g old
          let t := match r.1 with
            | none => x.2.2
            | some v => (sharedStore e pa (leBytes 4 v.toNat) x.2.2).2
          complete e (fun g => { g.setW d old with la := r.2 }) t) s

/-- SWAP (06 R152). -/
def execSwap (e : Exe) (d a b : WReg) (s : State) : Host.Outcome State Fault Refusal :=
  .next (atomOp e.val d a (fun g _ => (some (g.getW b), g.la)) s)

/-- CAS (06 R152). -/
def execCas (e : Exe) (d a b c : WReg) (s : State) : Host.Outcome State Fault Refusal :=
  .next (atomOp e.val d a (fun g x => if x = g.getW c then (some (g.getW b), true) else (none, false)) s)

/-- FADD (06 R152). -/
def execFadd (e : Exe) (d a b : WReg) (s : State) : Host.Outcome State Fault Refusal :=
  .next (atomOp e.val d a (fun g x => (some (x + g.getW b), g.la)) s)

end Sys2Proof.Machine
end

