-- ==== Sys2Proof/Machine/GleigSys.lean ====
section
/-!
DEFINITION. The timers and counters, the jumps, the system instructions and SVC (05 R125 to R136, 06 R150, R151, R153),
and the cut-off of a grant that an executor holds (08 R202).
-/

namespace Sys2Proof.Machine

/-! ### Timer and counter blocks (05 R125 to R127, 06 R150) -/

/-- The physical pieces of n bytes of MK or of writable private data; none where they lie elsewhere. -/
def privSpan (s : State) (p va n : Nat) : Option (List (Nat × Nat)) :=
  if va < 0x40000 then
    if 0x20000 ≤ va && va < 0x30000 then (imageAt s p 2 (va - 0x20000) n).map (fun a => [(a, n)]) else none
  else if 0x100000000 < va + n then none
  else
    (pieces 2 va n).mapM (fun x =>
      match s.xlate p .load x.1, s.xlate p .store x.1 with
      | some (pa, false), some _ => some (pa, x.2)
      | _, _ => none)

/-- Executor e reads the pieces of a block. -/
def spanLoad (e : Nat) : List (Nat × Nat) → State → Status × List Byte × State
  | [], s => (.ok, [], s)
  | (a, n) :: ps, s =>
    let x := memLoad e a n s
    if x.1 ≠ .ok then (x.1, [], x.2.2)
    else
      let q := spanLoad e ps x.2.2
      (q.1, x.2.1 ++ q.2.1, q.2.2)

/-- Executor e writes the pieces of a block. -/
def spanStore (e : Nat) : List (Nat × Nat) → List Byte → State → State
  | [], _, s => s
  | (a, n) :: ps, bs, s => spanStore e ps (bs.drop n) (privStore e a (bs.take n) s).2

/-- An instruction on a block of n bytes aligned to al at W[a]: from LA, W[b] and the block, LA and the new block. -/
def blockOp (e : Nat) (al n : Nat) (a b : WReg) (f : Bool → Word → List Byte → Bool × List Byte) (s : State) : State :=
  onExec e (fun s =>
    let g := s.eng e
    let va := g.getW a
    if va.toNat % al ≠ 0 then raiseAt e 2 .ok va s
    else
      match privSpan s (s.jobOf e) va.toNat n with
      | none => refuseAccess e .denied va s
      | some ps =>
        let x := spanLoad e ps s
        if x.1 ≠ .ok then refuseAccess e x.1 va x.2.2
        else
          let r := f g.la (g.getW b) x.2.1
          complete e (fun g => { g with la := r.1 }) (spanStore e ps r.2 x.2.2)) s

/-- A timer block as numbers (05 R125). -/
structure Timer where
  start : Nat
  et : Nat
  q : Bool
  prev : Bool
  run : Bool
  deriving DecidableEq, Repr

/-- The timer of a block's bytes. -/
def timerOf (bs : List Byte) : Timer :=
  let w := wd (leNat (slice bs 12 4))
  { start := leNat (slice bs 0 8), et := leNat (slice bs 8 4), q := w.getLsbD 31, prev := w.getLsbD 30, run := w.getLsbD 29 }

/-- The bytes of a timer. -/
def timerBytes (t : Timer) : List Byte :=
  leBytes 8 t.start ++ leBytes 4 t.et ++ leBytes 4 (b2n t.q * 2 ^ 31 + b2n t.prev * 2 ^ 30 + b2n t.run * 2 ^ 29)

/-- The elapsed count since a start in a unit of ns, limited to PT (05 R125). -/
def elapsed (rel start unit pt : Nat) : Nat := min pt (if start ≤ rel then (rel - start) / unit else 0)

/-- TON (05 R125). -/
def tonStep (rel unit pt : Nat) (la : Bool) (t : Timer) : Timer :=
  if !la then { t with q := false, et := 0, run := false }
  else
    let t1 := if t.prev then t else { t with start := rel, run := true }
    let et := elapsed rel t1.start unit pt
    { t1 with et := et, q := decide (pt ≤ et) }

/-- TOF (05 R125). -/
def tofStep (rel unit pt : Nat) (la : Bool) (t : Timer) : Timer :=
  if la then { t with q := true, et := 0, run := false }
  else
    let t1 := if t.prev then { t with start := rel, run := true } else t
    if t1.run then
      let et := elapsed rel t1.start unit pt
      { t1 with et := et, q := decide (et < pt), run := decide (et < pt) }
    else t1

/-- TP (05 R125). -/
def tpStep (rel unit pt : Nat) (la : Bool) (t : Timer) : Timer :=
  let t1 := if !t.run && la && !t.prev then { t with start := rel, run := true } else t
  if t1.run then
    let et := elapsed rel t1.start unit pt
    { t1 with et := et, q := decide (et < pt), run := !decide (pt ≤ et) }
  else if !la then { t1 with et := 0, q := false }
  else t1

/-- A timer instruction: its step, then prevIN := LA and LA := Q. Time is the job's scheduled release time. -/
def timerOp (e : Nat) (a b : WReg) (unit : Nat) (step : Nat → Nat → Nat → Bool → Timer → Timer) (s : State) : State :=
  blockOp e 8 16 a b (fun la pt bs =>
    let t := step (s.part (s.jobOf e)).jib.rel unit pt.toNat la (timerOf bs)
    (t.q, timerBytes { t with prev := la })) s

/-- A counter instruction: from LA, PV, CV and the previous up and down inputs, LA and the new block (05 R126). -/
def counterOp (e : Nat) (a b : WReg) (f : Bool → Int → Int → Bool → Bool → Bool × Int × Bool × Bool) (s : State) : State :=
  blockOp e 4 8 a b (fun la pv bs =>
    let w := wd (leNat (slice bs 4 4))
    let r := f la pv.toInt (wd (leNat (slice bs 0 4))).toInt (w.getLsbD 31) (w.getLsbD 30)
    (r.1, leBytes 4 (BitVec.ofInt 32 r.2.1).toNat ++ leBytes 4 (b2n r.2.2.1 * 2 ^ 31 + b2n r.2.2.2 * 2 ^ 30))) s

/-- CTU (05 R126). -/
def ctuStep (la : Bool) (pv cv : Int) (up dn : Bool) : Bool × Int × Bool × Bool :=
  let c := if la && !up && cv ≠ 2147483647 then cv + 1 else cv
  (decide (pv ≤ c), c, la, dn)

/-- CTD (05 R126). -/
def ctdStep (la : Bool) (_pv cv : Int) (up dn : Bool) : Bool × Int × Bool × Bool :=
  let c := if la && !dn && cv ≠ -2147483648 then cv - 1 else cv
  (decide (c ≤ 0), c, up, la)

/-- TON.US (06 R150, 05 R125). -/
def execTonUs (e : Exe) (a b : WReg) (s : State) : Host.Outcome State Fault Refusal :=
  .next (timerOp e.val a b 1000 tonStep s)

/-- TON.MS (06 R150, 05 R125). -/
def execTonMs (e : Exe) (a b : WReg) (s : State) : Host.Outcome State Fault Refusal :=
  .next (timerOp e.val a b 1000000 tonStep s)

/-- TOF.US (06 R150, 05 R125). -/
def execTofUs (e : Exe) (a b : WReg) (s : State) : Host.Outcome State Fault Refusal :=
  .next (timerOp e.val a b 1000 tofStep s)

/-- TOF.MS (06 R150, 05 R125). -/
def execTofMs (e : Exe) (a b : WReg) (s : State) : Host.Outcome State Fault Refusal :=
  .next (timerOp e.val a b 1000000 tofStep s)

/-- TP.US (06 R150, 05 R125). -/
def execTpUs (e : Exe) (a b : WReg) (s : State) : Host.Outcome State Fault Refusal :=
  .next (timerOp e.val a b 1000 tpStep s)

/-- TP.MS (06 R150, 05 R125). -/
def execTpMs (e : Exe) (a b : WReg) (s : State) : Host.Outcome State Fault Refusal :=
  .next (timerOp e.val a b 1000000 tpStep s)

/-- CTU (06 R150, 05 R126). -/
def execCtu (e : Exe) (a b : WReg) (s : State) : Host.Outcome State Fault Refusal :=
  .next (counterOp e.val a b ctuStep s)

/-- CTD (06 R150, 05 R126). -/
def execCtd (e : Exe) (a b : WReg) (s : State) : Host.Outcome State Fault Refusal :=
  .next (counterOp e.val a b ctdStep s)

/-- CRST (06 R150, 05 R126). -/
def execCrst (e : Exe) (a : WReg) (s : State) : Host.Outcome State Fault Refusal :=
  .next (counterOp e.val a 0 (fun la _ cv up dn => (la, if la then 0 else cv, up, dn)) s)

/-- CLD (06 R150, 05 R126). -/
def execCld (e : Exe) (a b : WReg) (s : State) : Host.Outcome State Fault Refusal :=
  .next (counterOp e.val a b (fun la pv cv up dn => (la, if la then pv else cv, up, dn)) s)

/-! ### Control flow (06 R151) -/

/-- The target of a relative jump: PC + 4 x sext(off). -/
def jumpTarget (pc : Word) (off : BitVec 26) : Word := pc + (off ++ 0#2).signExtend 32

/-- An instruction that sets PC itself. -/
def jumpOp (e : Nat) (f : Engine → Engine) (s : State) : State := onExec e (fun s => s.setEng e (f (s.eng e))) s

/-- A jump to a register's address; ALIGN, with the target as the address concerned, where it is misaligned. -/
def jumpReg (e : Nat) (a : WReg) (f : Engine → Engine) (s : State) : State :=
  onExec e (fun s =>
    let t := (s.eng e).getW a
    if fld t 0 2 ≠ 0 then raiseAt e 2 .ok t s else s.setEng e { f (s.eng e) with pc := t }) s

/-- J (06 R151). -/
def execJ (e : Exe) (off : BitVec 26) (s : State) : Host.Outcome State Fault Refusal :=
  .next (jumpOp e.val (fun g => { g with pc := jumpTarget g.pc off }) s)

/-- CALL (06 R151). -/
def execCall (e : Exe) (off : BitVec 26) (s : State) : Host.Outcome State Fault Refusal :=
  .next (jumpOp e.val (fun g => { g.setW 31 (g.pc + 4) with pc := jumpTarget g.pc off }) s)

/-- JC (06 R151). -/
def execJc (e : Exe) (off : BitVec 26) (s : State) : Host.Outcome State Fault Refusal :=
  .next (jumpOp e.val (fun g => { g with pc := if g.la then jumpTarget g.pc off else g.pc + 4 }) s)

/-- JCN (06 R151). -/
def execJcn (e : Exe) (off : BitVec 26) (s : State) : Host.Outcome State Fault Refusal :=
  .next (jumpOp e.val (fun g => { g with pc := if g.la then g.pc + 4 else jumpTarget g.pc off }) s)

/-- JR (06 R151). -/
def execJr (e : Exe) (a : WReg) (s : State) : Host.Outcome State Fault Refusal := .next (jumpReg e.val a id s)

/-- CALLR (06 R151). -/
def execCallr (e : Exe) (a : WReg) (s : State) : Host.Outcome State Fault Refusal :=
  .next (jumpReg e.val a (fun g => g.setW 31 (g.pc + 4)) s)

/-! ### System instructions (06 R153) -/

/-- The writable fields of the status word, bits 12:3 (05 R108). -/
def swMask : Word := 0x1FF8

/-- A status word with its writable fields taken from a value (05 R108, 06 R153). -/
def swWrite (sw v : Word) : Word := (sw &&& ~~~ swMask) ||| (v &&& swMask)

/-- The eight words of a frame, as loads read them (05 R122). -/
def readFrame (e : Nat) : Nat → Nat → State → Option (List Byte) × State
  | 0, _, s => (some [], s)
  | k + 1, va, s =>
    let x := vLoad e .b4 (va % 2 ^ 32) s
    if x.1 ≠ .ok then (none, x.2.2)
    else
      let q := readFrame e k (va + 4) x.2.2
      (q.1.map (fun bs => leBytes 4 x.2.1.toNat ++ bs), q.2)

/-- A word of a frame. -/
def frameWord (bs : List Byte) (off : Nat) : Word := wd (leNat (slice bs off 4))

/-- The executor's state that ERET restores from a frame (05 R122). -/
def eretState (g : Engine) (bs : List Byte) : Engine :=
  let w := frameWord bs 8
  { g with pc := frameWord bs 0, la := w.getLsbD 8, fl := w.setWidth 5, nest := nestOf (fld w 16 5) (leNat (slice bs 24 8))
           sw := swWrite g.sw (frameWord bs 4) &&& ~~~ bit 14 }

/-- ERET (05 R122): with EXC = 0 it is ILLEGAL; a misaligned table or frame gives ALIGN, a refused read ACCESS, a frame PC
that is misaligned ALIGN, a depth above 16 NEST, the lowest number first; each of them ends the job. -/
def eretOp (e : Nat) (s : State) : State :=
  onExec e (fun s =>
    let g := s.eng e
    let n := s.jobOf e
    let vec := s.rdA .schPdVecS n
    if !g.inExc then raiseAt e 1 .ok 0 s
    else if fld vec 0 2 ≠ 0 then raiseAt e 2 .ok (vec + 60) s
    else
      let r := vecWord e 15 s
      match r.1 with
      | none => raiseAt e 4 .denied (vec + 60) r.2
      | some f =>
        if fld f 0 2 ≠ 0 then raiseAt e 2 .ok f r.2
        else
          let x := readFrame e 8 f.toNat r.2
          match x.1 with
          | none => raiseAt e 4 .denied f x.2
          | some bs =>
            if fld (frameWord bs 0) 0 2 ≠ 0 then raiseAt e 2 .ok (frameWord bs 0) x.2
            else if fld (frameWord bs 8) 16 5 > 16 then raiseAt e 5 .ok 0 x.2
            else x.2.setEng e (eretState g bs)) s

/-- NOP (06 R153). -/
def execNop (e : Exe) (s : State) : Host.Outcome State Fault Refusal := .next (plainOp e.val id s)

/-- FENCE (05 R133, 06 R153): in this model every access but a posted rack write completes at once. -/
def execFence (e : Exe) (s : State) : Host.Outcome State Fault Refusal :=
  .next (onExec e.val (fenced e.val (complete e.val id)) s)

/-- CYEND (05 R136, 06 R153). -/
def execCyend (e : Exe) (s : State) : Host.Outcome State Fault Refusal :=
  .next (onExec e.val (fenced e.val (cyendJob e.val)) s)

/-- ERET (05 R122, 06 R153). -/
def execEret (e : Exe) (s : State) : Host.Outcome State Fault Refusal := .next (eretOp e.val s)

/-- MFSW (06 R153). -/
def execMfsw (e : Exe) (d : WReg) (s : State) : Host.Outcome State Fault Refusal :=
  .next (plainOp e.val (fun g => g.setW d g.sw) s)

/-- MTSW (06 R153). -/
def execMtsw (e : Exe) (a : WReg) (s : State) : Host.Outcome State Fault Refusal :=
  .next (plainOp e.val (fun g => { g with sw := swWrite g.sw (g.getW a) }) s)

/-- SVC: the request is placed with W1 to W6; W1 takes the status and, on OK, W2 the sequence number (05 R129). -/
def svcOp (e : Nat) (num : BitVec 12) (s : State) : State :=
  onExec e (fun s =>
    let g := s.eng e
    let args := (List.range 6).map (fun i => g.getW (BitVec.ofNat 5 (i + 1)))
    let r := svcPlace (s.jobOf e) num args s
    complete e (fun g =>
      let g1 := g.setW 1 (wd r.1.code)
      if r.1 = .ok then g1.setW 2 r.2.1 else g1) r.2.2) s

/-- SVC (05 R129, 06 R153). -/
def execSvc (e : Exe) (n : BitVec 12) (s : State) : Host.Outcome State Fault Refusal := .next (svcOp e.val n s)

/-! ### The hold limit (08 R202) -/

/-- A grant is cut off; an executor that held it takes ACCESS with CUTOFF. The transfer does not name the address, so the
frame's address is free (DESIGN CHOICE log 53). -/
def cutOff (tgt : Nat) (s : State) : State :=
  let x := cutGrant tgt s
  match x.1 with
  | none => x.2
  | some r =>
    if r < 96 && canExec x.2 r then
      refuseAccess r .cutoff (addrAt tgt (Config.cutAddr x.2.free)) (x.2.setEng r { x.2.eng r with retry := none }).spend
    else x.2

/-- HOLD_LIMIT_CUTOFF (08 R202). -/
def execHoldLimitCutoff (tgt : Fin 14) (s : State) : Host.Outcome State Fault Refusal := .next (cutOff tgt.val s)

end Sys2Proof.Machine
end

