-- ==== Sys2Proof/Machine/Voter.lean ====
section
/-!
DEFINITION. The voter of a triad (04 R80 to R82, R98): the outputs that lanes present, their comparison, the access that an
agreed output makes, and the delivery of its response to the lanes.
-/

namespace Sys2Proof.Machine

/-- The distance of two cycle numbers. -/
def cycDist (a b : Nat) : Nat := max a b - min a b

/-- Takes a lane's first undecided output out. -/
def dropHead (x : Triad) (l : Lane) : Triad :=
  match headOf x l with
  | some p => { x with shown := x.shown.erase p }
  | none => x

/-- The lane that is neither of two. -/
def thirdLane (x y : Lane) : Lane :=
  match x, y with
  | .a, .b | .b, .a => .c
  | .a, .c | .c, .a => .b
  | _, _ => .a

/-- Two lanes with equal first outputs, and the cycle in which the later of them was presented. -/
def agreeing (x : Triad) : Option (Lane × Lane × Nat × BusOut) :=
  [(Lane.a, Lane.b), (Lane.a, Lane.c), (Lane.b, Lane.c)].findSome? fun p =>
    match headOf x p.1, headOf x p.2 with
    | some g, some h => if g.out = h.out then some (p.1, p.2, max g.cyc h.cyc, g.out) else none
    | _, _ => none

/-! ### The access of an issued output (04 R80, R81, R85) -/

/-- The offset and size of an access whose enabled bytes are a byte, a halfword or a word (DEDUCED log 159). -/
def enabledPart (be : BitVec 4) : Option (Nat × Size) :=
  match be.toNat with
  | 1 => some (0, .b1)
  | 2 => some (1, .b1)
  | 4 => some (2, .b1)
  | 8 => some (3, .b1)
  | 3 => some (0, .b2)
  | 12 => some (2, .b2)
  | 15 => some (0, .b4)
  | _ => none

/-- The initiator of triad t's outputs: the partition whose job runs on it, the foundry partition where none does. -/
def triadWho (s : State) (t : Nat) : Who := .part ((triadJob s t).getD 0)

/-- An output is issued into the fabric: its access is made once, and its response is that of the command. -/
def issueOut (t : Nat) (o : BusOut) (s : State) : State :=
  let s1 := s.setTriad t { s.triad t with issued := some o }
  match enabledPart o.be with
  | none => s1.reply .size
  | some (k, sz) =>
    if o.write then busWrite (triadWho s t) (o.addr.toNat + k) sz (o.data >>> (8 * k)) s1
    else busRead (triadWho s t) (3 * t) (o.addr.toNat + k) sz s1

/-- The response of an access is delivered to lanes. -/
def deliver (t : Nat) (ls : List Lane) (r : Rsp) (s : State) : State :=
  let x := s.triad t
  s.setTriad t { x with got := ls.foldl (fun g l => Tab.set {} g l.idx r) x.got }

/-! ### Decisions (04 R81, R82) -/

/-- An output agreed by two lanes is issued; the third, if it has not presented one, is awaited with the response held for
it. -/
def agreed (t : Nat) (l m : Lane) (t2 : Nat) (o : BusOut) (s : State) : State :=
  let z := thirdLane l m
  let s1 := issueOut t o (s.setTriad t (dropHead (dropHead (s.triad t) l) m))
  let s2 := deliver t [l, m] s1.rsp s1
  match headOf (s2.triad t) z with
  | none => s2.setTriad t { s2.triad t with await := (s2.triad t).await ++ [{ t2 := t2, out := o, lane := z, rsp := s1.rsp }] }
  | some h =>
    let s3 := s2.setTriad t (dropHead (s2.triad t) z)
    if h.out ≠ o then goOdd t z .diff s3
    else if cycDist h.cyc t2 > 8 then goOdd t z .time s3
    else deliver t [z] s1.rsp s3

/-- The voter of three: an agreed output is issued once, and a third lane that differs or is off by more than 8 cycles
is odd (04 R81). -/
def vote3 (t : Nat) (s : State) : State :=
  match agreeing (s.triad t) with
  | none => s
  | some (l, m, t2, o) => agreed t l m t2 o s

/-- The comparator of two: equal outputs within 8 cycles are issued, anything else faults (04 R82). -/
def vote2 (t : Nat) (s : State) : State :=
  let x := s.triad t
  match [Lane.a, Lane.b, Lane.c].filterMap (fun l => if x.odd = some l then none else headOf x l) with
  | [g, h] =>
    if g.out = h.out ∧ cycDist g.cyc h.cyc ≤ 8 then
      let s1 := issueOut t g.out (s.setTriad t (dropHead (dropHead x g.lane) h.lane))
      deliver t [g.lane, h.lane] s1.rsp s1
    else triadFails t s
  | _ => s

/-- A lane presents an output (04 R81, R82): the one that completes an agreed output, whose response has been held for it,
or one to be voted on. -/
def presentOut (t : Nat) (l : Lane) (cyc : Nat) (o : BusOut) (s : State) : State :=
  let x := s.triad t
  if !alloyRuns s t || x.odd = some l then s
  else
    match x.await.find? (fun a => a.lane = l) with
    | some a =>
      let s1 := s.setTriad t { x with await := x.await.erase a }
      if o ≠ a.out then goOdd t l .diff s1
      else if cycDist cyc a.t2 > 8 then goOdd t l .time s1
      else deliver t [l] a.rsp s1
    | none =>
      let s1 := s.setTriad t { x with shown := x.shown ++ [{ lane := l, cyc := cyc, out := o }] }
      if x.odd.isSome then vote2 t s1 else vote3 t s1

/-- Delayed outputs whose cycle has come are presented (04 R98). -/
def presentLate (t cyc : Nat) (s : State) : State :=
  let x := s.triad t
  let s1 := s.setTriad t { x with late := x.late.filter (fun p => decide (cyc < p.cyc)) }
  (x.late.filter (fun p => decide (p.cyc ≤ cyc))).foldl (fun s p => presentOut t p.lane p.cyc p.out s) s1

/-- A lane's output after those of it that are delayed: an injection of kind 0 or 1 that is armed for the lane applies, data
bit 0 inverted or 12 cycles later (04 R98, R101). -/
def throughInjection (t : Nat) (l : Lane) (cyc : Nat) (o : BusOut) (s : State) : State :=
  let x := s.triad t
  let c := x.late.foldl (fun m p => if p.lane = l then max m p.cyc else m) cyc
  let put (d : Nat) (u : State) : State :=
    if d ≤ cyc then presentOut t l d o u
    else u.setTriad t { u.triad t with late := (u.triad t).late ++ [{ lane := l, cyc := d, out := o }] }
  match x.inj with
  | some (k, kind) =>
    if k ≠ l || kind = 2 then put c s
    else
      let s1 := s.setTriad t { x with inj := none }
      if kind = 0 then presentOut t l cyc { o with data := o.data ^^^ 1 } s1 else put (c + 12) s1
  | none => put c s

/-- LANE_OUTPUT (04 R80 to R82, R98): a lane in service presents an output in a fabric cycle. -/
def laneOutput (t : Fin 32) (l : Lane) (cyc : Nat) (o : BusOut) (s : State) : State :=
  if !alloyRuns s t || (s.triad t).odd = some l then s
  else
    let s1 := presentLate t cyc s
    if (s1.triad t).odd = some l || !alloyRuns s1 t then s1 else throughInjection t l cyc o s1

/-- LANE_OUTPUT (04 R81). -/
def execLaneOutput (t : Fin 32) (l : Lane) (cyc : Nat) (o : BusOut) (s : State) : Host.Outcome State Fault Refusal :=
  .next (laneOutput t l cyc o s)

/-- The first presentation among outputs not decided. -/
def firstShown (x : Triad) : Option Nat :=
  match x.shown with
  | [] => none
  | p :: ps => some (ps.foldl (fun a q => min a q.cyc) p.cyc)

/-- The windows of the voter by a fabric cycle (04 R81, R82): 8 cycles after the agreeing pair, 16 without a majority, 8 in a
comparison of two. -/
def windows (t cyc : Nat) (s : State) : State :=
  let x := s.triad t
  if !alloyRuns s t then s
  else
    match x.await.find? (fun a => decide (cyc > a.t2 + 8)) with
    | some a => goOdd t a.lane .time s
    | none =>
      match firstShown x with
      | some f => if cyc > f + (if x.odd.isSome then 8 else 16) then triadFails t s else s
      | none => s

/-- VOTER_WINDOW_EXPIRY (04 R81, R82): delayed outputs whose cycle has come first. -/
def voterWindow (t : Fin 32) (cyc : Nat) (s : State) : State := windows t cyc (presentLate t cyc s)

/-- VOTER_WINDOW_EXPIRY (04 R81). -/
def execVoterWindowExpiry (t : Fin 32) (cyc : Nat) (s : State) : Host.Outcome State Fault Refusal :=
  .next (voterWindow t cyc s)

end Sys2Proof.Machine
end

