-- ==== Sys2Proof/Machine/DebugPort.lean ====
section
/-!
DEFINITION. The debug port's accesses, the single step of halted lanes (04 R97, R106, 18 R418), and the write of a
register by its address (00 R8).
-/

namespace Sys2Proof.Machine

/-- The next state of an outcome. -/
def outState (o : Host.Outcome State Fault Refusal) (s : State) : State :=
  match o with
  | .next t => t
  | .fault _ => s
  | .refused _ => s

/-- An instruction that the decoder has read, on its executor; no other command. -/
def runInstr (i : Instr) (s : State) : State :=
  match i with
  | .add e d a b => outState (execAdd e d a b s) s
  | .sub e d a b => outState (execSub e d a b s) s
  | .adds e d a b => outState (execAdds e d a b s) s
  | .subs e d a b => outState (execSubs e d a b s) s
  | .neg e d a => outState (execNeg e d a s) s
  | .mul e d a b => outState (execMul e d a b s) s
  | .muls e d a b => outState (execMuls e d a b s) s
  | .div e d a b c => outState (execDiv e d a b c s) s
  | .divu e d a b c => outState (execDivu e d a b c s) s
  | .and e d a b => outState (execAnd e d a b s) s
  | .or e d a b => outState (execOr e d a b s) s
  | .xor e d a b => outState (execXor e d a b s) s
  | .not e d a => outState (execNot e d a s) s
  | .shl e d a b => outState (execShl e d a b s) s
  | .shr e d a b => outState (execShr e d a b s) s
  | .sar e d a b => outState (execSar e d a b s) s
  | .rol e d a b => outState (execRol e d a b s) s
  | .ror e d a b => outState (execRor e d a b s) s
  | .mov e d a => outState (execMov e d a s) s
  | .addf e d a b => outState (execAddf e d a b s) s
  | .subf e d a b => outState (execSubf e d a b s) s
  | .mulf e d a b => outState (execMulf e d a b s) s
  | .divf e d a b => outState (execDivf e d a b s) s
  | .sqrtf e d a => outState (execSqrtf e d a s) s
  | .absf e d a => outState (execAbsf e d a s) s
  | .negf e d a => outState (execNegf e d a s) s
  | .movf e d a => outState (execMovf e d a s) s
  | .cvtfw e d a => outState (execCvtfw e d a s) s
  | .cvtwf e d a => outState (execCvtwf e d a s) s
  | .movfw e d a => outState (execMovfw e d a s) s
  | .movwf e d a => outState (execMovwf e d a s) s
  | .cmpEq e a b => outState (execCmpEq e a b s) s
  | .cmpNe e a b => outState (execCmpNe e a b s) s
  | .cmpLt e a b => outState (execCmpLt e a b s) s
  | .cmpLe e a b => outState (execCmpLe e a b s) s
  | .cmpGt e a b => outState (execCmpGt e a b s) s
  | .cmpGe e a b => outState (execCmpGe e a b s) s
  | .cmpLtu e a b => outState (execCmpLtu e a b s) s
  | .cmpLeu e a b => outState (execCmpLeu e a b s) s
  | .cmpGtu e a b => outState (execCmpGtu e a b s) s
  | .cmpGeu e a b => outState (execCmpGeu e a b s) s
  | .fcmpEq e a b => outState (execFcmpEq e a b s) s
  | .fcmpNe e a b => outState (execFcmpNe e a b s) s
  | .fcmpLt e a b => outState (execFcmpLt e a b s) s
  | .fcmpLe e a b => outState (execFcmpLe e a b s) s
  | .fcmpGt e a b => outState (execFcmpGt e a b s) s
  | .fcmpGe e a b => outState (execFcmpGe e a b s) s
  | .nop e => outState (execNop e s) s
  | .fence e => outState (execFence e s) s
  | .cyend e => outState (execCyend e s) s
  | .eret e => outState (execEret e s) s
  | .mfsw e d => outState (execMfsw e d s) s
  | .mtsw e a => outState (execMtsw e a s) s
  | .jr e a => outState (execJr e a s) s
  | .callr e a => outState (execCallr e a s) s
  | .svc e n => outState (execSvc e n s) s
  | .laNot e => outState (execLaNot e s) s
  | .gopenLd e => outState (execGopenLd e s) s
  | .gopenAnd e => outState (execGopenAnd e s) s
  | .gopenOr e => outState (execGopenOr e s) s
  | .gopenXor e => outState (execGopenXor e s) s
  | .gopenAndn e => outState (execGopenAndn e s) s
  | .gopenOrn e => outState (execGopenOrn e s) s
  | .gopenXorn e => outState (execGopenXorn e s) s
  | .gclose e => outState (execGclose e s) s
  | .rdla e d => outState (execRdla e d s) s
  | .wrla e a => outState (execWrla e a s) s
  | .tonUs e a b => outState (execTonUs e a b s) s
  | .tonMs e a b => outState (execTonMs e a b s) s
  | .tofUs e a b => outState (execTofUs e a b s) s
  | .tofMs e a b => outState (execTofMs e a b s) s
  | .tpUs e a b => outState (execTpUs e a b s) s
  | .tpMs e a b => outState (execTpMs e a b s) s
  | .ctu e a b => outState (execCtu e a b s) s
  | .ctd e a b => outState (execCtd e a b s) s
  | .crst e a => outState (execCrst e a s) s
  | .cld e a b => outState (execCld e a b s) s
  | .swap e d a b => outState (execSwap e d a b s) s
  | .cas e d a b c => outState (execCas e d a b c s) s
  | .fadd e d a b => outState (execFadd e d a b s) s
  | .bld e o => outState (execBld e o s) s
  | .bldn e o => outState (execBldn e o s) s
  | .band e o => outState (execBand e o s) s
  | .bandn e o => outState (execBandn e o s) s
  | .bor e o => outState (execBor e o s) s
  | .born e o => outState (execBorn e o s) s
  | .bxor e o => outState (execBxor e o s) s
  | .bxorn e o => outState (execBxorn e o s) s
  | .bset e o => outState (execBset e o s) s
  | .bclr e o => outState (execBclr e o s) s
  | .basg e o => outState (execBasg e o s) s
  | .brise e o => outState (execBrise e o s) s
  | .bfall e o => outState (execBfall e o s) s
  | .addi e d a imm => outState (execAddi e d a imm s) s
  | .andi e d a imm => outState (execAndi e d a imm s) s
  | .ori e d a imm => outState (execOri e d a imm s) s
  | .xori e d a imm => outState (execXori e d a imm s) s
  | .movi e d imm => outState (execMovi e d imm s) s
  | .movhi e d imm => outState (execMovhi e d imm s) s
  | .shi e d a kind cnt => outState (execShi e d a kind cnt s) s
  | .ldw e d a imm => outState (execLdw e d a imm s) s
  | .ldh e d a imm => outState (execLdh e d a imm s) s
  | .ldhu e d a imm => outState (execLdhu e d a imm s) s
  | .ldb e d a imm => outState (execLdb e d a imm s) s
  | .ldbu e d a imm => outState (execLdbu e d a imm s) s
  | .ldf e d a imm => outState (execLdf e d a imm s) s
  | .stw e d a imm => outState (execStw e d a imm s) s
  | .sth e d a imm => outState (execSth e d a imm s) s
  | .stb e d a imm => outState (execStb e d a imm s) s
  | .stf e d a imm => outState (execStf e d a imm s) s
  | .j e off => outState (execJ e off s) s
  | .call e off => outState (execCall e off s) s
  | .jc e off => outState (execJc e off s) s
  | .jcn e off => outState (execJcn e off s) s
  | _ => s

/-- Executor e executes the instruction at its PC: an illegal word raises ILLEGAL, a failed fetch FETCH. -/
def stepExec (e : Exe) (s : State) : State :=
  match fetchAt s e.val with
  | none => onExec e.val id s
  | some pa =>
    match gleigDecode e (s.word pa) with
    | none => illegalOp e.val s
    | some i => runInstr i s

/-- The executor that a TDBG write names: the alloy triad, or the selected split engine. -/
def dbgExec (s : State) (t : Fin 32) (v : Word) : Exe :=
  ⟨3 * t.val + (if splitRuns s t.val then fld v 4 2 % 3 else 0), by have := t.isLt; split <;> omega⟩

/-- STEP: the named lanes execute one instruction and are halted again; an access that was being re-issued issues afresh
(04 R97, R106, 06 R154). -/
def debugStep (t : Fin 32) (v : Word) (s : State) : State :=
  let e := dbgExec s t v
  let m := dbgLanes s t.val v
  let x := s.triad t.val
  let s1 := s.setTriad t.val { x with halted := x.halted &&& ~~~ m }
  let s2 := stepExec e (s1.setEng e.val { s1.eng e.val with retry := none })
  let y := s2.triad t.val
  s2.setTriad t.val { y with halted := y.halted ||| m }

/-- STEP takes effect where the write that carries it was accepted; the response stays that of the write. -/
def afterTdbg (t : Fin 32) (v : Word) (s : State) : State :=
  if v.getLsbD 1 && s.rsp.st = .ok then { debugStep t v s with rsp := s.rsp } else s

/-- DEBUG_STEP (04 R97): a TDBG write with STEP = 1. -/
def execDebugStep (w : Who) (t : Fin 32) (v : Word) (s : State) : Host.Outcome State Fault Refusal :=
  .next (afterTdbg t (v ||| 2) (tdbgWrite w t.val (v ||| 2) s))

/-- The triad whose TDBG lies at an address. -/
def tdbgOf (a : Nat) : Option (Fin 32) :=
  (List.finRange 32).find? (fun t => Reg.fabTdbg.addr t.val 0 = a)

/-- A write of the physical space by any initiator, with the step of a TDBG write. -/
def physWrite (w : Who) (a : Nat) (sz : Size) (v : Word) (s : State) : State :=
  let s1 := busWrite w a sz v s
  match tdbgOf a with
  | some t => afterTdbg t v s1
  | none => s1

/-- REGISTER_WRITE (00 R5, R6, R8, R9). -/
def execRegisterWrite (w : Who) (addr : BitVec 40) (sz : Size) (v : Word) (s : State) : Host.Outcome State Fault Refusal :=
  .next (physWrite w addr.toNat sz v s)

/-- The executor whose state a debug access to a lane register reaches: in alloy mode the one that the in-service lanes run
alike, in split mode the engine that LSEL names; none where the named lane is out of service (04 R97, R106). -/
def dbgLaneExec (s : State) (t : Fin 32) (write : Bool) : Option Nat :=
  let k := fld (s.rd .fabTdbg t) 4 2
  if alloyRuns s t then
    match (s.triad t).odd with
    | some l => if l.idx = k && !write then none else some (3 * t.val)
    | none => some (3 * t.val)
  else if execSplit s (3 * t.val + k % 3) then some (3 * t.val + k % 3)
  else none

/-- A register of an executor. -/
def laneRegOf (g : Engine) : LaneReg → Word
  | .w r => g.getW r
  | .f r => g.getF r
  | .pc => g.pc
  | .sw => g.sw
  | .la => wd (b2n g.la)
  | .fl => g.fl.setWidth 32
  | .nest k => (g.nest.reverse.getD k.val 0).setWidth 32

/-- An executor with one register replaced. -/
def setLaneReg (g : Engine) (v : Word) : LaneReg → Engine
  | .w r => Engine.setW r v g
  | .f r => Engine.setF r v g
  | .pc => { g with pc := v }
  | .sw => { g with sw := v }
  | .la => { g with la := v.getLsbD 0 }
  | .fl => { g with fl := v.setWidth 5 }
  | .nest k => { g with nest := (g.nest.reverse.set k.val (v.setWidth 4)).reverse }

/-- A debug read of a lane register (04 R97): of a lane out of service it is a free value (DESIGN CHOICE log 160). -/
def laneRead (t : Fin 32) (r : LaneReg) (s : State) : State :=
  if !debugReads s Reg.fabTdbg.row.base || debugLevel s = 2 then refuseDebug s
  else
    match dbgLaneExec s t false with
    | some e => s.answer .ok (laneRegOf (s.eng e) r)
    | none => s.spend.answer .ok (wd (leNat ((List.range 4).map (Config.oddLane s.free))))

/-- A debug write of a lane register: it goes to all in-service lanes (04 R97). -/
def laneWrite (t : Fin 32) (r : LaneReg) (v : Word) (s : State) : State :=
  if !debugWrites s then refuseDebug s
  else
    match dbgLaneExec s t true with
    | some e => (s.setEng e (setLaneReg (s.eng e) v r)).reply .ok
    | none => s.reply .ok

/-- DEBUG_ACCESS (18 R418): a read, or a write of a value, by the debug port: of the physical space, or of a lane register
(04 R97). -/
def debugAccess (tgt : DbgTarget) (sz : Size) (wr : Option Word) (s : State) : State :=
  match tgt, wr with
  | .bus a, some v => physWrite .dbg a.toNat sz v s
  | .bus a, none => busRead .dbg 0x89 a.toNat sz s
  | .lane t r, some v => laneWrite t r v s
  | .lane t r, none => laneRead t r s

/-- DEBUG_ACCESS (18 R418). -/
def execDebugAccess (tgt : DbgTarget) (sz : Size) (wr : Option Word) (s : State) : Host.Outcome State Fault Refusal :=
  .next (debugAccess tgt sz wr s)

end Sys2Proof.Machine
end

