-- ==== Sys2Proof/Machine/Dispatch.lean ====
section
/-!
DEFINITION. The meaning of each command: one arm per constructor, each a direct call of the meaning in the unit's file.
-/

namespace Sys2Proof.Machine

/-- The effect of a command on everything but the queue. -/
def exec (i : Instr) (s : State) : Host.Outcome State Fault Refusal :=
  match i with
  | .registerWrite w addr sz v => Sys2Proof.Machine.execRegisterWrite w addr sz v s
  | .pewterWriteArrival => Sys2Proof.Machine.execPewterWriteArrival s
  | .vpewPowerUp => Sys2Proof.Machine.execVpewPowerUp s
  | .vpewBelowThreshold => Sys2Proof.Machine.execVpewBelowThreshold s
  | .powerUpResetEnd => Sys2Proof.Machine.execPowerUpResetEnd s
  | .monitorArm => Sys2Proof.Machine.execMonitorArm s
  | .vcoreConnect groupB => Sys2Proof.Machine.execVcoreConnect groupB s
  | .vcoreDisconnect groupB => Sys2Proof.Machine.execVcoreDisconnect groupB s
  | .pfailRise => Sys2Proof.Machine.execPfailRise s
  | .flushComplete => Sys2Proof.Machine.execFlushComplete s
  | .pfailFall => Sys2Proof.Machine.execPfailFall s
  | .brownOut => Sys2Proof.Machine.execBrownOut s
  | .brownOutRecovery => Sys2Proof.Machine.execBrownOutRecovery s
  | .dozeRequest w v => Sys2Proof.Machine.execDozeRequest w v s
  | .pewterRequest w v => Sys2Proof.Machine.execPewterRequest w v s
  | .powerStateEntry => Sys2Proof.Machine.execPowerStateEntry s
  | .wake => Sys2Proof.Machine.execWake s
  | .wakePin => Sys2Proof.Machine.execWakePin s
  | .warmResetSw w v => Sys2Proof.Machine.execWarmResetSw w v s
  | .coldResetSw w v => Sys2Proof.Machine.execColdResetSw w v s
  | .wrstLLow => Sys2Proof.Machine.execWrstLLow s
  | .wrstLRelease => Sys2Proof.Machine.execWrstLRelease s
  | .porstLLow => Sys2Proof.Machine.execPorstLLow s
  | .porstLRelease => Sys2Proof.Machine.execPorstLRelease s
  | .trstLLow => Sys2Proof.Machine.execTrstLLow s
  | .deferredReset => Sys2Proof.Machine.execDeferredReset s
  | .fuseLoad => Sys2Proof.Machine.execFuseLoad s
  | .xaDelayExpiry => Sys2Proof.Machine.execXaDelayExpiry s
  | .xbDelayExpiry => Sys2Proof.Machine.execXbDelayExpiry s
  | .xaConfirmTimeout => Sys2Proof.Machine.execXaConfirmTimeout s
  | .pllLock n => Sys2Proof.Machine.execPllLock n s
  | .memoryInitDone => Sys2Proof.Machine.execMemoryInitDone s
  | .foundryImageDone => Sys2Proof.Machine.execFoundryImageDone s
  | .microcodeLoaded => Sys2Proof.Machine.execMicrocodeLoaded s
  | .bootStopRepeat => Sys2Proof.Machine.execBootStopRepeat s
  | .xaMonitorWindow cnt => Sys2Proof.Machine.execXaMonitorWindow cnt s
  | .xbMonitorWindow cnt => Sys2Proof.Machine.execXbMonitorWindow cnt s
  | .xaStop => Sys2Proof.Machine.execXaStop s
  | .xbStop => Sys2Proof.Machine.execXbStop s
  | .pllUnlock n => Sys2Proof.Machine.execPllUnlock n s
  | .clockRequest d => Sys2Proof.Machine.execClockRequest d s
  | .pllHoldExpiry n => Sys2Proof.Machine.execPllHoldExpiry n s
  | .epllfreqWrite w v => Sys2Proof.Machine.execEpllfreqWrite w v s
  | .replicaSync u val => Sys2Proof.Machine.execReplicaSync u val s
  | .timebaseHandover => Sys2Proof.Machine.execTimebaseHandover s
  | .tbslewWrite w v => Sys2Proof.Machine.execTbslewWrite w v s
  | .timebaseStep w v => Sys2Proof.Machine.execTimebaseStep w v s
  | .tbnsLoRead w => Sys2Proof.Machine.execTbnsLoRead w s
  | .comparatorAllocate w n v => Sys2Proof.Machine.execComparatorAllocate w n v s
  | .comparatorControlWrite w n v => Sys2Proof.Machine.execComparatorControlWrite w n v s
  | .comparatorPeriodWrite w n v => Sys2Proof.Machine.execComparatorPeriodWrite w n v s
  | .comparatorFire n meas => Sys2Proof.Machine.execComparatorFire n meas s
  | .trigEdge n rising => Sys2Proof.Machine.execTrigEdge n rising s
  | .trigStampRead w n => Sys2Proof.Machine.execTrigStampRead w n s
  | .ppsPulseEnd n => Sys2Proof.Machine.execPpsPulseEnd n s
  | .laneOutput t l cyc o => Sys2Proof.Machine.execLaneOutput t l cyc o s
  | .voterWindowExpiry t cyc => Sys2Proof.Machine.execVoterWindowExpiry t cyc s
  | .selfError t err => Sys2Proof.Machine.execSelfError t err s
  | .voterDisagreement t => Sys2Proof.Machine.execVoterDisagreement t s
  | .resync t => Sys2Proof.Machine.execResync t s
  | .resyncDone t pass flushOk => Sys2Proof.Machine.execResyncDone t pass flushOk s
  | .resyncDeferExpiry t => Sys2Proof.Machine.execResyncDeferExpiry t s
  | .modeRequest w t v => Sys2Proof.Machine.execModeRequest w t v s
  | .handoverBoundary t => Sys2Proof.Machine.execHandoverBoundary t s
  | .bistComplete t pass => Sys2Proof.Machine.execBistComplete t pass s
  | .splitComplete t => Sys2Proof.Machine.execSplitComplete t s
  | .mergeComplete t pass => Sys2Proof.Machine.execMergeComplete t pass s
  | .engineError e => Sys2Proof.Machine.execEngineError e s
  | .haltRequest w t v => Sys2Proof.Machine.execHaltRequest w t v s
  | .debugResume w t v => Sys2Proof.Machine.execDebugResume w t v s
  | .debugStep w t v => Sys2Proof.Machine.execDebugStep w t v s
  | .faultInjection w v => Sys2Proof.Machine.execFaultInjection w v s
  | .add e d a b => Sys2Proof.Machine.execAdd e d a b s
  | .sub e d a b => Sys2Proof.Machine.execSub e d a b s
  | .adds e d a b => Sys2Proof.Machine.execAdds e d a b s
  | .subs e d a b => Sys2Proof.Machine.execSubs e d a b s
  | .neg e d a => Sys2Proof.Machine.execNeg e d a s
  | .mul e d a b => Sys2Proof.Machine.execMul e d a b s
  | .muls e d a b => Sys2Proof.Machine.execMuls e d a b s
  | .div e d a b c => Sys2Proof.Machine.execDiv e d a b c s
  | .divu e d a b c => Sys2Proof.Machine.execDivu e d a b c s
  | .and e d a b => Sys2Proof.Machine.execAnd e d a b s
  | .or e d a b => Sys2Proof.Machine.execOr e d a b s
  | .xor e d a b => Sys2Proof.Machine.execXor e d a b s
  | .not e d a => Sys2Proof.Machine.execNot e d a s
  | .shl e d a b => Sys2Proof.Machine.execShl e d a b s
  | .shr e d a b => Sys2Proof.Machine.execShr e d a b s
  | .sar e d a b => Sys2Proof.Machine.execSar e d a b s
  | .rol e d a b => Sys2Proof.Machine.execRol e d a b s
  | .ror e d a b => Sys2Proof.Machine.execRor e d a b s
  | .mov e d a => Sys2Proof.Machine.execMov e d a s
  | .addi e d a imm => Sys2Proof.Machine.execAddi e d a imm s
  | .andi e d a imm => Sys2Proof.Machine.execAndi e d a imm s
  | .ori e d a imm => Sys2Proof.Machine.execOri e d a imm s
  | .xori e d a imm => Sys2Proof.Machine.execXori e d a imm s
  | .movi e d imm => Sys2Proof.Machine.execMovi e d imm s
  | .movhi e d imm => Sys2Proof.Machine.execMovhi e d imm s
  | .shi e d a kind cnt => Sys2Proof.Machine.execShi e d a kind cnt s
  | .ldw e d a imm => Sys2Proof.Machine.execLdw e d a imm s
  | .ldh e d a imm => Sys2Proof.Machine.execLdh e d a imm s
  | .ldhu e d a imm => Sys2Proof.Machine.execLdhu e d a imm s
  | .ldb e d a imm => Sys2Proof.Machine.execLdb e d a imm s
  | .ldbu e d a imm => Sys2Proof.Machine.execLdbu e d a imm s
  | .ldf e d a imm => Sys2Proof.Machine.execLdf e d a imm s
  | .stw e d a imm => Sys2Proof.Machine.execStw e d a imm s
  | .sth e d a imm => Sys2Proof.Machine.execSth e d a imm s
  | .stb e d a imm => Sys2Proof.Machine.execStb e d a imm s
  | .stf e d a imm => Sys2Proof.Machine.execStf e d a imm s
  | .cmpEq e a b => Sys2Proof.Machine.execCmpEq e a b s
  | .cmpNe e a b => Sys2Proof.Machine.execCmpNe e a b s
  | .cmpLt e a b => Sys2Proof.Machine.execCmpLt e a b s
  | .cmpLe e a b => Sys2Proof.Machine.execCmpLe e a b s
  | .cmpGt e a b => Sys2Proof.Machine.execCmpGt e a b s
  | .cmpGe e a b => Sys2Proof.Machine.execCmpGe e a b s
  | .cmpLtu e a b => Sys2Proof.Machine.execCmpLtu e a b s
  | .cmpLeu e a b => Sys2Proof.Machine.execCmpLeu e a b s
  | .cmpGtu e a b => Sys2Proof.Machine.execCmpGtu e a b s
  | .cmpGeu e a b => Sys2Proof.Machine.execCmpGeu e a b s
  | .fcmpEq e a b => Sys2Proof.Machine.execFcmpEq e a b s
  | .fcmpNe e a b => Sys2Proof.Machine.execFcmpNe e a b s
  | .fcmpLt e a b => Sys2Proof.Machine.execFcmpLt e a b s
  | .fcmpLe e a b => Sys2Proof.Machine.execFcmpLe e a b s
  | .fcmpGt e a b => Sys2Proof.Machine.execFcmpGt e a b s
  | .fcmpGe e a b => Sys2Proof.Machine.execFcmpGe e a b s
  | .addf e d a b => Sys2Proof.Machine.execAddf e d a b s
  | .subf e d a b => Sys2Proof.Machine.execSubf e d a b s
  | .mulf e d a b => Sys2Proof.Machine.execMulf e d a b s
  | .divf e d a b => Sys2Proof.Machine.execDivf e d a b s
  | .sqrtf e d a => Sys2Proof.Machine.execSqrtf e d a s
  | .absf e d a => Sys2Proof.Machine.execAbsf e d a s
  | .negf e d a => Sys2Proof.Machine.execNegf e d a s
  | .movf e d a => Sys2Proof.Machine.execMovf e d a s
  | .cvtfw e d a => Sys2Proof.Machine.execCvtfw e d a s
  | .cvtwf e d a => Sys2Proof.Machine.execCvtwf e d a s
  | .movfw e d a => Sys2Proof.Machine.execMovfw e d a s
  | .movwf e d a => Sys2Proof.Machine.execMovwf e d a s
  | .bld e o => Sys2Proof.Machine.execBld e o s
  | .bldn e o => Sys2Proof.Machine.execBldn e o s
  | .band e o => Sys2Proof.Machine.execBand e o s
  | .bandn e o => Sys2Proof.Machine.execBandn e o s
  | .bor e o => Sys2Proof.Machine.execBor e o s
  | .born e o => Sys2Proof.Machine.execBorn e o s
  | .bxor e o => Sys2Proof.Machine.execBxor e o s
  | .bxorn e o => Sys2Proof.Machine.execBxorn e o s
  | .bset e o => Sys2Proof.Machine.execBset e o s
  | .bclr e o => Sys2Proof.Machine.execBclr e o s
  | .basg e o => Sys2Proof.Machine.execBasg e o s
  | .brise e o => Sys2Proof.Machine.execBrise e o s
  | .bfall e o => Sys2Proof.Machine.execBfall e o s
  | .laNot e => Sys2Proof.Machine.execLaNot e s
  | .gopenLd e => Sys2Proof.Machine.execGopenLd e s
  | .gopenAnd e => Sys2Proof.Machine.execGopenAnd e s
  | .gopenOr e => Sys2Proof.Machine.execGopenOr e s
  | .gopenXor e => Sys2Proof.Machine.execGopenXor e s
  | .gopenAndn e => Sys2Proof.Machine.execGopenAndn e s
  | .gopenOrn e => Sys2Proof.Machine.execGopenOrn e s
  | .gopenXorn e => Sys2Proof.Machine.execGopenXorn e s
  | .gclose e => Sys2Proof.Machine.execGclose e s
  | .rdla e d => Sys2Proof.Machine.execRdla e d s
  | .wrla e a => Sys2Proof.Machine.execWrla e a s
  | .tonUs e a b => Sys2Proof.Machine.execTonUs e a b s
  | .tonMs e a b => Sys2Proof.Machine.execTonMs e a b s
  | .tofUs e a b => Sys2Proof.Machine.execTofUs e a b s
  | .tofMs e a b => Sys2Proof.Machine.execTofMs e a b s
  | .tpUs e a b => Sys2Proof.Machine.execTpUs e a b s
  | .tpMs e a b => Sys2Proof.Machine.execTpMs e a b s
  | .ctu e a b => Sys2Proof.Machine.execCtu e a b s
  | .ctd e a b => Sys2Proof.Machine.execCtd e a b s
  | .crst e a => Sys2Proof.Machine.execCrst e a s
  | .cld e a b => Sys2Proof.Machine.execCld e a b s
  | .swap e d a b => Sys2Proof.Machine.execSwap e d a b s
  | .cas e d a b c => Sys2Proof.Machine.execCas e d a b c s
  | .fadd e d a b => Sys2Proof.Machine.execFadd e d a b s
  | .nop e => Sys2Proof.Machine.execNop e s
  | .fence e => Sys2Proof.Machine.execFence e s
  | .cyend e => Sys2Proof.Machine.execCyend e s
  | .eret e => Sys2Proof.Machine.execEret e s
  | .mfsw e d => Sys2Proof.Machine.execMfsw e d s
  | .mtsw e a => Sys2Proof.Machine.execMtsw e a s
  | .jr e a => Sys2Proof.Machine.execJr e a s
  | .callr e a => Sys2Proof.Machine.execCallr e a s
  | .svc e n => Sys2Proof.Machine.execSvc e n s
  | .j e off => Sys2Proof.Machine.execJ e off s
  | .call e off => Sys2Proof.Machine.execCall e off s
  | .jc e off => Sys2Proof.Machine.execJc e off s
  | .jcn e off => Sys2Proof.Machine.execJcn e off s
  | .illegalInstruction e iw => Sys2Proof.Machine.execIllegalInstruction e iw s
  | .retryReissue e => Sys2Proof.Machine.execRetryReissue e s
  | .descriptorWrite w n k v => Sys2Proof.Machine.execDescriptorWrite w n k v s
  | .releaseGroupWrite w g v => Sys2Proof.Machine.execReleaseGroupWrite w g v s
  | .release g => Sys2Proof.Machine.execRelease g s
  | .snapshotComplete n => Sys2Proof.Machine.execSnapshotComplete n s
  | .dispatch e => Sys2Proof.Machine.execDispatch e s
  | .steal e => Sys2Proof.Machine.execSteal e s
  | .budgetExpiry e => Sys2Proof.Machine.execBudgetExpiry e s
  | .commitMarginExpiry n => Sys2Proof.Machine.execCommitMarginExpiry n s
  | .boundary t => Sys2Proof.Machine.execBoundary t s
  | .stop w n => Sys2Proof.Machine.execStop w n s
  | .restart w n => Sys2Proof.Machine.execRestart w n s
  | .reset w n => Sys2Proof.Machine.execReset w n s
  | .partitionResetComplete n => Sys2Proof.Machine.execPartitionResetComplete n s
  | .forceEntryWrite w n k v => Sys2Proof.Machine.execForceEntryWrite w n k v s
  | .forceindWrite w v => Sys2Proof.Machine.execForceindWrite w v s
  | .schedulerEnable w => Sys2Proof.Machine.execSchedulerEnable w s
  | .schedulerDisable w => Sys2Proof.Machine.execSchedulerDisable w s
  | .shedding => Sys2Proof.Machine.execShedding s
  | .takeRequest w => Sys2Proof.Machine.execTakeRequest w s
  | .replyPublish w v => Sys2Proof.Machine.execReplyPublish w v s
  | .regionAttrWrite w k v => Sys2Proof.Machine.execRegionAttrWrite w k v s
  | .scrub line err => Sys2Proof.Machine.execScrub line err s
  | .transferRequest addr req burst => Sys2Proof.Machine.execTransferRequest addr req burst s
  | .targetGrant tgt => Sys2Proof.Machine.execTargetGrant tgt s
  | .holdLimitCutoff tgt => Sys2Proof.Machine.execHoldLimitCutoff tgt s
  | .backgroundAgeExpiry tgt req => Sys2Proof.Machine.execBackgroundAgeExpiry tgt req s
  | .submit w => Sys2Proof.Machine.execSubmit w s
  | .jobStart k => Sys2Proof.Machine.execJobStart k s
  | .segmentBoundary k => Sys2Proof.Machine.execSegmentBoundary k s
  | .jobCompletion k => Sys2Proof.Machine.execJobCompletion k s
  | .dmaCopy k => Sys2Proof.Machine.execDmaCopy k s
  | .dmaFill k => Sys2Proof.Machine.execDmaFill k s
  | .envelopeBuild k => Sys2Proof.Machine.execEnvelopeBuild k s
  | .envelopeCheck k => Sys2Proof.Machine.execEnvelopeCheck k s
  | .sha256 k => Sys2Proof.Machine.execSha256 k s
  | .ed25519Verification k => Sys2Proof.Machine.execEd25519Verification k s
  | .aesCtr k => Sys2Proof.Machine.execAesCtr k s
  | .aesCbcEncrypt k => Sys2Proof.Machine.execAesCbcEncrypt k s
  | .aesCbcDecrypt k => Sys2Proof.Machine.execAesCbcDecrypt k s
  | .cmacGenerate k => Sys2Proof.Machine.execCmacGenerate k s
  | .cmacVerify k => Sys2Proof.Machine.execCmacVerify k s
  | .keyWrite w slot n v => Sys2Proof.Machine.execKeyWrite w slot n v s
  | .keyErase w slot => Sys2Proof.Machine.execKeyErase w slot s
  | .frameReceive p f => Sys2Proof.Machine.execFrameReceive p f s
  | .frameTransmit p => Sys2Proof.Machine.execFrameTransmit p s
  | .followUpExpiry p => Sys2Proof.Machine.execFollowUpExpiry p s
  | .forwardingAgeExpiry vid mac => Sys2Proof.Machine.execForwardingAgeExpiry vid mac s
  | .rxtailWrite w v => Sys2Proof.Machine.execRxtailWrite w v s
  | .txtailWrite w v => Sys2Proof.Machine.execTxtailWrite w v s
  | .channelEnable w n v => Sys2Proof.Machine.execChannelEnable w n v s
  | .pairCfgWrite w k v => Sys2Proof.Machine.execPairCfgWrite w k v s
  | .checkFrame k => Sys2Proof.Machine.execCheckFrame k s
  | .checkLoss p => Sys2Proof.Machine.execCheckLoss p s
  | .linkLoss loss => Sys2Proof.Machine.execLinkLoss loss s
  | .learningFrames k => Sys2Proof.Machine.execLearningFrames k s
  | .linkUp p => Sys2Proof.Machine.execLinkUp p s
  | .scheduledSwap k => Sys2Proof.Machine.execScheduledSwap k s
  | .pairSwap w k => Sys2Proof.Machine.execPairSwap w k s
  | .verifyExpiry k => Sys2Proof.Machine.execVerifyExpiry k s
  | .holdoffExpiry p => Sys2Proof.Machine.execHoldoffExpiry p s
  | .clrfail w k => Sys2Proof.Machine.execClrfail w k s
  | .payloadRead k => Sys2Proof.Machine.execPayloadRead k s
  | .transmitWindow k => Sys2Proof.Machine.execTransmitWindow k s
  | .stolnetFrameReceive p f atUnit => Sys2Proof.Machine.execStolnetFrameReceive p f atUnit s
  | .receiveWindowEnd k => Sys2Proof.Machine.execReceiveWindowEnd k s
  | .starPortExclusion p => Sys2Proof.Machine.execStarPortExclusion p s
  | .lossOfSignal r => Sys2Proof.Machine.execLossOfSignal r s
  | .loopEnd r => Sys2Proof.Machine.execLoopEnd r s
  | .arm w => Sys2Proof.Machine.execArm w s
  | .tableCheck => Sys2Proof.Machine.execTableCheck s
  | .disarm w => Sys2Proof.Machine.execDisarm w s
  | .starReadmit w p => Sys2Proof.Machine.execStarReadmit w p s
  | .ringReadmit w r => Sys2Proof.Machine.execRingReadmit w r s
  | .stolnetEnable w v => Sys2Proof.Machine.execStolnetEnable w v s
  | .stolnetDisable w v => Sys2Proof.Machine.execStolnetDisable w v s
  | .join => Sys2Proof.Machine.execJoin s
  | .grant => Sys2Proof.Machine.execGrant s
  | .joinActivation => Sys2Proof.Machine.execJoinActivation s
  | .joinRetry => Sys2Proof.Machine.execJoinRetry s
  | .backupMasterTakeover => Sys2Proof.Machine.execBackupMasterTakeover s
  | .spareGrantRelease k => Sys2Proof.Machine.execSpareGrantRelease k s
  | .masterSilence => Sys2Proof.Machine.execMasterSilence s
  | .canEnable w n v => Sys2Proof.Machine.execCanEnable w n v s
  | .canFrameReceive n f => Sys2Proof.Machine.execCanFrameReceive n f s
  | .canTransmit n r => Sys2Proof.Machine.execCanTransmit n r s
  | .rxgetWrite w n v => Sys2Proof.Machine.execRxgetWrite w n v s
  | .txputWrite w n v => Sys2Proof.Machine.execTxputWrite w n v s
  | .busOffRecoveryComplete n => Sys2Proof.Machine.execBusOffRecoveryComplete n s
  | .recover w n => Sys2Proof.Machine.execRecover w n s
  | .stuckDominant n => Sys2Proof.Machine.execStuckDominant n s
  | .stuckRelease n => Sys2Proof.Machine.execStuckRelease n s
  | .ardDwellExpiry n => Sys2Proof.Machine.execArdDwellExpiry n s
  | .timingApply n => Sys2Proof.Machine.execTimingApply n s
  | .linkFrame toLogic seq crcOk => Sys2Proof.Machine.execLinkFrame toLogic seq crcOk s
  | .linkLost => Sys2Proof.Machine.execLinkLost s
  | .fieldLinkLoss => Sys2Proof.Machine.execFieldLinkLoss s
  | .commitMessage n => Sys2Proof.Machine.execCommitMessage n s
  | .startMessage => Sys2Proof.Machine.execStartMessage s
  | .filterAccept c => Sys2Proof.Machine.execFilterAccept c s
  | .tspop w => Sys2Proof.Machine.execTspop w s
  | .testPulse k start => Sys2Proof.Machine.execTestPulse k start s
  | .testPulseCheck k => Sys2Proof.Machine.execTestPulseCheck k s
  | .diack w v => Sys2Proof.Machine.execDiack w v s
  | .pulseEnd c => Sys2Proof.Machine.execPulseEnd c s
  | .minimumIntervalExpiry c => Sys2Proof.Machine.execMinimumIntervalExpiry c s
  | .currentLimit c => Sys2Proof.Machine.execCurrentLimit c s
  | .overload c => Sys2Proof.Machine.execOverload c s
  | .thermal c => Sys2Proof.Machine.execThermal c s
  | .groupOvercurrent g => Sys2Proof.Machine.execGroupOvercurrent g s
  | .readbackFault c => Sys2Proof.Machine.execReadbackFault c s
  | .openLoad c => Sys2Proof.Machine.execOpenLoad c s
  | .externalVoltage c => Sys2Proof.Machine.execExternalVoltage c s
  | .vfldLow g => Sys2Proof.Machine.execVfldLow g s
  | .vfdiLow => Sys2Proof.Machine.execVfdiLow s
  | .supplyRestore g => Sys2Proof.Machine.execSupplyRestore g s
  | .faultRecovery c => Sys2Proof.Machine.execFaultRecovery c s
  | .watchdogExpiry => Sys2Proof.Machine.execWatchdogExpiry s
  | .fieldClockError => Sys2Proof.Machine.execFieldClockError s
  | .rearm w => Sys2Proof.Machine.execRearm w s
  | .modeSettleExpiry c => Sys2Proof.Machine.execModeSettleExpiry c s
  | .limiting c => Sys2Proof.Machine.execLimiting c s
  | .limiterOpen c => Sys2Proof.Machine.execLimiterOpen c s
  | .limiterRetry c => Sys2Proof.Machine.execLimiterRetry c s
  | .miswireClear c => Sys2Proof.Machine.execMiswireClear c s
  | .complRaise c => Sys2Proof.Machine.execComplRaise c s
  | .complClear c => Sys2Proof.Machine.execComplClear c s
  | .outerrRaise c => Sys2Proof.Machine.execOuterrRaise c s
  | .outerrClear c => Sys2Proof.Machine.execOuterrClear c s
  | .vloopLow mv => Sys2Proof.Machine.execVloopLow mv s
  | .vloopRestore mv => Sys2Proof.Machine.execVloopRestore mv s
  | .serviceMode w v => Sys2Proof.Machine.execServiceMode w v s
  | .buttonPress span => Sys2Proof.Machine.execButtonPress span s
  | .trimComplete mean => Sys2Proof.Machine.execTrimComplete mean s
  | .hartGo w c v => Sys2Proof.Machine.execHartGo w c v s
  | .hartListen w c v => Sys2Proof.Machine.execHartListen w c v s
  | .hartTransmit c => Sys2Proof.Machine.execHartTransmit c s
  | .hartRxtoExpiry c => Sys2Proof.Machine.execHartRxtoExpiry c s
  | .hartReplyEnd c chars => Sys2Proof.Machine.execHartReplyEnd c chars s
  | .linkEnable w l v => Sys2Proof.Machine.execLinkEnable w l v s
  | .pcieLinkUp l gen width => Sys2Proof.Machine.execPcieLinkUp l gen width s
  | .trainTimeout l => Sys2Proof.Machine.execTrainTimeout l s
  | .ssdReady l n => Sys2Proof.Machine.execSsdReady l n s
  | .readyTimeout l => Sys2Proof.Machine.execReadyTimeout l s
  | .commandTimeout l => Sys2Proof.Machine.execCommandTimeout l s
  | .nvmeCompletion l us => Sys2Proof.Machine.execNvmeCompletion l us s
  | .pcieLinkDown l fatal => Sys2Proof.Machine.execPcieLinkDown l fatal s
  | .format w v => Sys2Proof.Machine.execFormat w v s
  | .mount w v => Sys2Proof.Machine.execMount w v s
  | .unmount w v => Sys2Proof.Machine.execUnmount w v s
  | .volumeCommandComplete => Sys2Proof.Machine.execVolumeCommandComplete s
  | .post w => Sys2Proof.Machine.execPost w s
  | .readJob w => Sys2Proof.Machine.execReadJob w s
  | .readCompletion => Sys2Proof.Machine.execReadCompletion s
  | .flushintExpiry => Sys2Proof.Machine.execFlushintExpiry s
  | .hdrintExpiry => Sys2Proof.Machine.execHdrintExpiry s
  | .postedWrite r n addr sz v => Sys2Proof.Machine.execPostedWrite r n addr sz v s
  | .delayedRead r n addr sz => Sys2Proof.Machine.execDelayedRead r n addr sz s
  | .busCycle => Sys2Proof.Machine.execBusCycle s
  | .ack data => Sys2Proof.Machine.execAck data s
  | .err => Sys2Proof.Machine.execErr s
  | .cycleTimeout => Sys2Proof.Machine.execCycleTimeout s
  | .unclaimedEntryExpiry n => Sys2Proof.Machine.execUnclaimedEntryExpiry n s
  | .semaphoreTake r n k => Sys2Proof.Machine.execSemaphoreTake r n k s
  | .semaphoreRelease r n k => Sys2Proof.Machine.execSemaphoreRelease r n k s
  | .irqChange k asserted => Sys2Proof.Machine.execIrqChange k asserted s
  | .irqStampRead w k => Sys2Proof.Machine.execIrqStampRead w k s
  | .bridgeEnable w v => Sys2Proof.Machine.execBridgeEnable w v s
  | .busReset w v => Sys2Proof.Machine.execBusReset w v s
  | .busResetEnd => Sys2Proof.Machine.execBusResetEnd s
  | .fuseProgram w v => Sys2Proof.Machine.execFuseProgram w v s
  | .fuseProgramDone took => Sys2Proof.Machine.execFuseProgramDone took s
  | .keyLoad w v => Sys2Proof.Machine.execKeyLoad w v s
  | .manifest w key => Sys2Proof.Machine.execManifest w key s
  | .billet w key => Sys2Proof.Machine.execBillet w key s
  | .sealImage w key => Sys2Proof.Machine.execSealImage w key s
  | .erase w key => Sys2Proof.Machine.execErase w key s
  | .mirror w key => Sys2Proof.Machine.execMirror w key s
  | .activate w key => Sys2Proof.Machine.execActivate w key s
  | .cancel w key => Sys2Proof.Machine.execCancel w key s
  | .confirm w key => Sys2Proof.Machine.execConfirm w key s
  | .sload w key => Sys2Proof.Machine.execSload w key s
  | .sstore w key => Sys2Proof.Machine.execSstore w key s
  | .activationInstant => Sys2Proof.Machine.execActivationInstant s
  | .confirmationTimeout => Sys2Proof.Machine.execConfirmationTimeout s
  | .temperatureSample logic field => Sys2Proof.Machine.execTemperatureSample logic field s
  | .fabricCheckDisagreement => Sys2Proof.Machine.execFabricCheckDisagreement s
  | .testEnHigh => Sys2Proof.Machine.execTestEnHigh s
  | .kick w v => Sys2Proof.Machine.execKick w v s
  | .foundryWatchdogExpiry => Sys2Proof.Machine.execFoundryWatchdogExpiry s
  | .debugAccess tgt sz wr => Sys2Proof.Machine.execDebugAccess tgt sz wr s
  | .mdioGo w v => Sys2Proof.Machine.execMdioGo w v s
  | .maintenanceTransmit w v => Sys2Proof.Machine.execMaintenanceTransmit w v s
  | .maintenanceReceive f => Sys2Proof.Machine.execMaintenanceReceive f s
  | .uartTransmit w v => Sys2Proof.Machine.execUartTransmit w v s
  | .uartRead w => Sys2Proof.Machine.execUartRead w s
  | .uartReceive b => Sys2Proof.Machine.execUartReceive b s
  | .pinOwnershipWrite w n v => Sys2Proof.Machine.execPinOwnershipWrite w n v s
  | .starLinkLoss p => Sys2Proof.Machine.execStarLinkLoss p s
  | .stolnetLinkUp p => Sys2Proof.Machine.execStolnetLinkUp p s
  | .rawInputChange c level => Sys2Proof.Machine.execRawInputChange c level s
  | .currentLimitEnd c => Sys2Proof.Machine.execCurrentLimitEnd c s
  | .openLoadClear c => Sys2Proof.Machine.execOpenLoadClear c s
  | .extvClear c => Sys2Proof.Machine.execExtvClear c s
  | .limitingEnd c => Sys2Proof.Machine.execLimitingEnd c s
  | .carrierDetect c => Sys2Proof.Machine.execCarrierDetect c s
  | .mdioComplete data => Sys2Proof.Machine.execMdioComplete data s
  | .uartByteSent => Sys2Proof.Machine.execUartByteSent s

end Sys2Proof.Machine
end

