-- ==== Sys2Proof/Safety.lean ====
section
/-!
DEFINITION. What claims call safe, and the conditions and results that claims about instructions name: an executor that
executes the instruction at its PC, and the state that an instruction leaves.
-/

namespace Sys2Proof.Machine

/-! ### Safe runs -/

/-- The step at s completes: no fault, no refusal. -/
def Completes (s : State) : Prop := ∃ t, step s = .next t

/-- The committed pointer of partition n names its safe image (07 R174). -/
def SafeImage (s : State) (n : Nat) : Prop := s.commAddr n = s.safeAddr n

/-- Nothing executes: the device is in the fatal halt (18 R413). -/
def Halted (s : State) : Prop := s.pwr.fatal = true

/-! ### Instructions -/

/-- An armed injection of kind SELF would apply to the next instruction of executor e (04 R98). -/
def selfArmed (s : State) (e : Exe) : Bool :=
  match (s.triad (e.val / 3)).inj with
  | some (_, k) => k = 2 && execAlloy s e.val
  | none => false

/-- Executor e executes the instruction at its PC: it runs a job, nothing holds it, no injection is due, and the fetch
succeeds (04 R97, R98, 05 R121, 08 R194). -/
def issues (s : State) (e : Exe) : Bool :=
  mayIssue s e.val && !selfArmed s e &&
    (match fetchAt s e.val with
     | some pa => s.sound pa 4
     | none => false)

/-- W[r] of executor e. -/
abbrev State.W (s : State) (e : Exe) (r : WReg) : Word := (s.eng e.val).getW r
/-- F[r] of executor e. -/
abbrev State.F (s : State) (e : Exe) (r : FReg) : Word := (s.eng e.val).getF r
/-- LA of executor e. -/
abbrev State.LA (s : State) (e : Exe) : Bool := (s.eng e.val).la
/-- PC of executor e. -/
abbrev State.PC (s : State) (e : Exe) : Word := (s.eng e.val).pc
/-- A flag of executor e: Z 0, N 1, C 2, V 3, DZ 4 (05 R107). -/
abbrev State.flag (s : State) (e : Exe) (k : Nat) : Bool := (s.eng e.val).fl.getLsbD k

/-- FL from C, V, DZ and a result that gives Z and N (05 R115). -/
def flWord (v : Word) (c o dz : Bool) : BitVec 5 :=
  BitVec.ofBool dz ++ BitVec.ofBool o ++ BitVec.ofBool c ++ BitVec.ofBool (v.getLsbD 31) ++ BitVec.ofBool (v == 0)

/-- The state after an instruction of executor e that wrote v to W[d], set FL and changed nothing else. -/
def wrote (s : State) (e : Exe) (d : WReg) (v : Word) (fl : BitVec 5) : State :=
  s.setEng e.val { (s.eng e.val).setW d v with fl := fl, pc := s.PC e + 4 }

/-- The state after an instruction of executor e that changed its own registers by f and nothing else. -/
def did (s : State) (e : Exe) (f : Engine → Engine) : State :=
  s.setEng e.val { f (s.eng e.val) with pc := s.PC e + 4 }

end Sys2Proof.Machine
end

