-- ==== Sys2Proof/Certificates/Slice0/Obligations.lean ====
section
/-!
DEFINITION. The statements for the provers, in the order of OBLIGATIONS.json.
-/

open Sys2Proof Sys2Proof.Machine

/-- For every executor that issues and whose status word masks the V trap, ADD, SUB, NEG, MUL and ADDI answer the state in which W[d] holds the wrapped result, FL has Z and N of the result, C and V as R115 gives them and DZ as before, PC is the next instruction, and nothing else has changed. -/
def Obligations.WordArithmetic : Prop :=
  ∀ (s : State) (e : Exe) (d a b : WReg) (imm : BitVec 16), issues s e = true → (s.eng e.val).sw.getLsbD 4 = false →
    let x := s.W e a
    let y := s.W e b
    let z := imm.signExtend 32
    let dz := s.flag e 4
    exec (.add e d a b) s =
      .next (wrote s e d (x + y) (flWord (x + y) (decide (2 ^ 32 ≤ x.toNat + y.toNat)) (x.saddOverflow y) dz)) ∧
    exec (.sub e d a b) s =
      .next (wrote s e d (x - y) (flWord (x - y) (decide (y.toNat ≤ x.toNat)) (x.ssubOverflow y) dz)) ∧
    exec (.neg e d a) s =
      .next (wrote s e d (0 - x) (flWord (0 - x) (decide (x = 0)) (decide (x = 0x80000000)) dz)) ∧
    exec (.mul e d a b) s =
      .next (wrote s e d (x * y) (flWord (x * y) false (x.smulOverflow y) dz)) ∧
    exec (.addi e d a imm) s =
      .next (wrote s e d (x + z) (flWord (x + z) (decide (2 ^ 32 ≤ x.toNat + z.toNat)) (x.saddOverflow z) dz))

/-- For every executor that issues, whatever its trap masks, ADDS, SUBS and MULS answer the state in which W[d] holds the exact signed sum, difference or product clamped to the word range, V says whether it was clamped, C is as for ADD and SUB and 0 for MULS, Z and N follow the result, DZ is as before, PC is the next instruction and nothing else has changed. -/
def Obligations.SaturatingArithmetic : Prop :=
  ∀ (s : State) (e : Exe) (d a b : WReg), issues s e = true →
    let x := s.W e a
    let y := s.W e b
    let clamp : Int → Word := fun n =>
      if 2147483647 < n then 0x7FFFFFFF else if n < -2147483648 then 0x80000000 else BitVec.ofInt 32 n
    let out : Int → Bool := fun n => decide (2147483647 < n) || decide (n < -2147483648)
    let sum := x.toInt + y.toInt
    let dif := x.toInt - y.toInt
    let pro := x.toInt * y.toInt
    exec (.adds e d a b) s = .next (wrote s e d (clamp sum)
      (flWord (clamp sum) (decide (2 ^ 32 ≤ x.toNat + y.toNat)) (out sum) (s.flag e 4))) ∧
    exec (.subs e d a b) s = .next (wrote s e d (clamp dif)
      (flWord (clamp dif) (decide (y.toNat ≤ x.toNat)) (out dif) (s.flag e 4))) ∧
    exec (.muls e d a b) s = .next (wrote s e d (clamp pro) (flWord (clamp pro) false (out pro) (s.flag e 4)))

/-- For every executor that issues: AND, OR, XOR, NOT and their immediate forms write the bitwise result with Z and N of it, V = 0, C and DZ as before; MOV, MOVI and MOVHI write their value and leave FL; PC is the next instruction and nothing else changes. -/
def Obligations.LogicAndMoves : Prop :=
  ∀ (s : State) (e : Exe) (d a b : WReg) (imm : BitVec 16), issues s e = true →
    let x := s.W e a
    let y := s.W e b
    let z := imm.setWidth 32
    let logic : Word → Host.Outcome State Fault Refusal := fun v =>
      .next (wrote s e d v (flWord v (s.flag e 2) false (s.flag e 4)))
    let moved : Word → Host.Outcome State Fault Refusal := fun v => .next (wrote s e d v (s.eng e.val).fl)
    exec (.and e d a b) s = logic (x &&& y) ∧ exec (.or e d a b) s = logic (x ||| y) ∧
    exec (.xor e d a b) s = logic (x ^^^ y) ∧ exec (.not e d a) s = logic (~~~ x) ∧
    exec (.andi e d a imm) s = logic (x &&& z) ∧ exec (.ori e d a imm) s = logic (x ||| z) ∧
    exec (.xori e d a imm) s = logic (x ^^^ z) ∧
    exec (.mov e d a) s = moved x ∧ exec (.movi e d imm) s = moved (imm.signExtend 32) ∧
    exec (.movhi e d imm) s = moved (BitVec.ofNat 32 (imm.toNat * 65536))

/-- For every executor that issues and n = bits 7:0 of the count: SHL, SHR, SAR, ROL, ROR and the five kinds of SHI write the shifted word with Z and N of it, V = 0 and DZ as before. C is unchanged for n = 0; for the shifts it is the last bit out up to n = 32 and 0 beyond; for the rotates it is unchanged where n mod 32 = 0 and else new bit 0 (ROL) or new bit 31 (ROR). Nothing else changes. -/
def Obligations.ShiftsByCount : Prop :=
  ∀ (s : State) (e : Exe) (d a b : WReg) (cnt : BitVec 8), issues s e = true →
    let x := s.W e a
    let done : Word → Bool → Host.Outcome State Fault Refusal := fun v c =>
      .next (wrote s e d v (flWord v c false (s.flag e 4)))
    let cOf : Nat → Bool → Bool := fun n last =>
      if n = 0 then s.flag e 2 else if n ≤ 32 then last else false
    let shl : Nat → Host.Outcome State Fault Refusal := fun n => done (x <<< n) (cOf n (x.getLsbD (32 - n)))
    let shr : Nat → Host.Outcome State Fault Refusal := fun n => done (x >>> n) (cOf n (x.getLsbD (n - 1)))
    let sar : Nat → Host.Outcome State Fault Refusal := fun n => done (x.sshiftRight n) (cOf n (x.getLsbD (n - 1)))
    let rol : Nat → Host.Outcome State Fault Refusal := fun n =>
      done (x.rotateLeft (n % 32)) (if n % 32 = 0 then s.flag e 2 else (x.rotateLeft (n % 32)).getLsbD 0)
    let ror : Nat → Host.Outcome State Fault Refusal := fun n =>
      done (x.rotateRight (n % 32)) (if n % 32 = 0 then s.flag e 2 else (x.rotateRight (n % 32)).getLsbD 31)
    let n := (s.W e b).toNat % 256
    exec (.shl e d a b) s = shl n ∧ exec (.shr e d a b) s = shr n ∧ exec (.sar e d a b) s = sar n ∧
    exec (.rol e d a b) s = rol n ∧ exec (.ror e d a b) s = ror n ∧
    exec (.shi e d a 0 cnt) s = shl cnt.toNat ∧ exec (.shi e d a 1 cnt) s = shr cnt.toNat ∧
    exec (.shi e d a 2 cnt) s = sar cnt.toNat ∧ exec (.shi e d a 3 cnt) s = rol cnt.toNat ∧
    exec (.shi e d a 4 cnt) s = ror cnt.toNat

/-- For every executor that issues with the DZ and V traps masked off, DIV and DIVU answer the state in which W[d] and then W[c] were written with quotient and remainder of W[a] and W[b] as they stood before: by a zero divisor quotient 0, remainder the dividend, DZ = 1, V = 0; signed 8000_0000h by FFFF_FFFFh gives 8000_0000h, 0, V = 1; else truncating division, V = DZ = 0. C is 0, Z and N follow the quotient, PC is the next instruction, nothing else changes. -/
def Obligations.DivisionResults : Prop :=
  ∀ (s : State) (e : Exe) (d a b c : WReg), issues s e = true →
    (s.eng e.val).sw.getLsbD 3 = false → (s.eng e.val).sw.getLsbD 4 = false →
    let x := s.W e a
    let y := s.W e b
    let done : Word → Word → Bool → Host.Outcome State Fault Refusal := fun q r v =>
      .next (did s e (fun g => { (g.setW d q).setW c r with fl := flWord q false v (decide (y = 0)) }))
    (y = 0 → exec (.div e d a b c) s = done 0 x false ∧ exec (.divu e d a b c) s = done 0 x false) ∧
    (y ≠ 0 → exec (.divu e d a b c) s = done (x / y) (x % y) false) ∧
    (x = 0x80000000 → y = 0xFFFFFFFF → exec (.div e d a b c) s = done 0x80000000 0 true) ∧
    (y ≠ 0 → ¬ (x = 0x80000000 ∧ y = 0xFFFFFFFF) →
      exec (.div e d a b c) s = done (BitVec.ofInt 32 (x.toInt.tdiv y.toInt)) (BitVec.ofInt 32 (x.toInt.tmod y.toInt)) false)

/-- For every executor that issues: with TDZ = 1 a division by 0 first writes its destinations and FL and then raises exception 6, and with TV = 1 an ADD, SUB, MUL or ADDI whose signed result overflows first writes its result and FL and then raises exception 7, each with the address of the following instruction as frame PC, status 00h and address 0, whatever V and DZ were before. -/
def Obligations.ArithmeticTraps : Prop :=
  ∀ (s : State) (e : Exe) (d a b c : WReg) (imm : BitVec 16), issues s e = true →
    let x := s.W e a
    let y := s.W e b
    let z := imm.signExtend 32
    let trap : Nat → State → Host.Outcome State Fault Refusal := fun n t => .next (raise e.val n .ok 0 (s.PC e + 4) t)
    ((s.eng e.val).sw.getLsbD 3 = true → y = 0 →
      exec (.div e d a b c) s = trap 6 (did s e (fun g => { (g.setW d 0).setW c x with fl := flWord 0 false false true })) ∧
      exec (.divu e d a b c) s = trap 6 (did s e (fun g => { (g.setW d 0).setW c x with fl := flWord 0 false false true }))) ∧
    ((s.eng e.val).sw.getLsbD 4 = true →
      (x.saddOverflow y = true → exec (.add e d a b) s =
        trap 7 (wrote s e d (x + y) (flWord (x + y) (decide (2 ^ 32 ≤ x.toNat + y.toNat)) true (s.flag e 4)))) ∧
      (x.ssubOverflow y = true → exec (.sub e d a b) s =
        trap 7 (wrote s e d (x - y) (flWord (x - y) (decide (y.toNat ≤ x.toNat)) true (s.flag e 4)))) ∧
      (x.smulOverflow y = true → exec (.mul e d a b) s =
        trap 7 (wrote s e d (x * y) (flWord (x * y) false true (s.flag e 4)))) ∧
      (x.saddOverflow z = true → exec (.addi e d a imm) s =
        trap 7 (wrote s e d (x + z) (flWord (x + z) (decide (2 ^ 32 ≤ x.toNat + z.toNat)) true (s.flag e 4)))))

/-- With EXC = 1 an exception is unhandled: its number and frame PC are recorded and the job ends. With EXC = 0, a 4-byte-aligned vector table, readable words h at entry n and f at entry 15 whose reads change nothing, h a nonzero multiple of 4, f a frame address in writable private memory at physical pa whose line is sound, exception n leaves: the 32 frame bytes in the executor's private lines at pa, EXC = 1, PC = h, the model's note that this entry is the last thing the executor did, and everything else as it was. -/
def Obligations.ExceptionEntry : Prop :=
  ∀ (s : State) (e : Exe) (n : Nat) (st : Status) (addr fpc h f : Word) (pa : Nat),
    let g := s.eng e.val
    let fb := wordBytes [fpc, g.sw &&& ~~~ bit 14, wd (g.nest.length * 65536 + b2n g.la * 256 + g.fl.toNat),
      wd (n * 2 ^ 24 + st.code), addr, 0] ++ leBytes 8 (nestBits g.nest)
    (g.sw.getLsbD 14 = true → raise e.val n st addr fpc s = exceptionEnd e.val n fpc s) ∧
    (g.sw.getLsbD 14 = false → fld (s.rdA .schPdVecS (s.jobOf e.val)) 0 2 = 0 →
      vecWord e.val n s = (some h, s) → vecWord e.val 15 s = (some f, s) →
      h ≠ 0 → fld h 0 2 = 0 → frameAt s (s.jobOf e.val) f.toNat = some pa → s.sound pa 32 = true →
      raise e.val n st addr fpc s =
        s.setEng e.val { g with dirty := dirtyPut pa fb g.dirty, sw := g.sw ||| bit 14, pc := h, frame := some (pa, h) })

/-- For every executor that issues: the ten word compares load LA with the signed or unsigned comparison of W[a] with W[b], the six float compares with the comparison of F[a] with F[b] by value, where a NaN operand makes every one false but not-equal; FL and all else are unchanged and PC is the next instruction. -/
def Obligations.Compares : Prop :=
  ∀ (s : State) (e : Exe) (a b : WReg) (p q : FReg), issues s e = true →
    let x := s.W e a
    let y := s.W e b
    let u := s.F e p
    let v := s.F e q
    let nan := isNaN u || isNaN v
    let la : Bool → Host.Outcome State Fault Refusal := fun r => .next (did s e (fun g => { g with la := r }))
    exec (.cmpEq e a b) s = la (decide (x.toInt = y.toInt)) ∧ exec (.cmpNe e a b) s = la (decide (x.toInt ≠ y.toInt)) ∧
    exec (.cmpLt e a b) s = la (decide (x.toInt < y.toInt)) ∧ exec (.cmpLe e a b) s = la (decide (x.toInt ≤ y.toInt)) ∧
    exec (.cmpGt e a b) s = la (decide (x.toInt > y.toInt)) ∧ exec (.cmpGe e a b) s = la (decide (x.toInt ≥ y.toInt)) ∧
    exec (.cmpLtu e a b) s = la (decide (x.toNat < y.toNat)) ∧ exec (.cmpLeu e a b) s = la (decide (x.toNat ≤ y.toNat)) ∧
    exec (.cmpGtu e a b) s = la (decide (x.toNat > y.toNat)) ∧ exec (.cmpGeu e a b) s = la (decide (x.toNat ≥ y.toNat)) ∧
    exec (.fcmpEq e p q) s = la (!nan && decide (fVal u = fVal v)) ∧
    exec (.fcmpNe e p q) s = la (nan || decide (fVal u ≠ fVal v)) ∧
    exec (.fcmpLt e p q) s = la (!nan && decide (fVal u < fVal v)) ∧
    exec (.fcmpLe e p q) s = la (!nan && decide (fVal u ≤ fVal v)) ∧
    exec (.fcmpGt e p q) s = la (!nan && decide (fVal u > fVal v)) ∧
    exec (.fcmpGe e p q) s = la (!nan && decide (fVal u ≥ fVal v))

/-- For every executor that issues with TFINV, TFDZ and TFOVF 0: each arithmetic and conversion instruction writes the rounded result of its operation to its destination, sets the sticky flags of the conditions it raised and leaves FL and all else; MOVF, MOVFW and MOVWF copy 32 bits and raise nothing. PC is the next instruction. -/
def Obligations.FloatCompletes : Prop :=
  ∀ (s : State) (e : Exe) (d a b : FReg) (w : WReg), issues s e = true →
    (s.eng e.val).sw.getLsbD 5 = false → (s.eng e.val).sw.getLsbD 6 = false → (s.eng e.val).sw.getLsbD 7 = false →
    let x := s.F e a
    let y := s.F e b
    let fdone : FRes → Host.Outcome State Fault Refusal := fun r =>
      .next (did s e (fun g => { g.setF d r.1 with sw := stick r.2 g.sw }))
    exec (.addf e d a b) s = fdone (addF x y) ∧ exec (.subf e d a b) s = fdone (subF x y) ∧
    exec (.mulf e d a b) s = fdone (mulF x y) ∧ exec (.divf e d a b) s = fdone (divF x y) ∧
    exec (.sqrtf e d a) s = fdone (sqrtF x) ∧ exec (.absf e d a) s = fdone (absF x) ∧
    exec (.negf e d a) s = fdone (negF x) ∧ exec (.cvtwf e d w) s = fdone (cvtWF (s.W e w)) ∧
    exec (.cvtfw e w a) s =
      .next (did s e (fun g => { g.setW w (cvtFW x).1 with sw := stick (cvtFW x).2 g.sw })) ∧
    exec (.movf e d a) s = .next (did s e (fun g => g.setF d x)) ∧
    exec (.movfw e w a) s = .next (did s e (fun g => g.setW w x)) ∧
    exec (.movwf e d w) s = .next (did s e (fun g => g.setF d (s.W e w)))

/-- Every operation with a NaN operand gives 7FC0_0000h, with FINV exactly where an operand is signalling; 0/0, inf/inf, inf - inf, 0 x inf and the square root of a value below -0 give 7FC0_0000h with FINV; a finite nonzero value over zero gives a signed infinity with FDZ alone; CVTFW of a NaN gives 0 with FINV; ABSF and NEGF of a non-NaN act on the sign bit and raise nothing. -/
def Obligations.FloatSpecialValues : Prop :=
  ∀ (x y : Word),
    (isNaN x = true ∨ isNaN y = true →
      let r : FRes := (0x7FC00000, { inv := isSNaN x || isSNaN y })
      addF x y = r ∧ subF x y = r ∧ mulF x y = r ∧ divF x y = r) ∧
    (isNaN x = true →
      let r : FRes := (0x7FC00000, { inv := isSNaN x })
      sqrtF x = r ∧ absF x = r ∧ negF x = r ∧ cvtFW x = (0, { inv := true })) ∧
    (isZero x = true → isZero y = true → divF x y = (0x7FC00000, { inv := true })) ∧
    (isInf x = true → isInf y = true → divF x y = (0x7FC00000, { inv := true })) ∧
    (isInf x = true → isInf y = true → fNeg x = fNeg y → subF x y = (0x7FC00000, { inv := true })) ∧
    (isInf x = true → isZero y = true →
      mulF x y = (0x7FC00000, { inv := true }) ∧ mulF y x = (0x7FC00000, { inv := true })) ∧
    (isNaN x = false → isZero x = false → fNeg x = true → sqrtF x = (0x7FC00000, { inv := true })) ∧
    (isNaN x = false → isInf x = false → isZero x = false → isZero y = true →
      divF x y = (if fNeg x = fNeg y then 0x7F800000 else 0xFF800000, { dz := true })) ∧
    (isNaN x = false → absF x = (x &&& 0x7FFFFFFF, {}) ∧ negF x = (x ^^^ 0x80000000, {}))

/-- For every executor that issues and an effective address aligned to the access whose page the region table lets the partition read, lying in memory with sound lines, where the executor's caches hold no byte that another unit has overwritten (the value is then free, log 161): LDW, LDH, LDHU, LDB, LDBU and LDF write the little-endian value of the bytes as the executor sees them (its own dirty bytes over memory), sign- or zero-extended as named, and change nothing else but PC. -/
def Obligations.LoadsReadLittleEndian : Prop :=
  ∀ (s : State) (e : Exe) (d a : WReg) (f : FReg) (imm : BitVec 16) (pa : Nat) (sh : Bool), issues s e = true →
    let ea := s.W e a + imm.signExtend 32
    let val : Nat → Nat := fun n => leNat (overlay (s.eng e.val).dirty pa (s.bytes pa n))
    0x40000 ≤ ea.toNat → s.xlate (s.jobOf e.val) .load ea.toNat = some (pa, sh) → isMem pa 4 = true →
    s.sound pa 4 = true → (s.eng e.val).stale = [] →
    (ea.toNat % 4 = 0 →
      exec (.ldw e d a imm) s = .next (did s e (fun g => g.setW d (BitVec.ofNat 32 (val 4)))) ∧
      exec (.ldf e f a imm) s = .next (did s e (fun g => g.setF f (BitVec.ofNat 32 (val 4))))) ∧
    (ea.toNat % 2 = 0 →
      exec (.ldh e d a imm) s = .next (did s e (fun g => g.setW d ((BitVec.ofNat 16 (val 2)).signExtend 32))) ∧
      exec (.ldhu e d a imm) s = .next (did s e (fun g => g.setW d ((BitVec.ofNat 16 (val 2)).setWidth 32)))) ∧
    (exec (.ldb e d a imm) s = .next (did s e (fun g => g.setW d ((BitVec.ofNat 8 (val 1)).signExtend 32))) ∧
      exec (.ldbu e d a imm) s = .next (did s e (fun g => g.setW d ((BitVec.ofNat 8 (val 1)).setWidth 32))))

/-- For every executor that issues and an effective address, aligned to the access, in a region the partition may write that is private memory with sound lines: STW, STH, STB and STF leave the state in which exactly the stored little-endian bytes at that physical address are the executor's dirty bytes, PC is the next instruction, and every byte of memory and all other state are as before. -/
def Obligations.PrivateStores : Prop :=
  ∀ (s : State) (e : Exe) (d a : WReg) (f : FReg) (imm : BitVec 16) (pa : Nat), issues s e = true →
    let ea := s.W e a + imm.signExtend 32
    let put : List Byte → Host.Outcome State Fault Refusal := fun bs =>
      .next (did s e (fun g => { g with dirty := dirtyPut pa bs g.dirty }))
    0x40000 ≤ ea.toNat → s.xlate (s.jobOf e.val) .store ea.toNat = some (pa, false) → isMem pa 4 = true →
    s.sound pa 4 = true →
    (ea.toNat % 4 = 0 →
      exec (.stw e d a imm) s = put (leBytes 4 (s.W e d).toNat) ∧
      exec (.stf e f a imm) s = put (leBytes 4 (s.F e f).toNat)) ∧
    (ea.toNat % 2 = 0 → exec (.sth e d a imm) s = put (leBytes 2 (s.W e d).toNat)) ∧
    exec (.stb e d a imm) s = put (leBytes 1 (s.W e d).toNat)

/-- For every executor that issues and a 4-byte-aligned effective address whose region entry lets the partition store and is shared memory at physical pa, with sound lines and pa 4-byte aligned: STW answers a state in which the four bytes at pa are the little-endian bytes of W[d], every other byte of memory, every register and every unit is as before, the executor's own registers are as before but for PC, and its dirty bytes at pa are dropped. -/
def Obligations.SharedStores : Prop :=
  ∀ (s : State) (e : Exe) (d a : WReg) (imm : BitVec 16) (pa : Nat), issues s e = true →
    let ea := s.W e a + imm.signExtend 32
    0x40000 ≤ ea.toNat → ea.toNat % 4 = 0 → s.xlate (s.jobOf e.val) .store ea.toNat = some (pa, true) →
    isMem pa 4 = true → pa % 4 = 0 → s.sound pa 4 = true →
    ∃ t, exec (.stw e d a imm) s = .next t ∧
      (∀ k, k < 4 → t.byte (pa + k) = BitVec.ofNat 8 ((s.W e d).toNat / 256 ^ k)) ∧
      (∀ x, x < pa ∨ pa + 4 ≤ x → t.byte x = s.byte x) ∧
      t.eng e.val = { (s.eng e.val) with pc := s.PC e + 4, dirty := dirtyDrop pa 4 (s.eng e.val).dirty } ∧
      t.regs = s.regs ∧ t.poison = s.poison ∧ t.parts = s.parts ∧ t.triads = s.triads ∧ t.sto = s.sto ∧ t.fuses = s.fuses

/-- For every executor that issues: LDW and STW at an address that is not a multiple of 4 raise exception 2 with the address; at an aligned address at or above 4_0000h for which no region entry grants the right they raise exception 4 with status DENIED and the address; a store to II, the job information block, the reply slots or the reserved windows raises exception 4 with DENIED. Each exception is raised on the unchanged state with the instruction's own address as frame PC. -/
def Obligations.AccessFaults : Prop :=
  ∀ (s : State) (e : Exe) (d a : WReg) (imm : BitVec 16), issues s e = true →
    let ea := s.W e a + imm.signExtend 32
    let deny : Host.Outcome State Fault Refusal := .next (raise e.val 4 .denied ea (s.PC e) s)
    (ea.toNat % 4 ≠ 0 →
      exec (.ldw e d a imm) s = .next (raise e.val 2 .ok ea (s.PC e) s) ∧
      exec (.stw e d a imm) s = .next (raise e.val 2 .ok ea (s.PC e) s)) ∧
    (ea.toNat % 4 = 0 → 0x40000 ≤ ea.toNat → s.xlate (s.jobOf e.val) .load ea.toNat = none →
      exec (.ldw e d a imm) s = deny) ∧
    (ea.toNat % 4 = 0 → 0x40000 ≤ ea.toNat → s.xlate (s.jobOf e.val) .store ea.toNat = none →
      exec (.stw e d a imm) s = deny) ∧
    (ea.toNat % 4 = 0 → ea.toNat < 0x10000 ∨ (0x30000 ≤ ea.toNat ∧ ea.toNat < 0x40000) →
      exec (.stw e d a imm) s = deny)

/-- For every executor that issues and a legal operand whose byte the windows or the region table give at a private physical byte pa (with the writing right where the form writes) with sound lines and no byte in the caches that another unit has overwritten (log 161), b being the addressed bit as the executor sees it: the eight reading forms combine LA with b or not b and write nothing; BSET and BCLR write 1 or 0 where LA is 1 and nothing where it is 0; BASG writes LA; BRISE gives LA and not b, BFALL b and not LA, both writing the old LA. Only LA, PC and that byte of the executor's dirty lines change. -/
def Obligations.BitInstructionsOnPrivateBytes : Prop :=
  ∀ (s : State) (e : Exe) (o : BitOpd) (pa : Nat), issues s e = true → isMem pa 1 = true → s.sound pa 1 = true → (s.eng e.val).stale = [] →
    isRack pa = false →
    let p := bitPlace (s.eng e.val) o
    let n := s.jobOf e.val
    let old := (overlay (s.eng e.val).dirty pa (s.bytes pa 1)).headD 0
    let b := old.getLsbD p.2.2
    let l := s.LA e
    let la : Bool → Host.Outcome State Fault Refusal := fun r => .next (did s e (fun g => { g with la := r }))
    let put : Bool → Bool → Host.Outcome State Fault Refusal := fun r v =>
      .next (did s e (fun g => { g with la := r, dirty := dirtyPut pa [setBitOf old p.2.2 v] g.dirty }))
    (bitLegal false o = true → bitByte s n false p = some (pa, true) →
      exec (.bld e o) s = la b ∧ exec (.bldn e o) s = la (!b) ∧ exec (.band e o) s = la (l && b) ∧
      exec (.bandn e o) s = la (l && !b) ∧ exec (.bor e o) s = la (l || b) ∧ exec (.born e o) s = la (l || !b) ∧
      exec (.bxor e o) s = la (l != b) ∧ exec (.bxorn e o) s = la (l != !b)) ∧
    (bitLegal false o = true → bitByte s n true p = some (pa, true) →
      exec (.bset e o) s = (if l then put l true else la l) ∧
      exec (.bclr e o) s = (if l then put l false else la l) ∧
      exec (.basg e o) s = put l l) ∧
    (bitLegal true o = true → bitByte s n true p = some (pa, true) →
      exec (.brise e o) s = put (l && !b) l ∧ exec (.bfall e o) s = put (b && !l) l)

/-- For every executor that issues: BASG, BSET and BCLR on a bit of II raise exception 4 with status DENIED and the byte's virtual address, whatever LA is; so does BLD on a byte of II, OI or MK at or beyond the size of the partition's image. A timer instruction whose W[a] is not a multiple of 8 and a counter instruction whose W[a] is not a multiple of 4 raise exception 2 with that address; with the address aligned but its bytes not wholly in MK or in readable and writable private data they raise exception 4 with status DENIED. Each exception is raised on the unchanged state with the instruction's own address as frame PC. -/
def Obligations.BitAndBlockRefusals : Prop :=
  ∀ (s : State) (e : Exe) (sp : BitVec 2) (y : BitVec 16) (k : BitVec 3) (a b : WReg), issues s e = true →
    let n := s.jobOf e.val
    let va := s.W e a
    let raised (c : Nat) (v : Word) : Host.Outcome State Fault Refusal :=
      .next (raise e.val c (if c = 4 then .denied else .ok) v (s.PC e) s)
    let bits := raised 4 (BitVec.ofNat 32 (sp.toNat * 65536 + y.toNat))
    (sp = 0 → exec (.basg e (.direct sp y k)) s = bits ∧ exec (.bset e (.direct sp y k)) s = bits ∧
      exec (.bclr e (.direct sp y k)) s = bits) ∧
    (sp = 0 → s.iiSize n ≤ y.toNat → exec (.bld e (.direct sp y k)) s = bits) ∧
    (sp = 1 → s.oiSize n ≤ y.toNat → exec (.bld e (.direct sp y k)) s = bits) ∧
    (sp = 2 → s.mkSize n ≤ y.toNat → exec (.bld e (.direct sp y k)) s = bits) ∧
    (va.toNat % 8 ≠ 0 → exec (.tonUs e a b) s = raised 2 va ∧ exec (.tofMs e a b) s = raised 2 va ∧ exec (.tpUs e a b) s = raised 2 va) ∧
    (va.toNat % 4 ≠ 0 → exec (.ctu e a b) s = raised 2 va ∧ exec (.crst e a) s = raised 2 va) ∧
    (va.toNat % 8 = 0 → privSpan s n va.toNat 16 = none → exec (.tonMs e a b) s = raised 4 va) ∧
    (va.toNat % 4 = 0 → privSpan s n va.toNat 8 = none → exec (.ctd e a b) s = raised 4 va ∧ exec (.cld e a b) s = raised 4 va)

/-- For every executor that issues: NOT inverts LA, RDLA writes LA zero-extended to W[d], WRLA loads LA with W[a] being nonzero. Below depth 16 each bracket open pushes bit 3 = LA and its operation code and leaves LA; at depth 16 it raises exception 5 with stack and LA as before. A close pops the top entry n and leaves LA for code 000b, else its saved LA combined with LA by the operation; at depth 0 it raises exception 5. Nothing else changes but PC. -/
def Obligations.BracketsAndAccumulator : Prop :=
  ∀ (s : State) (e : Exe) (d a : WReg), issues s e = true →
    let l := s.LA e
    let nst := (s.eng e.val).nest
    let nestX : Host.Outcome State Fault Refusal := .next (raise e.val 5 .ok 0 (s.PC e) s)
    let push : Nat → Host.Outcome State Fault Refusal := fun c =>
      .next (did s e (fun g => { g with nest := BitVec.ofNat 4 ((if l then 8 else 0) + c) :: g.nest }))
    exec (.laNot e) s = .next (did s e (fun g => { g with la := !l })) ∧
    exec (.rdla e d) s = .next (did s e (fun g => g.setW d (if l then 1 else 0))) ∧
    exec (.wrla e a) s = .next (did s e (fun g => { g with la := decide (s.W e a ≠ 0) })) ∧
    (nst.length < 16 →
      exec (.gopenLd e) s = push 0 ∧ exec (.gopenAnd e) s = push 1 ∧ exec (.gopenOr e) s = push 2 ∧
      exec (.gopenXor e) s = push 3 ∧ exec (.gopenAndn e) s = push 5 ∧ exec (.gopenOrn e) s = push 6 ∧
      exec (.gopenXorn e) s = push 7) ∧
    (16 ≤ nst.length → exec (.gopenLd e) s = nestX ∧ exec (.gopenAnd e) s = nestX ∧ exec (.gopenXorn e) s = nestX) ∧
    (nst = [] → exec (.gclose e) s = nestX) ∧
    (∀ n ns, nst = n :: ns →
      let o := n.getLsbD 3
      let r := match (n.extractLsb' 0 3).toNat with
        | 1 => o && l | 2 => o || l | 3 => o != l | 5 => o && !l | 6 => o || !l | 7 => o != !l | _ => l
      exec (.gclose e) s = .next (did s e (fun g => { g with la := r, nest := ns })))

/-- For every executor that issues and an 8-byte-aligned W[a] whose 16 bytes lie in one piece of MK or writable private data at pa with sound lines and no byte in the caches that another unit has overwritten (log 161): each timer instruction reads the block, steps it as R125 writes for its kind, unit (1 000 or 1 000 000 ns) and PT = W[b], with rel the scheduled release time of the job, writes back start, ET, Q, IN and RUN with the other bits 0, and loads LA with Q. Only LA, PC and the block's dirty bytes change. -/
def Obligations.TimersOnPrivateBlocks : Prop :=
  ∀ (s : State) (e : Exe) (a b : WReg) (pa : Nat), issues s e = true → (s.W e a).toNat % 8 = 0 →
    privSpan s (s.jobOf e.val) (s.W e a).toNat 16 = some [(pa, 16)] → s.sound pa 16 = true → (s.eng e.val).stale = [] →
    let old := timerOf (overlay (s.eng e.val).dirty pa (s.bytes pa 16))
    let rel := (s.part (s.jobOf e.val)).jib.rel
    let pt := (s.W e b).toNat
    let l := s.LA e
    let et : Nat → Nat → Nat := fun unit start => min pt (if start ≤ rel then (rel - start) / unit else 0)
    let done : Timer → Host.Outcome State Fault Refusal := fun t =>
      .next (did s e (fun g => { g with la := t.q, dirty := dirtyPut pa (timerBytes { t with prev := l }) g.dirty }))
    let ton : Nat → Timer := fun u =>
      if l then
        let st := if old.prev then old.start else rel
        { start := st, et := et u st, q := decide (pt ≤ et u st), prev := l, run := old.run || !old.prev }
      else { old with q := false, et := 0, run := false }
    let tof : Nat → Timer := fun u =>
      if l then { old with q := true, et := 0, run := false }
      else
        let st := if old.prev then rel else old.start
        if old.run || old.prev then
          { start := st, et := et u st, q := decide (et u st < pt), prev := l, run := decide (et u st < pt) }
        else old
    let tp : Nat → Timer := fun u =>
      let go := !old.run && l && !old.prev
      let st := if go then rel else old.start
      if old.run || go then
        { start := st, et := et u st, q := decide (et u st < pt), prev := l, run := !decide (pt ≤ et u st) }
      else if l then old else { old with et := 0, q := false }
    exec (.tonUs e a b) s = done (ton 1000) ∧ exec (.tonMs e a b) s = done (ton 1000000) ∧
    exec (.tofUs e a b) s = done (tof 1000) ∧ exec (.tofMs e a b) s = done (tof 1000000) ∧
    exec (.tpUs e a b) s = done (tp 1000) ∧ exec (.tpMs e a b) s = done (tp 1000000)

/-- For every executor that issues and a 4-byte-aligned W[a] whose 8 bytes lie in one piece of MK or writable private data at pa with sound lines and no byte in the caches that another unit has overwritten (log 161): CTU adds 1 on LA = 1 after 0 unless CV = 7FFF_FFFFh and gives LA := CV >= PV; CTD subtracts 1 on LA = 1 after 0 unless CV = 8000_0000h and gives LA := CV <= 0; each updates only its own previous input. CRST writes 0 and CLD PV to CV while LA = 1 and leave LA and the previous inputs. Only LA, PC and the block's dirty bytes change. -/
def Obligations.CountersOnPrivateBlocks : Prop :=
  ∀ (s : State) (e : Exe) (a b : WReg) (pa : Nat), issues s e = true → (s.W e a).toNat % 4 = 0 →
    privSpan s (s.jobOf e.val) (s.W e a).toNat 8 = some [(pa, 8)] → s.sound pa 8 = true → (s.eng e.val).stale = [] →
    let bs := overlay (s.eng e.val).dirty pa (s.bytes pa 8)
    let cv : Word := BitVec.ofNat 32 (leNat (bs.take 4))
    let inp : Word := BitVec.ofNat 32 (leNat ((bs.drop 4).take 4))
    let up := inp.getLsbD 31
    let dn := inp.getLsbD 30
    let pv := s.W e b
    let l := s.LA e
    let done : Bool → Word → Bool → Bool → Host.Outcome State Fault Refusal := fun r c u w =>
      .next (did s e (fun g => { g with la := r, dirty := dirtyPut pa (leBytes 4 c.toNat ++
        leBytes 4 ((if u then 2 ^ 31 else 0) + (if w then 2 ^ 30 else 0))) g.dirty }))
    let cu := if l && !up && decide (cv ≠ 0x7FFFFFFF) then cv + 1 else cv
    let cd := if l && !dn && decide (cv ≠ 0x80000000) then cv - 1 else cv
    exec (.ctu e a b) s = done (decide (pv.toInt ≤ cu.toInt)) cu l dn ∧
    exec (.ctd e a b) s = done (decide (cd.toInt ≤ 0)) cd up l ∧
    exec (.crst e a) s = done l (if l then 0 else cv) up dn ∧
    exec (.cld e a b) s = done l (if l then pv else cv) up dn

/-- For every executor that issues: J goes to PC + 4 x off, CALL also writes PC + 4 to W31, JC does so where LA = 1 and JCN where LA = 0, else PC is the next instruction; JR goes to W[a] and CALLR to W[a] as it stood before W31 := PC + 4, where its bits 1:0 are 00b, and raises exception 2 with the jump as frame PC and the target as address otherwise. LA and all else are unchanged. -/
def Obligations.JumpTargets : Prop :=
  ∀ (s : State) (e : Exe) (a : WReg) (off : BitVec 26), issues s e = true →
    let pc := s.PC e
    let tgt := pc + (off.signExtend 32) * 4
    let t := s.W e a
    let goto : Word → Host.Outcome State Fault Refusal := fun p => .next (s.setEng e.val { s.eng e.val with pc := p })
    let link : Word → Host.Outcome State Fault Refusal := fun p =>
      .next (s.setEng e.val { (s.eng e.val).setW 31 (pc + 4) with pc := p })
    exec (.j e off) s = goto tgt ∧ exec (.call e off) s = link tgt ∧
    exec (.jc e off) s = goto (if s.LA e then tgt else pc + 4) ∧
    exec (.jcn e off) s = goto (if s.LA e then pc + 4 else tgt) ∧
    (t.toNat % 4 = 0 → exec (.jr e a) s = goto t ∧ exec (.callr e a) s = link t) ∧
    (t.toNat % 4 ≠ 0 → exec (.jr e a) s = .next (raise e.val 2 .ok t pc s) ∧
      exec (.callr e a) s = .next (raise e.val 2 .ok t pc s))

/-- For every executor that issues: NOP changes only PC; FENCE does too once no posted rack write of its partition is queued; MFSW writes the status word to W[d]; MTSW takes bits 12:3 of W[a] and keeps every other bit; SVC in the foundry partition gives W1 = DENIED and places nothing, with all four slots full W1 = FULL and places nothing, and else places number, sequence number and W1 to W6 as the partition's last request, raises the sequence number (FFFF_FFFFh to 1), and gives W1 = OK and W2 = the sequence number. -/
def Obligations.SystemInstructions : Prop :=
  ∀ (s : State) (e : Exe) (d a : WReg) (num : BitVec 12), issues s e = true →
    let n := s.jobOf e.val
    let p := s.part n
    let sw := (s.eng e.val).sw
    exec (.nop e) s = .next (did s e id) ∧
    (fenceWaits s e.val = false → exec (.fence e) s = .next (did s e id)) ∧
    exec (.mfsw e d) s = .next (did s e (fun g => g.setW d sw)) ∧
    exec (.mtsw e a) s = .next (did s e (fun g => { g with sw := (sw &&& 0xFFFFE007) ||| (s.W e a &&& 0x00001FF8) })) ∧
    (n = 0 → exec (.svc e num) s = .next (did s e (fun g => g.setW 1 3))) ∧
    (n ≠ 0 → 4 ≤ p.svc.length → exec (.svc e num) s = .next (did s e (fun g => g.setW 1 9))) ∧
    (n ≠ 0 → p.svc.length < 4 →
      let q : SvcReq := { num := num, seq := p.svcSeq, ord := s.sch.ord, args := [s.W e 1, s.W e 2, s.W e 3, s.W e 4, s.W e 5, s.W e 6] }
      let s1 := { s.setPart n { p with svc := p.svc ++ [q], svcSeq := if p.svcSeq = 0xFFFFFFFF then 1 else p.svcSeq + 1 }
        with sch := { s.sch with ord := s.sch.ord + 1 } }
      exec (.svc e num) s = .next (did s1 e (fun g => (g.setW 1 0).setW 2 p.svcSeq)))

/-- For every executor that issues with no posted rack write of its partition queued: CYEND of the continuous job while the scheduler is disabled writes the dirty bytes to memory, leaves no dirty byte, and goes on at the next instruction with all its other state; CYEND of another job no later than 3 us before its boundary leaves the job marked complete with no miss in a row, and, no continuous job being due, the executor without a job. -/
def Obligations.CyendCommits : Prop :=
  ∀ (s : State) (e : Exe) (n : Part) (b : Nat), issues s e = true → fenceWaits s e.val = false →
    (s.eng e.val).job = some n →
    ((s.eng e.val).cont = true → s.schEn = false →
      exec (.cyend e) s = .next ((writeCells (s.eng e.val).dirty s).setEng e.val
        { s.eng e.val with dirty := [], pc := s.PC e + 4 })) ∧
    ((s.eng e.val).cont = false → (s.part n.toNat).bnd = some b → s.now + 3000 ≤ b → s.sch.contPend = false →
      ∃ t, exec (.cyend e) s = .next t ∧ (t.part n.toNat).done = true ∧ (t.part n.toNat).missRun = 0 ∧
        (t.part n.toNat).ended = true ∧ (t.part n.toNat).lastEnd = 0 ∧ (t.eng e.val).job = none)

/-- For every executor that issues with EXC = 1, a 4-byte-aligned vector table, entry 15 read as a 4-byte-aligned frame address f and the 32 frame bytes read without changing the state: if the frame PC is 4-byte aligned and its depth at most 16, ERET leaves the executor with PC, LA, FL, stack depth and entries and bits 12:3 of the status word from the frame, EXC = 0, and every other bit and register as before. With EXC = 0 it raises exception 1. -/
def Obligations.EretRestores : Prop :=
  ∀ (s : State) (e : Exe) (f : Word) (bs : List Byte), issues s e = true →
    let g := s.eng e.val
    let w : Nat → Word := fun off => BitVec.ofNat 32 (leNat ((bs.drop off).take 4))
    let dep := (w 8).toNat / 65536 % 32
    (g.sw.getLsbD 14 = false → exec (.eret e) s = .next (raise e.val 1 .ok 0 g.pc s)) ∧
    (g.sw.getLsbD 14 = true → fld (s.rdA .schPdVecS (s.jobOf e.val)) 0 2 = 0 → vecWord e.val 15 s = (some f, s) →
      fld f 0 2 = 0 → readFrame e.val 8 f.toNat s = (some bs, s) → fld (w 0) 0 2 = 0 → dep ≤ 16 →
      exec (.eret e) s = .next (s.setEng e.val { g with
        pc := w 0, la := (w 8).getLsbD 8, fl := (w 8).extractLsb' 0 5,
        nest := nestOf dep (leNat ((bs.drop 24).take 8)),
        sw := (g.sw &&& 0xFFFFA007) ||| (w 4 &&& 0x00001FF8) }))

/-- For every executor that issues with no posted rack write queued, a 4-byte-aligned W[a] that the region table gives for atomics at a 4-byte-aligned physical word pa with sound lines and no byte in the caches that another unit has overwritten (log 161), old being that word: SWAP stores W[b], FADD old + W[b], CAS W[b] where old = W[c] and nothing else; W[d] takes old; CAS loads LA with whether it stored, the others leave LA; FL and all other bytes of memory are as before. Where the region table gives no atomic access each raises exception 4 with status DENIED. -/
def Obligations.AtomicsOnSharedWords : Prop :=
  ∀ (s : State) (e : Exe) (d a b c : WReg) (pa : Nat) (sh : Bool), issues s e = true → fenceWaits s e.val = false →
    (s.W e a).toNat % 4 = 0 →
    let old := BitVec.ofNat 32 (leNat (overlay (s.eng e.val).dirty pa (s.bytes pa 4)))
    let deny : Host.Outcome State Fault Refusal := .next (raise e.val 4 .denied (s.W e a) (s.PC e) s)
    let stored : State → Word → Prop := fun t v =>
      (∀ k, k < 4 → t.byte (pa + k) = BitVec.ofNat 8 (v.toNat / 256 ^ k)) ∧ ∀ x, x < pa ∨ pa + 4 ≤ x → t.byte x = s.byte x
    let regs : State → Bool → Prop := fun t l => t.eng e.val =
      { (s.eng e.val).setW d old with la := l, pc := s.PC e + 4, dirty := dirtyDrop pa 4 (s.eng e.val).dirty }
    (s.xlate (s.jobOf e.val) .atomic (s.W e a).toNat = some (pa, sh) → pa % 4 = 0 → s.sound pa 4 = true → (s.eng e.val).stale = [] →
      (∃ t, exec (.swap e d a b) s = .next t ∧ stored t (s.W e b) ∧ regs t (s.LA e)) ∧
      (∃ t, exec (.fadd e d a b) s = .next t ∧ stored t (old + s.W e b) ∧ regs t (s.LA e)) ∧
      (old = s.W e c → ∃ t, exec (.cas e d a b c) s = .next t ∧ stored t (s.W e b) ∧ regs t true) ∧
      (old ≠ s.W e c → exec (.cas e d a b c) s = .next (did s e (fun g => { g.setW d old with la := false })))) ∧
    (s.xlate (s.jobOf e.val) .atomic (s.W e a).toNat = none →
      exec (.swap e d a b) s = deny ∧ exec (.cas e d a b c) s = deny ∧ exec (.fadd e d a b) s = deny)

/-- For every executor that issues, a word that the decoder refuses raises exception 1 with status 00h and address 0 on the unchanged state. An executor that can execute, is not halted and re-issues a load which now answers OK with v completes it: its destination takes v, PC is the next instruction, nothing re-issues. A transfer that holds a target longer than its band's nonzero hold limit, of a requester that is neither an executor nor a shared engine, loses the target; CUTCNT, STAT.CUT and LASTCUT are set and ARB alarms. -/
def Obligations.IllegalRetryAndCutoff : Prop :=
  ∀ (s : State) (e : Exe),
    (∀ iw, issues s e = true → gleigDecode e iw = none →
      exec (.illegalInstruction e iw) s = .next (raise e.val 1 .ok 0 (s.PC e) s)) ∧
    (∀ (r : Retry) (v : Word) (u : State), canExec s e.val = true → execHalted s e.val = false →
      (s.eng e.val).retry = some r → r.store = false → r.ea.toNat % r.sz.bytes = 0 →
      let s1 := s.setEng e.val { s.eng e.val with retry := none }
      vLoad e.val r.sz r.ea.toNat s1 = (.ok, v, u) → u.eng e.val = s1.eng e.val →
      exec (.retryReissue e) s = .next (u.setEng e.val { loadDest r v (s1.eng e.val) with pc := s.PC e + 4 })) ∧
    (∀ (tgt : Fin 14) (t : Transfer), (s.target tgt.val).holder = some t → holdLimit s t.band ≠ 0 → 0x82 ≤ t.req →
      let s1 := s.setTarget tgt.val { s.target tgt.val with holder := none }
      exec (.holdLimitCutoff tgt) s = .next (alarm .arb (((s1.count .arbCutcnt 1).setBits .arbStat 1).wr .arbLastcut
        (BitVec.ofNat 32 (tgt.val * 2 ^ 24 + t.req * 65536 + t.part.toNat)))))

/-- For every executor that may issue with no SELF injection due and no executable region for its PC, or one that is not memory, ADD, J and NOP raise exception 3 with status DENIED (the model's reading of R194 and R155, log 54) and PC as address and frame PC. An executor that is halted for debug, re-issues an access, has no job or is held leaves the state as it is. -/
def Obligations.FetchFaultsAndHeldExecutors : Prop :=
  ∀ (s : State) (e : Exe) (d a b : WReg) (off : BitVec 26),
    (mayIssue s e.val = true → selfArmed s e = false → fetchAt s e.val = none →
      let x : Host.Outcome State Fault Refusal := .next (raise e.val 3 .denied (s.PC e) (s.PC e) s)
      exec (.add e d a b) s = x ∧ exec (.j e off) s = x ∧ exec (.nop e) s = x) ∧
    (mayIssue s e.val = false → exec (.add e d a b) s = .next s ∧ exec (.j e off) s = .next s ∧
      exec (.nop e) s = .next s ∧ exec (.cyend e) s = .next s ∧ exec (.ldw e d a 0) s = .next s)

/-- For every instruction of the Gleig table with a word (every one that is well formed: SHI kinds 000b to 100b, legal bit operands) and every value of its operands, the decoder reads that word back as the same instruction on the same executor. -/
def Obligations.GleigDecodesWhatItEncodes : Prop :=
  ∀ (i : Instr) (w : Word), gleigWord i = some w → i.wf = true → ∃ e, gleigDecode e w = some i

/-- For every executor and every 32-bit word that the decoder reads, the instruction read is well formed and its encoding is that very word: no bit of a legal word is ignored, so a word with a nonzero unused field, bit 4 of a float field set or an unassigned major, func or op value decodes to nothing. -/
def Obligations.EveryLegalWordHasOneMeaning : Prop :=
  ∀ (e : Exe) (w : Word) (i : Instr), gleigDecode e w = some i → gleigWord i = some w ∧ i.wf = true

/-- 4000_0000h is BLD II0.0, 1800_0041h GOPEN.AND, 4090_0020h BOR MK4.0, 1800_0002h GCLOSE, 4060_0002h BANDN II0.2, 4148_0015h BASG OI2.5, 7480_0002h MOVHI W4,0002h, 6884_0040h ORI W4,W4,0040h, 70A0_0005h MOVI W5,5, 1C04_2801h TON.MS W4,W5, 4150_0050h BASG MK10.0 and 1000_0000h NOP; the all-zero and the all-one word decode to nothing. -/
def Obligations.WrittenOutWords : Prop :=
  ∀ e : Exe,
    gleigDecode e 0x40000000 = some (.bld e (.direct 0 0 0)) ∧ gleigDecode e 0x18000041 = some (.gopenAnd e) ∧
    gleigDecode e 0x40900020 = some (.bor e (.direct 2 4 0)) ∧ gleigDecode e 0x18000002 = some (.gclose e) ∧
    gleigDecode e 0x40600002 = some (.bandn e (.direct 0 0 2)) ∧ gleigDecode e 0x41480015 = some (.basg e (.direct 1 2 5)) ∧
    gleigDecode e 0x74800002 = some (.movhi e 4 2) ∧ gleigDecode e 0x68840040 = some (.ori e 4 4 0x40) ∧
    gleigDecode e 0x70A00005 = some (.movi e 5 5) ∧ gleigDecode e 0x1C042801 = some (.tonMs e 4 5) ∧
    gleigDecode e 0x41500050 = some (.basg e (.direct 2 10 0)) ∧ gleigDecode e 0x10000000 = some (.nop e) ∧
    gleigDecode e 0 = none ∧ gleigDecode e 0xFFFFFFFF = none

/-- For every state whose queue has a command c in front, step is exec of c on that state with the rest of the queue. Taking commands first in, first out is the model's own order of arrival (log 1). -/
def Obligations.StepRunsFrontCommand : Prop :=
  ∀ (s : State) (c : Instr) (rest : List Instr), s.pending = c :: rest → step s = exec c { s with pending := rest }

/-- In the reset state every register, shadow and active copy, reads its reset value (the map's; log 13 for CAN.CTL; stream 0 by R368), RSTCAUSE is 1, the timebase is 0, the queue is empty, no executor has a job, every partition is OFF, every link is OFF, the fuse shadow is 0, RSTOUT_L is low, no boot step has begun, memory lists nothing and is in its canonical form. That unlisted memory reads 0 is the model's choice (log 5). -/
def Obligations.ResetState : Prop :=
  let s := State.reset
  (∀ (r : Reg) (i j : Nat), s.rd r i j = r.resetAt i ∧ s.rdA r i j = r.resetAt i) ∧
  s.rd .supRstcause = 1 ∧ s.now = 0 ∧ s.pending = [] ∧ s.pwr.boot = .held ∧ s.pins.rstout = false ∧ s.pwr.fatal = false ∧
  (∀ e, s.eng e = {}) ∧ (∀ n, (s.part n).state = .off) ∧ (∀ l, (s.link l).state = .off) ∧ (∀ i, s.fuse i = 0) ∧
  s.mem = [] ∧ Memory.wf s.mem = true ∧ ∀ a, s.byte a = 0

/-- For every state whose memory lists its bytes at strictly rising addresses and lists no byte equal to what an unlisted address reads, whatever command is in front (or none), if step answers a next state then its memory has that form too. -/
def Obligations.MemoryStaysCanonical : Prop :=
  ∀ s t : State, Memory.wf s.mem = true → step s = .next t → Memory.wf t.mem = true

/-- Each of REGISTER_WRITE, DEBUG_ACCESS and PEWTER_WRITE_ARRIVAL answers the next state named here, under conditions on the state and the operands alone. For every write of the physical space that the debug level admits: to a register, a size other than 4 bytes or an address off its word answers SIZE and changes nothing; an unassigned offset of a unit span answers DENIED, and an address outside all spans FAULT, each with a record and no other effect; a whole-word write of a register without a rule of its own, by the foundry partition, sets its read-write bits, clears its write-1-to-clear bits where 1 is written, keeps the others and answers OK, while another partition gets DENIED; an active copy ignores the write. Bytes of memory in lines without poison or error are stored little-endian. The debug port's write is the same access. The oldest posted pewter write arrives and leaves the queue. -/
def Obligations.RegisterWritesByAddress : Prop :=
  ∀ (s : State) (w : Who) (addr : BitVec 40) (sz : Size) (v : Word),
    let a := addr.toNat
    let run := exec (.registerWrite w addr sz v) s
    exec (.debugAccess (.bus addr) sz (some v)) s = exec (.registerWrite .dbg addr sz v) s ∧
    (levelAdmits w a true s = true →
      (∀ b n u rs, spanOf a = some (b, n, u, rs) →
        (regAt rs (a / 4 * 4) = none → run = .next ((record .unassigned (whoPart w) [lo32 a, hi32 a] s).reply .denied)) ∧
        ∀ r i j act, regAt rs (a / 4 * 4) = some (r, i, j, act) → linkDown u s = false →
          (sz ≠ .b4 ∨ a % 4 ≠ 0 → run = .next (s.reply .size)) ∧
          (sz = .b4 → a % 4 = 0 → w = .part 0 → tdbgOf a = none →
            (act = true → run = .next (s.reply .ok)) ∧
            (act = false → unitWrite u w r i j v s = none →
              run = .next ((s.wr r (((s.rd r i j &&& ~~~ r.row.rw) ||| (v &&& r.row.rw)) &&& ~~~ (v &&& r.row.w1c)) i j).reply .ok))) ∧
          (∀ p, sz = .b4 → a % 4 = 0 → w = .part p → p ≠ 0 → act = false → unitWrite u w r i j v s = none →
            run = .next (s.reply .denied))) ∧
      (spanOf a = none → isRack a = false → isMem a sz.bytes = false →
        run = .next ((record .outsideSpan (whoPart w) [lo32 a, hi32 a] s).reply .fault)) ∧
      (spanOf a = none → isRack a = false → isMem a sz.bytes = true → sz ≠ .b8 → a % sz.bytes = 0 → s.sound a sz.bytes = true →
        ∃ t, run = .next t ∧ t.rsp = { st := .ok, val := 0 } ∧ t.regs = s.regs ∧
          ∀ x, t.byte x = if a ≤ x ∧ x < a + sz.bytes then BitVec.ofNat 8 (v.toNat / 256 ^ (x - a)) else s.byte x)) ∧
    (s.clk.pewQ = [] → exec .pewterWriteArrival s = .next s) ∧
    (∀ r x q, r ∈ pewterRegs → s.clk.pewQ = (r.row.base, x) :: q →
      exec .pewterWriteArrival s = .next (({ s with clk := { s.clk with pewQ := q } } : State).put r x))

/-- For every read that the debug level admits: a register read in another size or off its word answers SIZE; an unassigned offset of a unit span DENIED with data 0, an address outside all spans FAULT, each with a record; a register without a read rule of its own answers OK and its shadow, at its active address the value in force; bytes of memory in lines without poison or error are read little-endian, and a register of a lane in service answers OK and its value; none of these three changes anything but the response. A level that does not admit the read answers DENIED, sets DBGSTAT bit 2 and records it. -/
def Obligations.RegisterReadsByAddress : Prop :=
  ∀ (s : State) (addr : BitVec 40) (sz : Size) (t : Fin 32) (r : LaneReg),
    let a := addr.toNat
    let run := exec (.debugAccess (.bus addr) sz none) s
    (debugReads s a = false →
      run = .next ((record .debugRefused 0 [] (s.setBits .supDbgstat 4)).reply .denied)) ∧
    (debugReads s a = true →
      (∀ b n u rs, spanOf a = some (b, n, u, rs) →
        (regAt rs (a / 4 * 4) = none → run = .next ((record .unassigned 0 [lo32 a, hi32 a] s).reply .denied)) ∧
        ∀ r i j act, regAt rs (a / 4 * 4) = some (r, i, j, act) → linkDown u s = false →
          (sz ≠ .b4 ∨ a % 4 ≠ 0 → run = .next (s.reply .size)) ∧
          (sz = .b4 → a % 4 = 0 → unitRead u .dbg r i j act s = none → debugReads s r.row.base = true →
            run = .next (s.answer .ok (if act then s.rdA r i j else s.rd r i j)))) ∧
      (spanOf a = none → isRack a = false → isMem a sz.bytes = false →
        run = .next ((record .outsideSpan 0 [lo32 a, hi32 a] s).reply .fault)) ∧
      (spanOf a = none → isRack a = false → isMem a sz.bytes = true → sz ≠ .b8 → s.sound a sz.bytes = true →
        run = .next (s.answer .ok (BitVec.ofNat 32 (leNat (s.bytes a sz.bytes)))))) ∧
    (∀ e, debugReads s Reg.fabTdbg.row.base = true → debugLevel s ≠ 2 → dbgLaneExec s t false = some e →
      exec (.debugAccess (.lane t r) sz none) s = .next (s.answer .ok (laneRegOf (s.eng e) r)))

/-- Each of VPEW_POWER_UP, VPEW_BELOW_THRESHOLD, POWER_UP_RESET_END, MONITOR_ARM, VCORE_CONNECT, VCORE_DISCONNECT, BROWN_OUT, BROWN_OUT_RECOVERY, PFAIL_RISE, FLUSH_COMPLETE and PFAIL_FALL answers the next state named here, under conditions on the state and the operands alone. VPEW power-up (with VPEW down) and the loss of VPEW reset the device as the R44 table says with VPEWOK set or cleared; the end of the power-up reset clears that flag; arming the monitors with no reset held and a VCORE group connected starts boot step 1, or the fatal halt where TEST_EN is high. A VCORE group connects with its power-good ball; a connected group disconnects, the ball's level left open (log 50), with an alarm and a record unless a reset holds the logic, and with the brown-out reaction where the other group is off. A brown-out of armed monitors sets RSTCAUSE bit 2 and resets; its recovery, with a group connected, restarts the boot at step 2. PFAIL latches PFLAT; in Run out of reset it records the event and, with no flush running, starts the flush and holds class N releases and update writes; in a reset, doze or pewter it is kept for the return. A completed flush sets FLUSHED; the fall of PFAIL lifts both holds. -/
def Obligations.SuppliesAndPowerFail : Prop :=
  ∀ (s : State),
    (s.pwr.vpewOk = false → ∃ t, exec .vpewPowerUp s = .next t ∧ t.pwr = { vcaOn := s.pwr.vcaOn, vcbOn := s.pwr.vcbOn, pfailDue := s.pwr.pfailDue } ∧
      t.now = 0 ∧ t.engs = [] ∧ t.parts = [] ∧ t.mem = [] ∧ t.fuses.shadow = [] ∧ t.rd .supRstcause = 1) ∧
    (s.pwr.vpewOk = true → ∃ t, exec .vpewBelowThreshold s = .next t ∧
      t.pwr = { vpewOk := false, vcaOn := s.pwr.vcaOn, vcbOn := s.pwr.vcbOn, pfailDue := s.pwr.pfailDue } ∧
      t.now = 0 ∧ t.engs = [] ∧ t.parts = [] ∧ t.mem = [] ∧ t.pins.rstout = false) ∧
    (s.pwr.vpewOk = true → exec .powerUpResetEnd s = .next (s.setPwr { s.pwr with pwrup := false })) ∧
    (tbHeld s = false → s.pwr.armed = false → s.pwr.fatal = false → vcoreOn s = true →
      (s.pins.testEn = true → exec .monitorArm s = .next (fatalHalt 1 (s.setPwr { s.pwr with armed := true }))) ∧
      (s.pins.testEn = false → s.pins.wrst = true →
        exec .monitorArm s = .next (s.setPwr { s.pwr with armed := true, wrstHold := none, boot := .step 1 }))) ∧
    exec (.vcoreConnect false) s = .next { s with pwr := { s.pwr with vcaOn := true }, pins := { s.pins with vcaPg := true } } ∧
    exec (.vcoreConnect true) s = .next { s with pwr := { s.pwr with vcbOn := true }, pins := { s.pins with vcbPg := true } } ∧
    (∀ b : Bool, (if b then s.pwr.vcbOn else s.pwr.vcaOn) = true →
      let s1 : State := State.spend (if b then
          { s with pwr := { s.pwr with vcbOn := false }, pins := { s.pins with vcbPg := Config.pgLevel s.free } }
        else { s with pwr := { s.pwr with vcaOn := false }, pins := { s.pins with vcaPg := Config.pgLevel s.free } })
      let s2 := if s.pwr.boot = .held then s1 else alarmRec .sup .vcoreLost [BitVec.ofNat 32 b.toNat] s1
      ((if b then s.pwr.vcaOn else s.pwr.vcbOn) = true → exec (.vcoreDisconnect b) s = .next s2) ∧
      ((if b then s.pwr.vcaOn else s.pwr.vcbOn) = false → exec (.vcoreDisconnect b) s = exec .brownOut s2)) ∧
    (s.pwr.armed = true → s.pwr.browned = false → ∃ t, exec .brownOut s = .next t ∧ t.pwr.browned = true ∧ t.pwr.boot = .held ∧
      t.pwr.fatal = s.pwr.fatal ∧ t.rd .supRstcause = s.rd .supRstcause ||| 4 ∧ t.mem = [] ∧ t.engs = [] ∧ t.parts = []) ∧
    (s.pwr.browned = true → vcoreOn s = true → s.pwr.fatal = false → s.pins.wrst = true →
      exec .brownOutRecovery s = .next (startStep2 (s.setPwr { s.pwr with browned := false, wrstHold := none }))) ∧
    (s.pins.pfail = false → tbHeld s = false →
      let s1 : State := { s with pins := { s.pins with pfail := true }, pwr := { s.pwr with pflat := true } }
      let s2 := record .powerFail 0 [lo32 s.now, hi32 s.now] s1
      (inReset s = true ∨ s.pwr.state ≠ .run → exec .pfailRise s = .next (s1.setPwr { s1.pwr with pfailDue := true })) ∧
      (inReset s = false → s.pwr.state = .run →
        (s.pwr.flush ≠ none → exec .pfailRise s = .next s2) ∧
        (s.pwr.flush = none → exec .pfailRise s = .next (startFlush
          (s2.setPwr { s2.pwr with classNHeld := true, updHeld := true, pfailDue := false }))))) ∧
    (s.pwr.flush ≠ none → exec .flushComplete s =
      .next (((flushEnd s).setPwr { (flushEnd s).pwr with flush := none }).setBits .supPwrstat 1)) ∧
    exec .pfailFall s = .next { s with pins := { s.pins with pfail := false }, pwr := { s.pwr with classNHeld := false, updHeld := false, pfailDue := false } }

/-- Each of WRST_L_LOW, WARM_RESET_SW, COLD_RESET_SW, DEFERRED_RESET, WRST_L_RELEASE, PORST_L_LOW, PORST_L_RELEASE and TRST_L_LOW answers the next state named here, under conditions on the state and the operands alone. With no flush running, no brown-out and no fatal halt, a warm reset (WRST_L, or RSTCTL with key 5Ah and code 1) past boot step 2 in Run, and a cold reset (code 2, no volume mounted), stop every executor, return every partition to OFF and every unit to reset, pull RSTOUT_L low, set their RSTCAUSE bit and no other, keep memory, PFLAT, the supply flags, image slots and settings, finish a fuse word under way, and restart the boot at step 3 or 2 once WRST_L is high. While a flush runs they wait, the wider governing; a waiting one starts when the flush is over or 2 ms after its start. In the fatal halt a software request changes only the response. PORST_L clears the fatal halt, memory, timebase and fuse shadow. TRST_L reaches only what the debug port has latched. -/
def Obligations.ResetsAndTheirReach : Prop :=
  ∀ (s : State) (v : Word),
    let core (t : State) : Prop := t.engs = [] ∧ t.parts = [] ∧ t.cans = [] ∧ t.she = {} ∧ t.arb = {} ∧ t.eth = {} ∧ t.stn = {} ∧
      t.brb = {} ∧ t.pins.rstout = false ∧ t.fuses.prog = none ∧ t.sec.slots = s.sec.slots ∧ t.sec.sets = s.sec.sets ∧
      t.pwr.vpewOk = s.pwr.vpewOk ∧ t.pwr.armed = s.pwr.armed ∧ t.pwr.pflat = s.pwr.pflat ∧ t.pending = s.pending
    let idle : Prop := s.pwr.flush = none ∧ s.pwr.fatal = false ∧ s.pwr.browned = false
    let ram (t : State) : Prop := t.mem = s.mem ∧ t.poison = s.poison ∧ t.ecc = s.ecc
    (tbHeld s = false → bootPast s 2 = true → s.pwr.state = .run → idle → s.pins.wrst = true →
      (∃ t, exec .wrstLLow s = .next t ∧ core t ∧ ram t ∧ t.pwr.boot = .held ∧ t.pwr.wrstHold = some 3 ∧ t.pins.wrst = false ∧
        t.rd .supRstcause = s.rd .supRstcause ||| 16) ∧
      (fld v 24 8 = 0x5A → fld v 0 2 = 1 → ∃ t, exec (.warmResetSw (.part 0) v) s = .next t ∧ core t ∧ ram t ∧ t.pwr.boot = .step 3 ∧
        t.rsp = { st := .ok, val := 0 } ∧ t.rd .supRstcause = s.rd .supRstcause ||| 32) ∧
      (fld v 24 8 = 0x5A → fld v 0 2 = 2 → s.sto.vol = none → ∃ t, exec (.coldResetSw (.part 0) v) s = .next t ∧ core t ∧ ram t ∧
        t.pwr.boot = .step 2 ∧ t.clk.xaOn = true ∧ t.rsp = { st := .ok, val := 0 } ∧ t.rd .supRstcause = s.rd .supRstcause ||| 8)) ∧
    (s.pwr.boot ≠ .held → fld v 24 8 ≠ 0x5A → exec (.warmResetSw (.part 0) v) s = .next (s.reply .denied) ∧
      exec (.coldResetSw (.part 0) v) s = .next (s.reply .denied)) ∧
    (∀ p, p ≠ 0 → exec (.warmResetSw (.part p) v) s = .next (s.reply .denied)) ∧
    (s.pwr.boot ≠ .held → fld v 24 8 = 0x5A → fld v 0 2 = 1 → s.pwr.fatal = true → exec (.warmResetSw (.part 0) v) s = .next (s.reply .ok)) ∧
    (s.pwr.boot ≠ .held → tbHeld s = false → fld v 24 8 = 0x5A → fld v 0 2 = 1 → s.pwr.fatal = false → s.pwr.browned = false → s.pwr.flush ≠ none → s.pwr.deferred ≠ some .cold →
      exec (.warmResetSw (.part 0) v) s = .next (((s.setBits .supRstcause 32).setPwr { s.pwr with deferred := some .warm }).reply .ok)) ∧
    (∀ f, s.pwr.flush = some f → s.now < f + 2000000 → exec .deferredReset s = .next s) ∧
    (s.pwr.deferred = some .cold → s.pwr.flush = none → s.pins.wrst = true → s.pwr.fatal = false →
      ∃ t, exec .deferredReset s = .next t ∧ core t ∧ ram t ∧ t.pwr.boot = .step 2 ∧ t.pwr.deferred = none) ∧
    (∀ n, s.pwr.wrstHold = some n → exec .wrstLRelease s = .next (bootFrom n (s.setPins { s.pins with wrst := true }))) ∧
    (s.pins.porst = true → s.pwr.vpewOk = true → s.pwr.pwrup = false → ∃ t, exec .porstLLow s = .next t ∧ t.pins.porst = false ∧
      t.pwr.fatal = false ∧ t.pwr.armed = false ∧ t.pwr.boot = .held ∧ t.mem = [] ∧ t.now = 0 ∧ t.fuses.shadow = [] ∧ t.engs = [] ∧
      t.rd .supRstcause = s.rd .supRstcause ||| 2) ∧
    exec .porstLRelease s = .next (s.setPins { s.pins with porst := true }) ∧
    exec .trstLLow s = .next { s with regs := s.regs.filter (fun e => decide (e.1 / 2 ^ 40 ≠ 1025)) }

/-- Each of DOZE_REQUEST, PEWTER_REQUEST, POWER_STATE_ENTRY, WAKE and WAKE_PIN answers the next state named here, under conditions on the state and the operands alone. Out of reset in Run, with every other partition held and key A5h, the foundry partition's PSTATE write of 1 or 2 is accepted: the field goes safe and the entry is under way; with another partition in the cycle it returns DENIED and the device stays in Run. The entry waits for posted pewter writes; before pewter a mounted volume takes the recorder buffer; an enabled latched wake source aborts it with WAKEABT; doze stops every PLL; pewter keeps the pewter domain only, and no memory. An enabled wake source returns doze to Run and pewter to boot step 2 with PSTATE.FROM; the wake pin latches bit 0 of WAKESRC in every state. -/
def Obligations.PowerStatesAndWake : Prop :=
  ∀ (s : State) (v : Word),
    let m : State := s.put .supPstate v
    (inReset s = false → s.pwr.state = .run → s.pwr.entering = none → s.pwr.fatal = false → fld v 24 8 = 0xA5 →
      (othersHeld s = true →
        (fld v 8 2 = 1 → exec (.dozeRequest (.part 0) v) s = .next ((enterFieldSafe
          { m with dio := { m.dio with dozeSafe := true }, pwr := { m.pwr with entering := some .doze } }).reply .ok)) ∧
        (fld v 8 2 = 2 → exec (.pewterRequest (.part 0) v) s = .next ((enterFieldSafe
          { m with dio := { m.dio with dozeSafe := true }, pwr := { m.pwr with entering := some .pewter } }).reply .ok))) ∧
      (othersHeld s = false → fld v 8 2 ≠ 0 → exec (.dozeRequest (.part 0) v) s = .next (s.reply .denied) ∧
        exec (.pewterRequest (.part 0) v) s = .next (s.reply .denied))) ∧
    (∀ dest, s.pwr.entering = some dest →
      let s0 := if dest = .pewter ∧ s.sto.vol ≠ none then writeAll s else s
      (s.clk.pewQ ≠ [] → exec .powerStateEntry s = .next s) ∧
      (s.clk.pewQ = [] → s0.rd .supWakesrc &&& s0.rd .supWakeen ≠ 0 → ∃ t, exec .powerStateEntry s = .next t ∧
        t.pwr = { s0.pwr with entering := none } ∧ t.rd .supPstate = s0.rd .supPstate ||| 8 ∧ t.dio.dozeSafe = false) ∧
      (s.clk.pewQ = [] → s0.rd .supWakesrc &&& s0.rd .supWakeen = 0 →
        (dest = .doze → ∃ t, exec .powerStateEntry s = .next t ∧ t.pwr.state = .doze ∧ t.pwr.entering = none ∧ t.clk.on = 0 ∧ t.clk.gates = 0) ∧
        (dest = .pewter → ∃ t, exec .powerStateEntry s = .next t ∧ t.pwr.state = .pewter ∧ t.mem = [] ∧ t.engs = [] ∧ t.parts = [] ∧
          t.pins.rstout = s0.pins.rstout ∧ t.pwr.entering = none ∧ t.clk.on = 0))) ∧
    (s.rd .supWakesrc &&& s.rd .supWakeen ≠ 0 →
      (s.pwr.state = .doze → s.pins.pfail = false → ∃ t, exec .wake s = .next t ∧ t.pwr.state = .run ∧ fld (t.rd .supPstate) 0 2 = 1 ∧
        t.dio.dozeSafe = false) ∧
      (s.pwr.state = .pewter → s.pins.wrst = true → ∃ t, exec .wake s = .next t ∧ t.pwr.state = .run ∧ t.pwr.fromPewter = true ∧
        t.pwr.boot = .step 2 ∧ t.clk.xaOn = true ∧ fld (t.rd .supPstate) 0 2 = 2)) ∧
    (s.rd .supWakesrc &&& s.rd .supWakeen = 0 → exec .wake s = .next s) ∧
    (tbHeld s = false → exec .wakePin s = .next (s.setBits .supWakesrc 1))

/-- Each of FUSE_LOAD, XA_DELAY_EXPIRY, XA_CONFIRM_TIMEOUT, PLL_LOCK, MEMORY_INIT_DONE, FOUNDRY_IMAGE_DONE, MICROCODE_LOADED and BOOT_STOP_REPEAT answers the next state named here, under conditions on the state and the operands alone. Outside the fatal halt: step 1 senses the fuses: a section whose check fails ends in the fatal halt, else, with WRST_L high, step 2 enables XA. XA confirmed by its delay and four windows, or not confirmed in time (then under FRC fallback with XAFAIL), leads to step 3 once WRST_L is high, in which the lock of the last powered PLL leads to step 4. Memory is zeroed unless a warm reset keeps it, and step 5 begins; with no link enabled it ends at once in step 6. With no FND slot to try the boot stops at step 6; the image of the slot tried is copied to physical 0; if it verifies, step 7 begins, else the next slot is tried or the boot stops; with no FIO slot to try the boot stops at step 7, and with FIO and NET chosen the foundry partition is released. A stopped boot repeats its line. -/
def Obligations.BootSequence : Prop :=
  ∀ (s : State),
    (s.pwr.boot = .step 1 → s.pwr.fatal = false →
      let s1 : State := { s with fuses := { s.fuses with shadow := sensed s.fuses } }
      (shadowOk s1 = false → exec .fuseLoad s = .next (fatalHalt 0 s1)) ∧
      (shadowOk s1 = true → s.pins.wrst = true → ∃ t, exec .fuseLoad s = .next t ∧ t.pwr = { s.pwr with boot := .step 2, wrstHold := none } ∧ t.clk.xaOn = true ∧
        t.clk.xaPass = 0 ∧ t.fuses = s1.fuses ∧ t.mem = s.mem)) ∧
    (s.pwr.boot = .step 2 → s.pwr.fatal = false → s.clk.xaOn = true →
      (s.clk.xaPass ≠ 4 → exec .xaDelayExpiry s = .next (s.setClk { s.clk with xaDelay := true })) ∧
      (s.clk.xaPass = 4 → exec .xaDelayExpiry s = .next (bootFrom 3 (s.setClk { s.clk with xaDelay := true }))) ∧
      (s.clk.xaDelay = true → exec .xaConfirmTimeout s = .next (bootFrom 3 (xaFallback s)))) ∧
    (s.pins.wrst = true → bootFrom 3 s = startStep3 (s.setPwr { s.pwr with wrstHold := none })) ∧
    (s.pins.wrst = false → bootFrom 3 s = s.setPwr { s.pwr with boot := .held, wrstHold := some 3 }) ∧
    (∀ n : Fin 4, s.clk.on.getLsbD n.val = true → s.clk.lock.getLsbD n.val = false →
      let k : Clocks := { s.clk with lock := s.clk.lock ||| BitVec.ofNat 4 (2 ^ n.val), onFrc := s.clk.onFrc &&& ~~~ BitVec.ofNat 4 (2 ^ n.val), engHeld := if n = 0 then false else s.clk.engHeld }
      (s.pwr.boot ≠ .step 3 ∨ s.pwr.fatal = true ∨ k.lock ≠ k.on → exec (.pllLock n) s = .next (s.setClk k)) ∧
      (s.pwr.boot = .step 3 → s.pwr.fatal = false → k.lock = k.on → exec (.pllLock n) s = .next { s with clk := k, pwr := { s.pwr with boot := .step 4 } })) ∧
    (s.pwr.boot = .step 4 → s.pwr.fatal = false →
      let s1 : State := if s.pwr.memKept then s else { s with mem := [], poison := [], ecc := [] }
      ((∀ l, l < 4 → (s.rd .stoLCtl l).getLsbD 31 = false) →
        ∃ t, exec .memoryInitDone s = .next t ∧ t.pwr.boot = .step 6 ∧ t.mem = s1.mem ∧ t.poison = s1.poison ∧ t.regs = s.regs) ∧
      ((s.rd .stoLCtl 0).getLsbD 31 = true →
        ∃ t, exec .memoryInitDone s = .next t ∧ t.pwr.boot = .step 5 ∧ (t.link 0).state = .train ∧ t.mem = s1.mem)) ∧
    (s.pwr.boot = .step 6 → s.pwr.fatal = false →
      let s1 := passOver 2 s
      (bootOrder s1 2 = [] → exec .foundryImageDone s = .next (bootStop 6 s1.sec.lastBad s1)) ∧
      ∀ k ks, bootOrder s1 2 = k :: ks →
        let r := trySlot 2 k [] (memWrite 0 (slotImage (s1.slot 2 k)) s1).2
        (r.1 = .ok → exec .foundryImageDone s = .next (r.2.setPwr { r.2.pwr with boot := .step 7 })) ∧
        (r.1 ≠ .ok → bootOrder (passOver 2 r.2) 2 = [] → exec .foundryImageDone s = .next (bootStop 6 r.1 (passOver 2 r.2))) ∧
        (r.1 ≠ .ok → bootOrder (passOver 2 r.2) 2 ≠ [] → exec .foundryImageDone s = .next (passOver 2 r.2))) ∧
    (s.pwr.boot = .step 7 → s.pwr.fatal = false →
      let f := trySlots 0 3 (s.setSec { s.sec with lastBad := .fault })
      let n := trySlots 1 3 (f.2.setSec { f.2.sec with lastBad := .fault })
      (f.1 = false → exec .microcodeLoaded s = .next (bootStop 7 f.2.sec.lastBad f.2)) ∧
      (f.1 = true → n.1 = false → exec .microcodeLoaded s = .next (bootStop 7 n.2.sec.lastBad n.2)) ∧
      (f.1 = true → n.1 = true → ∃ t, exec .microcodeLoaded s = .next t ∧ t.pins.rstout = true ∧ t.pwr.boot = .released)) ∧
    (∀ n st, s.pwr.boot = .stopped n st → exec .bootStopRepeat s = .next { s with sup := { s.sup with line := stopLine n st } })

/-- Each of XA_MONITOR_WINDOW, XB_MONITOR_WINDOW, XA_STOP, XB_STOP and XB_DELAY_EXPIRY answers the next state named here, under conditions on the state and the operands alone. While XA is on and the boot is not at step 2, a window of 7373 to 9011 passes, any other fails; one failing window is remembered, two in a row or a stop of an XA in use are the fallback: EPLL and FPLL unlocked on FRC, NPLL off, XAFAIL, the CLK alarm. At step 2 the fourth passing window after the delay ends the step: step 3 begins where WRST_L lets it. Once XBDLY has passed, a window of 113 to 137 of XB passes, and the fourth moves the pewter domain to XB; two failing ones or a stop set XBFAIL with an alarm and move it to SRC. The delay of XB counts from the fuse load on. -/
def Obligations.MonitorsAndFallback : Prop :=
  ∀ (s : State) (cnt : BitVec 16),
    let c := s.clk
    let xa := exec (.xaMonitorWindow cnt) s
    let xb := exec (.xbMonitorWindow cnt) s
    (c.xaOn = true → s.pwr.boot ≠ .step 2 →
      (7373 ≤ cnt.toNat → cnt.toNat ≤ 9011 → xa = .next { s with clk := { c with xaPass := min 4 (c.xaPass + 1), xaFail := 0 } }) ∧
      (cnt.toNat < 7373 ∨ 9011 < cnt.toNat → c.xaFail = 0 → xa = .next { s with clk := { c with xaPass := 0, xaFail := 1 } }) ∧
      (cnt.toNat < 7373 ∨ 9011 < cnt.toNat → c.xaFail = 1 → xaInUse s = true →
        xa = .next (xaFallback { s with clk := { c with xaPass := 0, xaFail := 0 } }))) ∧
    (c.xaOn = true → xaInUse s = true → exec .xaStop s = .next (xaFallback { s with clk := { c with xaPass := 0 } }) ∧
      ∃ t, exec .xaStop s = .next t ∧ t.clk.fallback = true ∧ t.clk.lock = c.lock &&& 0b1000 ∧ t.clk.on = c.on &&& 0b1011 ∧
        t.clk.onFrc = c.onFrc ||| 0b0111 ∧ (t.rd .clkMonstat).getLsbD 5 = true ∧ (t.rd .supAlmstat).getLsbD 1 = true) ∧
    (c.xaOn = true → s.pwr.boot = .step 2 → s.pwr.fatal = false → c.xaDelay = true → c.xaPass = 3 → 7373 ≤ cnt.toNat → cnt.toNat ≤ 9011 →
      xa = .next (bootFrom 3 { s with clk := { c with xaPass := 4, xaFail := 0 } })) ∧
    (c.xbDelay = false → xb = .next s ∧ exec .xbStop s = .next s) ∧
    (c.xbDelay = true →
      (113 ≤ cnt.toNat → cnt.toNat ≤ 137 → c.xbPass < 3 ∨ c.pewOnXb = true →
        xb = .next { s with clk := { c with xbPass := min 4 (c.xbPass + 1), xbFail := 0 } }) ∧
      (113 ≤ cnt.toNat → cnt.toNat ≤ 137 → c.xbPass = 3 → c.pewOnXb = false → tbSrc s = 0 →
        xb = .next { s with clk := { c with xbPass := 4, xbFail := 0, pewOnXb := true } }) ∧
      (cnt.toNat < 113 ∨ 137 < cnt.toNat → c.xbFail = 0 → xb = .next { s with clk := { c with xbPass := 0, xbFail := 1 } }) ∧
      (cnt.toNat < 113 ∨ 137 < cnt.toNat → c.xbFail = 1 → tbSrc s = 0 →
        xb = .next (alarm .clk { s.setBits .clkMonstat 64 with clk := { c with xbPass := 0, xbFail := 0, pewOnXb := false } })) ∧
      (tbSrc s = 0 → exec .xbStop s =
        .next (alarm .clk { s.setBits .clkMonstat 64 with clk := { c with xbPass := 0, pewOnXb := false } }))) ∧
    (fusesDue s = true → exec .xbDelayExpiry s = .next s) ∧
    (fusesDue s = false → exec .xbDelayExpiry s = .next { s with clk := { c with xbDelay := true } }) ∧
    (tbHeld s = false → bootPast s 1 = true → fusesDue s = false)

/-- Each of PLL_UNLOCK, CLOCK_REQUEST, PLL_HOLD_EXPIRY and EPLLFREQ_WRITE answers the next state named here, under conditions on the state and the operands alone. A locked running PLL that unlocks puts its domains on FRC and sets its UL bit with the CLK alarm. In Run a clock request opens the domain's gate; where its PLL is off it also starts it, unlocked, on FRC. A PLL other than TPLL whose hold is not FFFFh, not forced and without work in its domains powers down with its gates closed when the hold expires in Run. A foundry EPLLFREQ write with MULT of 20 to 40 other than the present, while the scheduler is disabled, sets it, unlocks EPLL and holds the engines; out of range or with the scheduler enabled it returns DENIED and changes nothing. -/
def Obligations.PllsAndEngineFrequency : Prop :=
  ∀ (s : State) (n : Fin 4) (d : Domain) (v : Word),
    let c := s.clk
    let b := BitVec.ofNat 4 (2 ^ n.val)
    (c.on.getLsbD n.val = true → c.lock.getLsbD n.val = true → exec (.pllUnlock n) s = .next (alarm .clk
      (({ s with clk := { c with lock := c.lock &&& ~~~ b, onFrc := c.onFrc ||| b } } : State).setBits .clkMonstat (bit n.val)))) ∧
    (∀ k, domPll d = some k → s.pwr.state = .run → (k = 2 → c.fallback = false) →
      let g := c.gates ||| BitVec.ofNat 7 (2 ^ domIdx d)
      let p := BitVec.ofNat 4 (2 ^ k)
      (c.on.getLsbD k = true → exec (.clockRequest d) s = .next { s with clk := { c with gates := g } }) ∧
      (c.on.getLsbD k = false → exec (.clockRequest d) s = .next { s with clk :=
        { c with gates := g, on := c.on ||| p, lock := c.lock &&& ~~~ p, onFrc := c.onFrc ||| p } })) ∧
    (n ≠ 3 → fld (s.rd .clkPllctl n) 16 16 ≠ 0xFFFF → (s.rd .clkPllctl n).getLsbD 1 = false → s.pwr.state = .run →
      pllWork s n = false → c.on.getLsbD n.val = true → exec (.pllHoldExpiry n) s = .next { s with clk :=
        { c with on := c.on &&& ~~~ b, lock := c.lock &&& ~~~ b, onFrc := c.onFrc ||| b, gates := c.gates &&& ~~~ pllGates n.val } }) ∧
    (s.schEn = false → 20 ≤ fld v 0 6 → fld v 0 6 ≤ 40 →
      (fld v 0 6 = fld (s.rd .clkEpllfreq) 0 6 → exec (.epllfreqWrite (.part 0) v) s = .next (s.reply .ok)) ∧
      (fld v 0 6 ≠ fld (s.rd .clkEpllfreq) 0 6 → exec (.epllfreqWrite (.part 0) v) s = .next (State.reply .ok
        { s.wr .clkEpllfreq (BitVec.ofNat 32 (fld v 0 6)) with clk := { c with
            mult := if c.fallback then fld v 0 6 * 9 / 10 else fld v 0 6, lock := c.lock &&& 0b1110, onFrc := c.onFrc ||| 0b0001, engHeld := true } }))) ∧
    (s.schEn = true ∨ fld v 0 6 < 20 ∨ 40 < fld v 0 6 → exec (.epllfreqWrite (.part 0) v) s = .next (s.reply .denied))

/-- Each of TBSLEW_WRITE, TIMEBASE_STEP, REPLICA_SYNC, TIMEBASE_HANDOVER and TBNS_LO_READ answers the next state named here, under conditions on the state and the operands alone. On an empty queue a step is one timebase tick (the model's choice, log 2): held in reset nothing changes; from the fast source with nothing pending the time grows by TBINC in units of 2^-28 ns, a pending step of k ns adds k, sets STEPPED and marks every comparator; the tick notes every enabled comparator whose compare time has come. A slew of at most 100 000 000 ns is taken, else DENIED; a step is DENIED while the scheduler is enabled, else it waits for the next tick and is recorded. A replica more than a tick away is reloaded with the TIM alarm. The hand-over changes SRC with at most 10 ns of error (log 47). TBNS_LO gives the low word and latches the others for the reader. -/
def Obligations.TimebaseCommands : Prop :=
  ∀ (s : State) (v : Word) (u : Fin 16) (x : BitVec 64),
    (s.pending = [] → step s = .next (tick s)) ∧
    (tbHeld s = true → tick s = s) ∧
    (tbHeld s = false → tbSrc s = 0 → s.tb.slew = 0 →
      let at' (k : Int) : Int := Int.ofNat (s.tb.ns * 2 ^ 28 + s.tb.frac) + Int.ofNat (s.rd .timTbinc).toNat + k * 2 ^ 28
      (s.tb.stepPend = none → tick s = markHits { s with tb := { s.tb with
        ns := (at' 0 / 2 ^ 28 % 2 ^ 64).toNat, frac := (at' 0 % 2 ^ 28).toNat } }) ∧
      ∀ k, s.tb.stepPend = some k → ∃ t, tick s = t ∧ (t.tb.ns : Int) = at' k / 2 ^ 28 % 2 ^ 64 ∧ t.tb.stepPend = none ∧
        t.tb.stepped = BitVec.allOnes 32 ∧ (t.rd .timTbstat).getLsbD 3 = true ∧ t.mem = s.mem ∧ t.engs = s.engs) ∧
    (markHits s = { s with tb := { s.tb with hit := (markHits s).tb.hit } } ∧ ∀ n, n < 32 → (markHits s).tb.hit.getLsbD n =
      ((s.rd .timTtCtl n).getLsbD 0 && decide ((s.rd .timTtCmpLo n).toNat + 2 ^ 32 * (s.rd .timTtCmpHi n).toNat ≤ s.now))) ∧
    (v.toInt.natAbs ≤ 100000000 → exec (.tbslewWrite (.part 0) v) s =
      .next (State.reply .ok { s with tb := { s.tb with slew := v.toInt * 2 ^ 28 } })) ∧
    (100000000 < v.toInt.natAbs → exec (.tbslewWrite (.part 0) v) s = .next (s.reply .denied)) ∧
    (s.schEn = true → exec (.timebaseStep (.part 0) v) s = .next (s.reply .denied)) ∧
    (s.schEn = false → exec (.timebaseStep (.part 0) v) s = .next (State.reply .ok (record .timeStep 0 [s.tb.stepLo, v]
      { s with tb := { s.tb with stepPend := some (BitVec.ofNat 64 (s.tb.stepLo.toNat + 2 ^ 32 * v.toNat)).toInt } }))) ∧
    (let d : Int := Int.ofNat x.toNat - Int.ofNat s.now
     (d.natAbs ≤ tickNs s → exec (.replicaSync u x) s = .next { s with tb := { s.tb with replica := Tab.set 0 s.tb.replica u.val d } }) ∧
     (tickNs s < d.natAbs → exec (.replicaSync u x) s = .next (alarm .tim { s with tb := { s.tb with replica := Tab.set 0 s.tb.replica u.val 0 } }))) ∧
    (fastOk s = true → tbSrc s = 0 → exec .timebaseHandover s = .next s) ∧
    (fastOk s = true → tbSrc s ≠ 0 → ∃ t, exec .timebaseHandover s = .next t ∧ tbSrc t = 0 ∧ t.free = s.free + 1 ∧
      (10 * 2 ^ 28 ≤ tbUnits s → tbUnits s + 10 * 2 ^ 28 < 2 ^ 92 → (tbUnits t - tbUnits s).natAbs ≤ 10 * 2 ^ 28)) ∧
    (fastOk s = false → tbSrc s = 0 → ∃ t, exec .timebaseHandover s = .next t ∧ tbSrc t = (if s.clk.pewOnXb then 1 else 2)) ∧
    (∀ p : Part, exec (.tbnsLoRead (.part p)) s = .next (((s.wrB p.toNat .timTbnsHi (hi32 s.now)).wrB p.toNat .timTbfrac
      (BitVec.ofNat 32 (s.tb.frac / 2 ^ 12))).answer .ok (lo32 s.now)))

/-- Each of COMPARATOR_ALLOCATE, COMPARATOR_CONTROL_WRITE, COMPARATOR_PERIOD_WRITE, COMPARATOR_FIRE, TRIG_EDGE, TRIG_STAMP_READ and PPS_PULSE_END answers the next state named here, under conditions on the state and the operands alone. The foundry partition allocates a free comparator; one owned by another is DENIED and recorded; VALID = 0 releases it and clears EN and ACT. A release, a CTL or a PER_S write in the tick of a fire comes after it (R72). A CTL write by the owner or the foundry sets CTL; it is DENIED with a REL or PPS action on a comparator that the foundry does not own, periodic with period 0, or, recorded, with a PPS output that another holds; by a partition that does not own it, DENIED. A period of 0 with the comparator not running periodically, or of 1000 to 4 000 000 000, is set where no release group is bound, or the group's partitions all have DIV 1 and the period is admitted; other values are DENIED. An armed comparator whose time has come sets FIRED, STEP where a step came before, MISSED and the first time after now where periods were missed, else the next compare time; a single shot clears EN; its actions follow in Run out of reset. Before its time nothing changes; actions owed from a fire that a write overtook are delivered. A trigger edge latches its wake source; with EN and no stamp held it stamps, exactly from the pewter source and within 8 ns from the fast one, and sets VALID, with a stamp held it sets OVR. Reading the stamp clears VALID. -/
def Obligations.ComparatorsTriggersAndPps : Prop :=
  ∀ (s : State) (n : Fin 32) (v : Word) (i : Fin 2) (rising : Bool) (p : Part) (meas : List Meas),
    let own := s.rd .timTtOwn n
    let ctl := s.rd .timTtCtl n
    let c := (s.rd .timTtCmpLo n).toNat + 2 ^ 32 * (s.rd .timTtCmpHi n).toNat
    let per := (s.rd .timTtPerS n).toNat
    let s0 := fireFirst n s
    (s.tb.hit.getLsbD n.val = false → s0 = s) ∧
    (s.tb.hit.getLsbD n.val = true → s0 = { fireRegs n s with tb := { (fireRegs n s).tb with
      owed := (fireRegs n s).tb.owed ++ [(n.val, c, ctl)] } }) ∧
    (v.getLsbD 31 = true →
      (own.getLsbD 31 = false ∨ fld own 0 10 = fld v 0 10 →
        exec (.comparatorAllocate (.part 0) n v) s = .next ((s.put .timTtOwn v n).reply .ok)) ∧
      (own.getLsbD 31 = true → fld own 0 10 ≠ fld v 0 10 →
        exec (.comparatorAllocate (.part 0) n v) s = .next ((recordDenied (fld v 0 10) n s).reply .denied))) ∧
    (v.getLsbD 31 = false → exec (.comparatorAllocate (.part 0) n v) s =
      .next (((s0.put .timTtOwn v n).clrBits .timTtCtl 0x7F01 n).reply .ok)) ∧
    (p ≠ 0 → ttOwnedBy s n p.toNat = false → exec (.comparatorControlWrite (.part p) n v) s = .next (s.reply .denied) ∧
      exec (.comparatorPeriodWrite (.part p) n v) s = .next (s.reply .denied)) ∧
    (p = 0 ∨ ttOwnedBy s n p.toNat = true →
      (v &&& 0x6400 ≠ 0 → ttOwnedBy s0 n 0 = false → exec (.comparatorControlWrite (.part p) n v) s = .next (s0.reply .denied)) ∧
      (v &&& 0x6400 = 0 ∨ ttOwnedBy s0 n 0 = true →
        (v.getLsbD 0 = true → v.getLsbD 1 = true → s0.rd .timTtPerS n = 0 →
          exec (.comparatorControlWrite (.part p) n v) s = .next (s0.reply .denied)) ∧
        ((v.getLsbD 0 = true → v.getLsbD 1 = true → s0.rd .timTtPerS n ≠ 0) →
          (ppsTaken s0 n (v &&& 0x7F07) = true →
            exec (.comparatorControlWrite (.part p) n v) s = .next ((recordDenied p.toNat n s0).reply .denied)) ∧
          (ppsTaken s0 n (v &&& 0x7F07) = false →
            exec (.comparatorControlWrite (.part p) n v) s = .next (State.reply .ok { s0.wr .timTtCtl (v &&& 0x7F07) n with
              tb := if v.getLsbD 0 && !(s0.rd .timTtCtl n).getLsbD 0 then { s0.tb with stepped := s0.tb.stepped &&& ~~~ bit n }
                else s0.tb })))) ∧
      (let okV : Prop := 1000 ≤ v.toNat ∧ v.toNat ≤ 4000000000 ∨
         v = 0 ∧ ((s0.rd .timTtCtl n).getLsbD 0 && (s0.rd .timTtCtl n).getLsbD 1) = false
       (¬ okV → exec (.comparatorPeriodWrite (.part p) n v) s = .next (s0.reply .denied)) ∧
       (okV → groupOf s0 n = none → exec (.comparatorPeriodWrite (.part p) n v) s = .next ((s0.wr .timTtPerS v n).reply .ok)) ∧
       ∀ g, okV → groupOf s0 n = some g →
         (∀ m ∈ members s0, (relGrp (s0.rd .schPdRelS m) = g → relDiv (s0.rd .schPdRelS m) = 1) ∧
           ((s0.part m).state.admitted = true → relGrp (s0.rdA .schPdRelS m) = g → relDiv (s0.rdA .schPdRelS m) = 1)) →
         admits (s0.wr .timTtPerS v n) ((members s0).filter (fun m => relGrp (s0.rd .schPdRelS m) = g)) = true →
         exec (.comparatorPeriodWrite (.part p) n v) s = .next ((s0.wr .timTtPerS v n).reply .ok))) ∧
    (∀ x, s.tb.owed.find? (fun y => decide (y.1 = n.val)) = some x →
      let s1 : State := { s with tb := { s.tb with owed := s.tb.owed.erase x } }
      exec (.comparatorFire n meas) s = .next (if s.pwr.state = .run ∧ inReset s = false then fireActions n x.2.1 x.2.2 meas s1 else s1)) ∧
    ((∀ x ∈ s.tb.owed, x.1 ≠ n.val) →
      (tbHeld s = true ∨ ctl.getLsbD 0 = false ∨ s.now < c → exec (.comparatorFire n meas) s = .next s) ∧
      (tbHeld s = false → ctl.getLsbD 0 = true → c ≤ s.now → exec (.comparatorFire n meas) s = .next
        (if s.pwr.state = .run ∧ inReset s = false then fireActions n c ctl meas (fireRegs n s) else fireRegs n s))) ∧
    (let t := fireRegs n s
     let missed := ctl.getLsbD 1 && decide (c + per ≤ s.now)
     t.rd .timTtStat n = (s.rd .timTtStat n ||| 1 ||| (if missed then 2 else 0) ||| (if s.tb.stepped.getLsbD n.val then 4 else 0)) ∧
     t.mem = s.mem ∧ t.tb.hit = s.tb.hit &&& ~~~ bit n ∧ t.tb.stepped = s.tb.stepped &&& ~~~ bit n ∧
     t.rd .supWakesrc = (s.rd .supWakesrc ||| (if ctl.getLsbD 2 then 8 else 0)) ∧
     (ctl.getLsbD 1 = false → t.rd .timTtCtl n = ctl &&& ~~~ 1 ∧ cmpOf t n = c) ∧
     (ctl.getLsbD 1 = true → t.rd .timTtCtl n = ctl ∧ t.rd .timTtPerA n = s.rd .timTtPerS n ∧
       (s.now < c + per → c + per < 2 ^ 64 → cmpOf t n = c + per) ∧
       (c + per ≤ s.now → 0 < per → s.now + per < 2 ^ 64 → s.now < cmpOf t n ∧ cmpOf t n ≤ s.now + per ∧ (cmpOf t n - c) % per = 0))) ∧
    (let g := s.rd .timTrigCtl i
     let s1 := s.setBits .supWakesrc (bit (1 + i.val))
     (tbHeld s = true ∨ rising = g.getLsbD 1 → exec (.trigEdge i rising) s = .next s) ∧
     (tbHeld s = false → rising ≠ g.getLsbD 1 →
       (g.getLsbD 0 = false → exec (.trigEdge i rising) s = .next s1) ∧
       (g.getLsbD 0 = true → g.getLsbD 3 = true → exec (.trigEdge i rising) s = .next (s1.setBits .timTrigCtl 4 i)) ∧
       (g.getLsbD 0 = true → g.getLsbD 3 = false → ∃ t, exec (.trigEdge i rising) s = .next t ∧ (t.rd .timTrigCtl i).getLsbD 3 = true ∧
         t.mem = s.mem ∧
         let time : Int := s.nowAt 0 * 65536 + Int.ofNat (s.tb.frac / 2 ^ 12)
         (524288 ≤ time → time + 524288 < 2 ^ 80 →
           (Int.ofNat (((t.rd .timTrigHi i).toNat * 2 ^ 32 + (t.rd .timTrigLo i).toNat) * 65536 + (t.rd .timTrigFrac i).toNat)
             - time).natAbs ≤ if tbSrc s = 0 then 524288 else 0)))) ∧
    exec (.trigStampRead (.part p) i) s = .next ((((s.wrB p.toNat .timTrigHi (s.rd .timTrigHi i) i).wrB p.toNat .timTrigFrac
      (s.rd .timTrigFrac i) i).clrBits .timTrigCtl 8 i).answer .ok (s.rd .timTrigLo i)) ∧
    exec (.ppsPulseEnd i) s = .next { s with tb := if i = 0 then { s.tb with pps0 := false } else { s.tb with pps1 := false } }

/-- Each of LANE_OUTPUT, VOTER_WINDOW_EXPIRY, SELF_ERROR, VOTER_DISAGREEMENT, RESYNC_DEFER_EXPIRY, RESYNC and RESYNC_DONE answers the next state named here, under conditions on the state and the operands alone. With no injection armed and no delayed output: in ALLOY3 with nothing presented, a lane's output waits; the second equal one is issued once, its response goes to both lanes and is held for the third, which has 8 cycles to match: equal and in time it gets the response, else it is odd. In ALLOY2 equal outputs within 8 cycles are issued, others fault the triad. An issued output makes its access in the partition's name. A window that closes makes the missing lane odd (after 8, with nothing else presented) or faults the triad (after 16, or 8 in ALLOY2). A corrected cache error is counted; any other, with nothing presented, makes a lane of ALLOY3 odd: ALLOY2, counted, RSPEND, with TEV bit 1 and the FAB alarm; a second lane of ALLOY2 faults the triad, as a disagreement of the voters does while they compare. A resync due at a job boundary enters RESYNC with the odd lane's half of the slot written; a flush mismatch is FAULTED; else the ingot is written, and three passing lanes give ALLOY3 with RSDONE, two ALLOY2 with the third odd, fewer FAULTED. -/
def Obligations.VoterAndResync : Prop :=
  ∀ (s : State) (t : Fin 32) (l m z : Lane) (cyc c : Nat) (o o' : BusOut) (a : Await) (pass : BitVec 3),
    let x := s.triad t
    let s0 := s.setTriad t x
    let out := exec (.laneOutput t l cyc o) s
    let win := exec (.voterWindowExpiry t cyc) s
    let two (i j : Lane) : List Lane := if i.idx < j.idx then [i, j] else [j, i]
    (∀ (u : State) (k : Nat) (sz : Size), enabledPart o.be = some (k, sz) →
      let v := u.setTriad t { u.triad t with issued := some o }
      issueOut t o u = if o.write then busWrite (triadWho u t) (o.addr.toNat + k) sz (o.data >>> (8 * k)) v
        else busRead (triadWho u t) (3 * t.val) (o.addr.toNat + k) sz v) ∧
    (x.state = .alloy3 → x.odd = none → x.inj = none → x.late = [] →
      (x.shown = [] → x.await = [] → out = .next (s.setTriad t { x with shown := [{ lane := l, cyc := cyc, out := o }] })) ∧
      (m ≠ l → x.shown = [{ lane := m, cyc := c, out := o }] → x.await = [] →
        let s1 := issueOut t o (s.setTriad t { x with shown := [] })
        let s2 := deliver t (two l m) s1.rsp s1
        headOf (s2.triad t) (thirdLane l m) = none → out = .next (s2.setTriad t { s2.triad t with
          await := (s2.triad t).await ++ [{ t2 := max c cyc, out := o, lane := thirdLane l m, rsp := s1.rsp }] })) ∧
      (x.shown = [] → x.await = [a] → a.lane = l →
        let s1 := s.setTriad t { x with await := [] }
        (o = a.out → cycDist cyc a.t2 ≤ 8 → out = .next (deliver t [l] a.rsp s1)) ∧
        (o = a.out → 8 < cycDist cyc a.t2 → out = .next (leftTwo t (laneOdd t l .time .alloy2 s1))) ∧
        (o ≠ a.out → out = .next (leftTwo t (laneOdd t l .diff .alloy2 s1)))) ∧
      (x.shown = [] → x.await = [a] → a.t2 + 8 < cyc → win = .next (leftTwo t (laneOdd t a.lane .time .alloy2 s0))) ∧
      (x.await = [] → x.shown = [{ lane := m, cyc := c, out := o }] →
        (c + 16 < cyc → win = .next (triadFails t s0)) ∧ (cyc ≤ c + 16 → win = .next s0))) ∧
    (x.state = .alloy3 → x.odd = none →
      exec (.selfError t ⟨l, false⟩) s = .next (leftTwo t (laneOdd t l .self .alloy2 s)) ∧
      (x.shown = [] → fld (s.rd .fabLanecfg) 0 4 = 0 → ∃ u, exec (.selfError t ⟨l, false⟩) s = .next u ∧ (u.triad t).state = .alloy2 ∧
        (u.triad t).odd = some l ∧ (u.triad t).cause = .self ∧ (u.triad t).rsPend = true ∧ (u.triad t).retired = x.retired ∧
        (u.rd .fabTev t).getLsbD 1 = true ∧ (u.rd .supAlmstat).getLsbD 3 = true ∧ u.mem = s.mem ∧ u.engs = s.engs ∧
        ∀ k : Nat, k ≠ t.val → u.triad k = s.triad k)) ∧
    exec (.selfError t ⟨l, true⟩) s = .next (s.setTriad t { x with l2Corr := Tab.set 0 x.l2Corr l.idx (Tab.get 0 x.l2Corr l.idx + 1) }) ∧
    (x.state = .alloy2 → x.odd = some z →
      exec (.laneOutput t z cyc o) s = .next s ∧
      (l ≠ z → exec (.selfError t ⟨l, false⟩) s = .next (triadFails t s)) ∧
      (x.inj = none → x.late = [] → x.await = [] → m ≠ z →
        (l ≠ z → l ≠ m → x.shown = [{ lane := m, cyc := c, out := o' }] →
          (o = o' → cycDist cyc c ≤ 8 →
            let s1 := issueOut t o (s.setTriad t { x with shown := [] })
            out = .next (deliver t (two l m) s1.rsp s1)) ∧
          (o ≠ o' ∨ 8 < cycDist cyc c → out = .next (triadFails t (s.setTriad t
            { x with shown := [{ lane := m, cyc := c, out := o' }, { lane := l, cyc := cyc, out := o }] })))) ∧
        (x.shown = [{ lane := m, cyc := c, out := o }] → c + 8 < cyc → win = .next (triadFails t s0)))) ∧
    (alloyRuns s t = true ∨ x.state = .resync ∨ x.state = .handover ∧ splitMode s t = true →
      exec (.voterDisagreement t) s = .next (triadFails t s) ∧
      ((s.eng (3 * t.val)).job = none → ∃ u, exec (.voterDisagreement t) s = .next u ∧ (u.triad t).state = .faulted ∧
        (u.triad t).shown = [] ∧ (u.triad t).issued = x.issued ∧ (u.rd .fabTev t).getLsbD 4 = true ∧ (u.rd .supAlmstat).getLsbD 3 = true ∧
        u.mem = s.mem ∧ u.engs = s.engs ∧ ∀ k : Nat, k ≠ t.val → u.triad k = s.triad k)) ∧
    (x.rsPend = true → exec (.resyncDeferExpiry t) s = .next (s.setTriad t { x with rsDue := true })) ∧
    (x.state = .alloy2 → x.rsPend = true → x.rsDue = true → triadIdle s t = true → exec (.resync t) s = .next (enterResync t s) ∧
      ∃ u, exec (.resync t) s = .next u ∧ (u.triad t).state = .resync ∧ (u.triad t).rsStart = s.now ∧ (u.triad t).ingots = x.ingots ∧
        u.engs = s.engs ∧ u.bytes (ingotBase + t.val * 512 + 256) 256 = diagBytes t (x.ingots + 1) s.free) ∧
    (x.state = .resync →
      let s1 := writeIngot t s
      s1.bytes (ingotBase + t.val * 512) 256 = ingotBytes t (x.ingots + 1) ∧ (s1.triad t).ingots = x.ingots + 1 ∧
      exec (.resyncDone t pass false) s = .next (triadFails t s) ∧
      (x.swapped = false → x.haltPend = false → wantsSplit s t = splitMode s t →
        (exec (.resyncDone t 7 true) s = .next (loadIdle t (resyncCount t (s1.setTriad t { s1.triad t with
          state := .alloy3, odd := none, rsPend := false, rsDue := false, before := .alloy3 })))) ∧
        (failedLanes pass = [l] → fld (s.rd .fabLanecfg) 0 4 = 0 → ∃ u, exec (.resyncDone t pass true) s = .next u ∧
          (u.triad t).state = .alloy2 ∧ (u.triad t).odd = some l ∧ (u.triad t).cause = .self)) ∧
      (2 ≤ (failedLanes pass).length → exec (.resyncDone t pass true) s = .next (resyncFails t (failedLanes pass) s1)))

/-- Each of MODE_REQUEST, HANDOVER_BOUNDARY, BIST_COMPLETE, SPLIT_COMPLETE, MERGE_COMPLETE, ENGINE_ERROR, HALT_REQUEST, DEBUG_RESUME, DEBUG_STEP and FAULT_INJECTION answers the next state named here, under conditions on the state and the operands alone. A TCTL_S write that keeps MODE is taken; one that asks for split while both admission checks hold puts a triad that runs into QUIESCE, else it is DENIED with ADMFAIL; MODE of 2 or 3 is DENIED; in FAULTED the write swaps at once and starts the self-test. At a job boundary QUIESCE swaps TCTL and enters RESYNC where one is pending, else BIST or HANDOVER; a test that all lanes pass goes to HANDOVER; the hand-over ends in SPLIT or ALLOY3 with HOVER, and in QUIESCE again where the shadow MODE differs. A failing merge faults the triad with the lanes retired. A split engine that fails is stopped alone. The debug port halts, resumes (HALTREQ 0) and steps one decoded instruction with the lanes then halted again, and a halted access issues afresh; a partition's TDBG write is DENIED. An injection is armed in ALLOY3 only, BUSY with one armed. -/
def Obligations.SplitMergeHaltAndInjection : Prop :=
  ∀ (s : State) (t : Fin 32) (v : Word) (e : Fin 96) (pass : BitVec 3),
    let x := s.triad t
    let s1 := s.put .fabTctlS v t
    (x.state = .alloy3 → splitMode s t = false → fld v 0 2 = 0 → x.retired = 0 →
      exec (.modeRequest (.part 0) t v) s = .next (s1.reply .ok)) ∧
    (x.state = .alloy3 → splitMode s t = false → fld v 0 2 = 1 →
      let s2 := s1.setTriad t { x with state := .quiesce, before := .alloy3, req := true, inj := none }
      (capA s2 ≠ 0 → check1 s2 = true → check2 s2 = true → exec (.modeRequest (.part 0) t v) s = .next (s2.reply .ok)) ∧
      (capA s2 = 0 ∨ check1 s2 = false ∨ check2 s2 = false → exec (.modeRequest (.part 0) t v) s = .next (admFail s))) ∧
    (2 ≤ fld v 0 2 → exec (.modeRequest (.part 0) t v) s = .next (s.reply .denied)) ∧
    (x.state = .faulted → fld v 0 2 = 0 → x.retired = 0 → exec (.modeRequest (.part 0) t v) s = .next
      (((s1.wr .fabTctlA (s1.rd .fabTctlS t) t).setTriad t { x with state := .bist, req := true, swapped := true }).reply .ok)) ∧
    (x.state = .quiesce → triadIdle s t = true →
      let a := s.rd .fabTctlS t
      let sw := s.wr .fabTctlA a t
      let y : Triad := { x with swapped := true, rsPend := false, rsDue := false }
      (x.rsPend = false → a.getLsbD 2 = true ∨ fld a 0 2 = 1 ∧ x.odd ≠ none →
        exec (.handoverBoundary t) s = .next (sw.setTriad t { y with state := .bist })) ∧
      (x.rsPend = false → a.getLsbD 2 = false → fld a 0 2 ≠ 1 ∨ x.odd = none →
        exec (.handoverBoundary t) s = .next (sw.setTriad t { y with state := .handover })) ∧
      ∀ l : Lane, x.rsPend = true → x.odd = some l → x.retired.getLsbD l.idx = false →
        exec (.handoverBoundary t) s = .next (enterResync t (sw.setTriad t { x with swapped := true }))) ∧
    (x.state = .bist → x.retired = 0 → exec (.bistComplete t 7) s = .next (s.setTriad t { x with state := .handover })) ∧
    (x.state = .bist → splitMode s t = true → pass ≠ 0 → x.retired = 0 → ∃ u, exec (.bistComplete t pass) s = .next u ∧
      (u.triad t).state = .handover ∧ (u.triad t).retired = ~~~ pass ∧ u.engs = s.engs ∧ u.mem = s.mem) ∧
    (∀ u : State, (u.triad t).state = .split ∨ (u.triad t).state = .alloy3 →
      (wantsSplit u t = splitMode u t → modeFollow t u = u) ∧
      (wantsSplit u t ≠ splitMode u t → modeFollow t u = u.setTriad t { u.triad t with
        state := .quiesce, before := (u.triad t).state, req := true, inj := none })) ∧
    (x.state = .handover → x.haltPend = false →
      let done (st : TState) (u : State) : State := modeFollow t (triadEvent t 1 (u.setTriad t { x with
        state := st, odd := none, req := false, swapped := false, stopped := 0, rsPend := false, rsDue := false, shown := [],
        await := [], late := [], issued := none, got := [] }))
      (splitMode s t = true → exec (.splitComplete t) s = .next (done .split s)) ∧
      (splitMode s t = false → x.retired = 0 → exec (.mergeComplete t 7) s = .next (done .alloy3 (loadIdle t s))) ∧
      (splitMode s t = false → pass ≠ 7 → exec (.mergeComplete t pass) s = .next (triadFails t (retireLanes t (~~~ pass) s)))) ∧
    (execSplit s e.val = true → (s.eng e.val).job = none → ∃ u, exec (.engineError e) s = .next u ∧
      (u.triad (e.val / 3)).stopped.getLsbD (e.val % 3) = true ∧ (u.triad (e.val / 3)).state = (s.triad (e.val / 3)).state ∧
      (u.rd .fabTev (e.val / 3)).getLsbD 4 = true ∧ (u.rd .supAlmstat).getLsbD 3 = true ∧ u.engs = s.engs ∧ u.mem = s.mem) ∧
    (∀ p, exec (.haltRequest (.part p) t v) s = .next (s.reply .denied) ∧ exec (.debugResume (.part p) t v) s = .next (s.reply .denied) ∧
      exec (.debugStep (.part p) t v) s = .next (s.reply .denied)) ∧
    (∀ u : State, ((∀ k, k < 3 → (u.eng (3 * t.val + k)).retry = none) → dropRetries t u = u) ∧
      ∀ k, k < 3 → execHalted u (3 * t.val + k) = true → ((dropRetries t u).eng (3 * t.val + k)).retry = none) ∧
    (debugWrites s = true → fld v 4 2 ≠ 3 →
      let m := dbgLanes s t v
      let held : Triad := { x with halted := x.halted ||| m }
      let freed : Triad := { x with haltPend := false, halted := x.halted &&& ~~~ m }
      (inHandover s t = false → exec (.haltRequest .dbg t v) s = .next
        ((dropRetries t ((s.put .fabTdbg (v ||| 1) t).setTriad t held)).reply .ok)) ∧
      (inHandover s t = true → exec (.haltRequest .dbg t v) s = .next
        ((dropRetries t ((s.put .fabTdbg (v ||| 1) t).setTriad t { x with haltPend := true })).reply .ok)) ∧
      exec (.debugResume .dbg t v) s = .next
        ((dropRetries t ((s.put .fabTdbg (v &&& ~~~ 1) t).setTriad t freed)).reply .ok) ∧
      (inHandover s t = false →
        let y : Triad := if v.getLsbD 0 then held else freed
        let k := dbgExec s t v
        let s2 := ((dropRetries t ((s.put .fabTdbg (v ||| 2) t).setTriad t y)).reply .ok).setTriad t
          { y with halted := y.halted &&& ~~~ m }
        let u := s2.setEng k.val { s2.eng k.val with retry := none }
        ∀ pa i, fetchAt u k.val = some pa → gleigDecode k (u.word pa) = some i → ∃ r, exec i u = .next r ∧
          exec (.debugStep .dbg t v) s = .next { r.setTriad t { r.triad t with halted := (r.triad t).halted ||| m } with
            rsp := { st := .ok, val := 0 } })) ∧
    (fld v 8 2 ≠ 3 → fld v 0 2 ≠ 3 →
      let z := s.triad (fld v 16 5)
      let ln := if fld v 8 2 = 0 then Lane.a else if fld v 8 2 = 1 then Lane.b else Lane.c
      (z.state = .alloy3 → z.req = false → v.getLsbD 31 = true → z.inj = none → exec (.faultInjection (.part 0) v) s = .next
        ((s.setTriad (fld v 16 5) { z with inj := some (ln, BitVec.ofNat 2 (fld v 0 2)) }).reply .ok)) ∧
      (z.state = .alloy3 → z.req = false → v.getLsbD 31 = true → z.inj ≠ none →
        exec (.faultInjection (.part 0) v) s = .next (s.reply .busy)) ∧
      (z.state = .alloy3 → z.req = false → v.getLsbD 31 = false → exec (.faultInjection (.part 0) v) s = .next (s.reply .ok)) ∧
      (z.state ≠ .alloy3 → exec (.faultInjection (.part 0) v) s = .next (s.reply .denied)))

/-- Each of DESCRIPTOR_WRITE, RELEASE_GROUP_WRITE, FORCE_ENTRY_WRITE, FORCEIND_WRITE, STOP, RESET, PARTITION_RESET_COMPLETE, RESTART, SCHEDULER_ENABLE, SCHEDULER_DISABLE, TAKE_REQUEST and REPLY_PUBLISH answers the next state named here, under conditions on the state and the operands alone. A descriptor word that admission does not decide is put; CTL of a wrong class is DENIED; a write that sets EN, or changes the home, period, budget or sizes of an admitted partition, is put when the checks hold (a fresh EN numbered: the model's reading, log 156) and else is DENIED with ADMFAIL. A release group bound to a foundry comparator, free and unused, is put; one that another group is bound to is DENIED and recorded; a force entry with its offset inside the image is put, a bad one DENIED. STOP stops an existing partition with its safe image committed, and LASTEND FEh where a job was open; RESET also marks it resetting and its completion clears MK and disables its comparators; RESTART of a stopped or shed one that passes admission lets it wait for its swap (log 98), with a shadow EN of 0 or failed checks DENIED with ADMFAIL. Enabling admits, waits all its partitions and stops the watchdog; disabling holds the admitted ones on safe images. SVCREQ0 takes the earliest request; RPLGO publishes a reply, DENIED for the foundry or a closed partition. -/
def Obligations.SchedulerWritesAndCommands : Prop :=
  ∀ (s : State) (n : Part) (v : Word) (k : Fin 8),
    let m := n.toNat
    let w : Who := .part 0
    let p := s.part m
    let dw (k : Fin 8) := exec (.descriptorWrite w n k v) s
    (k.val = 4 ∨ k.val = 5 ∨ k.val = 7 → dw k = .next ((s.put (pdReg k.val) v m).reply .ok)) ∧
    dw 3 = .next ((s.put .schPdEntryS (v &&& ~~~ 3) m).reply .ok) ∧
    (k.val = 2 ∨ k.val = 6 ∨ k.val = 1 ∧ relOfs v < relDiv v →
      (isMember s m = false → pdRuns s m k.val v = false) ∧
      (pdRuns s m k.val v = false ∨ admits (s.put (pdReg k.val) v m) [m] = true → dw k = .next ((s.put (pdReg k.val) v m).reply .ok)) ∧
      (pdRuns s m k.val v = true → admits (s.put (pdReg k.val) v m) [m] = false → dw k = .next ((s.setBits .schStat 1).reply .denied))) ∧
    (relDiv v ≤ relOfs v → dw 1 = .next (s.reply .denied)) ∧
    (pdCtlBad s m v = true → dw 0 = .next (s.reply .denied)) ∧
    (pdCtlBad s m v = false →
      let moves : Prop := fld v 8 8 ≠ fld (ctlS s m) 8 8
      let s1 := (if moves then s.setPart m { p with moved := false } else s).put .schPdCtlS v m
      let runs : Prop := pdEn v = true ∨ isMember s m = true ∧ moves
      (runs → admits s1 [m] = false → dw 0 = .next ((s.setBits .schStat 1).reply .denied)) ∧
      (¬ runs ∨ admits s1 [m] = true →
        (pdEn v = true → pdEn (ctlS s m) = false → p.state.admitted = false → dw 0 = .next ((admNumber m s1).reply .ok)) ∧
        (pdEn v = false ∨ pdEn (ctlS s m) = true ∨ p.state.admitted = true → dw 0 = .next (s1.reply .ok)))) ∧
    (∀ g : Fin 16, (s.rd .timTtOwn (fld v 0 5)).getLsbD 31 = true → fld (s.rd .timTtOwn (fld v 0 5)) 0 10 = 0 → groupUsed s g = false →
      (∀ h, h < 16 → h ≠ g.val → groupOk s h = true → groupCmp s h ≠ fld v 0 5) → exec (.releaseGroupWrite w g v) s = .next (State.reply .ok
        (if v.getLsbD 31 && !groupOk s g then (s.put .schRg v g).wr .schRgCnt 0 g else s.put .schRg v g))) ∧
    (∀ g h : Fin 16, h ≠ g → groupOk s h = true → groupCmp s h = fld v 0 5 → exec (.releaseGroupWrite w g v) s =
      .next ((recordDenied 0 (fld v 0 5) s).reply .denied)) ∧
    (∀ (i : BitVec 8) (j : Fin 3),
      let r : Reg := if j = 0 then .schFrcS else if j = 1 then .schFrcOfsS else .schFrcValS
      (forceBad (s.put r v i.toNat) i.toNat = false → exec (.forceEntryWrite w i j v) s = .next ((s.put r v i.toNat).reply .ok)) ∧
      (forceBad (s.put r v i.toNat) i.toNat = true → exec (.forceEntryWrite w i j v) s = .next (s.reply .denied))) ∧
    (let o := s.rd .supPinown (96 + fld v 0 6)
     (o.getLsbD 31 = true ∧ fld o 12 2 = 1 → exec (.forceindWrite w v) s = .next ((s.put .schForceind v).reply .ok)) ∧
     (o.getLsbD 31 = false ∨ fld o 12 2 ≠ 1 → exec (.forceindWrite w v) s = .next ((recordDenied 0 (96 + fld v 0 6) s).reply .denied))) ∧
    (m = 0 ∨ p.state = .off → exec (.stop w n) s = .next (s.reply .denied) ∧ exec (.reset w n) s = .next (s.reply .denied)) ∧
    (m ≠ 0 → p.state ≠ .off →
      (∃ t, exec (.stop w n) s = .next t ∧ (t.part m).state = .stopped ∧ (t.part m).safe = true ∧ (t.part m).bnd = none ∧
        (t.part m).svc = [] ∧ t.rsp = { st := .ok, val := 0 } ∧
        (t.part m).lastEnd = if (execOf s m).isSome || (jobOpen p && !p.ended) then 0xFE else p.lastEnd) ∧
      (∃ t, exec (.reset w n) s = .next t ∧ (t.part m).state = .stopped ∧ (t.part m).safe = true ∧ (t.part m).resetting = true ∧
        t.rsp = { st := .ok, val := 0 })) ∧
    (p.resetting = true → ∃ t, exec (.partitionResetComplete n) s = .next t ∧ (t.part m).resetting = false ∧
      (∀ a, t.byte a = if s.mkAddr m ≤ a ∧ a < s.mkAddr m + s.mkSize m then 0 else s.byte a) ∧
      ∀ c, c < 32 → t.rd .timTtCtl c = if ttOwnedBy s c m then s.rd .timTtCtl c &&& ~~~ 1 else s.rd .timTtCtl c) ∧
    (m = 0 ∨ p.state ≠ .stopped ∧ p.state ≠ .shed → exec (.restart w n) s = .next (s.reply .denied)) ∧
    (m ≠ 0 → p.state = .stopped ∨ p.state = .shed →
      let s1 := s.setPart m { p with state := if s.schEn then .wait else .held, first := true, count := 0, autoRst := false, swapDue := true }
      (pdEn (ctlS s m) = true → admits s1 [m] = true → exec (.restart w n) s = .next ((admNumber m s1).reply .ok)) ∧
      (pdEn (ctlS s m) = false ∨ admits s1 [m] = false → exec (.restart w n) s = .next ((s.setBits .schStat 1).reply .denied))) ∧
    (s.schEn = true → exec (.schedulerEnable w) s = .next (s.reply .ok) ∧ ∃ t, exec (.schedulerDisable w) s = .next t ∧ t.rd .schCtl = 0 ∧
      t.sch.due = [] ∧ t.sup.kto = some (fld (s.rd .supFwdg) 0 16) ∧ t.rsp = { st := .ok, val := 0 } ∧
      ∀ x q, (x, q) ∈ s.parts → x ≠ 0 → s.part x = q → q.state.admitted = true → (t.part x).state = .held ∧ (t.part x).safe = true) ∧
    (s.schEn = false → exec (.schedulerDisable w) s = .next (s.reply .ok) ∧
      (let all := (List.range 1024).filter (fun n => pdEn (ctlS s n))
       (admitsAll s all = false → exec (.schedulerEnable w) s = .next ((s.setBits .schStat 1).reply .denied)) ∧
       (admitsAll s all = true → ∃ t, exec (.schedulerEnable w) s = .next t ∧ t.rd .schCtl = 1 ∧ t.sch.enabledOnce = true ∧ t.sup.kto = none ∧
         t.rsp = { st := .ok, val := 0 } ∧ ∀ x, x ∈ all → x ≠ 0 → (s.part x).state ≠ .stopped → (s.part x).state ≠ .shed →
           (t.part x).state = .wait))) ∧
    (svcFirst s = none → exec (.takeRequest w) s = .next ((latchReq [] s).answer .ok 0)) ∧
    (∀ x r, svcFirst s = some (x, r) → exec (.takeRequest w) s = .next ((latchReq (r.seq :: r.args)
      (s.setPart x { s.part x with svc := (s.part x).svc.drop 1 })).answer .ok (BitVec.ofNat 32 (2 ^ 31 + r.num.toNat * 65536 + x)))) ∧
    (let x := fld (s.rd .schRplsel) 0 10
     let st := (s.part x).state
     x = 0 ∨ st = .off ∨ st = .stopped ∨ st = .shed ∨ st = .held → exec (.replyPublish w v) s = .next (s.reply .denied)) ∧
    (let q := s.part (fld (s.rd .schRplsel) 0 10)
     fld (s.rd .schRplsel) 0 10 ≠ 0 → q.state = .wait ∨ q.state = .queued ∨ q.state = .run → v.getLsbD 0 = true →
      let d : Reply := { seq := 0, st := 0, words := [] }
      let r : Reply := { seq := s.rd .schRpl0, st := BitVec.ofNat 8 (fld (s.rd .schRpl1) 0 8), words := (List.range 6).map (fun i => s.rd .schRpl i) }
      exec (.replyPublish w v) s = .next ((s.setPart (fld (s.rd .schRplsel) 0 10)
        { q with rpl := Tab.set d q.rpl (fld (s.rd .schRplsel) 16 2) r }).reply .ok))

/-- Each of RELEASE, SNAPSHOT_COMPLETE, DISPATCH, STEAL, BUDGET_EXPIRY, COMMIT_MARGIN_EXPIRY, BOUNDARY and SHEDDING answers the next state named here, under conditions on the state and the operands alone. A due release of a waiting partition queues its job: release time, boundary one period later, snapshot begun. The snapshot's end, where no other copy comes first, applies held writes and input forces. An idle executor in service starts its own first job, or else a stolen one, with cleared registers at the entry address and the descriptor's traps, or the foundry's continuous job when due; with none it does nothing. A budget that ends a job, and a margin without CYEND, count a miss with LASTEND FFh and STAT.MISS; a job that reported is left alone. At the boundary of a job that reported, the pending buffer becomes the committed one. With both capacity checks passing nothing is shed; else the pick is SHED with STAT.SHED, and LASTEND FEh where it ran. -/
def Obligations.ReleasesDispatchAndBoundaries : Prop :=
  ∀ (s : State) (n : Part) (e : Exe) (g : Fin 16) (T : Nat) (b : BitVec 64),
    let m := n.toNat
    let p := s.part m
    let sw0 (x : Nat) : Word := (if x = 0 then 0x8000 else 0) ||| (s.rdA .schPdTrapS x &&& 0xF8)
    let en (e : Nat) (x : Nat) : Engine :=
      { pc := s.rdA .schPdEntryS x &&& 0xFFFFFFFC, job := some (BitVec.ofNat 10 x), start := s.now, sw := sw0 x, cont := decide (e = 0 ∧ s.sch.contPend = true) }
    (s.sch.due = [(g.val, n, T)] → p.state = .wait → p.bnd = none → s.schEn = true → s.pwr.fatal = false → s.pwr.state = .run →
      (s.pwr.classNHeld = false ∨ s.cls m ≠ 2) →
      exec (.release g) s = .next (releasePart m T { s with sch := { s.sch with due := [] } }) ∧
      ∃ t, exec (.release g) s = .next t ∧ (t.part m).state = .queued ∧ (t.part m).bnd = some (T + periodA s m) ∧
        (t.part m).snapping = true ∧ (t.part m).jib.rel = T ∧ (t.part m).jib.ddl = T + periodA s m ∧ (t.part m).jib.count = p.count ∧
        (t.part m).count = p.count + 1 ∧ (t.part m).first = false ∧ (t.part m).done = false ∧ t.engs = s.engs) ∧
    (p.snapping = false ∨ (∃ q, q ∈ s.parts ∧ copiedBefore s q.1 m = true) → exec (.snapshotComplete n) s = .next s) ∧
    (p.snapping = true → (∀ q, q ∈ s.parts → copiedBefore s q.1 m = false) → exec (.snapshotComplete n) s = .next (applyForces m false (s.iiAddr m) (s.iiSize m)
      (writeCells p.heldW (s.setPart m { p with snapping := false, heldW := [] })))) ∧
    (execIdle s e.val = true → execTakes s e.val = true →
      (e.val ≠ 0 ∨ s.sch.contPend = false →
        (∀ x, ownPick s e.val = some x → ∃ t, exec (.dispatch e) s = .next t ∧ t.eng e.val = en e.val x ∧ (t.part x).state = .run ∧
          (t.part x).exec = execByte s e.val ∧ (t.part x).steal = false ∧ t.mem = s.mem ∧ t.regs = s.regs ∧
          ∀ y, y ≠ x → t.part y = s.part y) ∧
        (ownPick s e.val = none → exec (.dispatch e) s = .next s)) ∧
      (e.val = 0 → s.sch.contPend = true → execSplit s 0 = false → ∃ t, exec (.dispatch e) s = .next t ∧ t.eng 0 = en 0 0 ∧
        t.sch.contPend = false ∧ (t.part 0).state = .run ∧ (t.part 0).bnd = none ∧ t.mem = s.mem) ∧
      (ownPick s e.val = none → ∀ x, stealPick s e.val = some x → ∃ t, exec (.steal e) s = .next t ∧
        t.eng e.val = { en e.val x with cont := false } ∧ (t.part x).state = .run ∧ (t.part x).steal = true ∧ t.mem = s.mem ∧
        ∀ y, y ≠ x → t.part y = s.part y)) ∧
    (∀ x, (s.eng e.val).job = some x →
      ((s.eng e.val).cont = true → exec (.budgetExpiry e) s = .next s) ∧
      ((s.eng e.val).cont = false → s.sch.contPend = false →
        exec (.budgetExpiry e) s = .next (miss x.toNat 0xFF false (killExec e.val 0xFF s)) ∧
        ∃ t, exec (.budgetExpiry e) s = .next t ∧ t.eng e.val = {} ∧ (t.part x.toNat).lastEnd = 0xFF ∧ (t.rd .schStat).getLsbD 1 = true)) ∧
    (p.bnd = none ∨ p.done = true ∨ p.ended = true → exec (.commitMarginExpiry n) s = .next s) ∧
    (p.bnd ≠ none → p.done = false → p.ended = false → ∃ t, exec (.commitMarginExpiry n) s = .next t ∧ (t.part m).lastEnd = 0xFF ∧
      (t.rd .schStat).getLsbD 1 = true) ∧
    ((∀ x y, (x, y) ∈ s.parts → y.bnd ≠ some b.toNat) → s.sch.due = [] → exec (.boundary b) s = .next s) ∧
    (s.parts = [(m, p)] → p.bnd = some b.toNat → p.done = true → p.rehome = false → s.sch.due = [] → ∃ t, exec (.boundary b) s = .next t ∧
      (t.part m).bufY = !p.bufY ∧ (t.part m).safe = false ∧ (t.part m).lastDone = true ∧ (t.part m).bnd = none ∧ (t.part m).done = false ∧
      t.engs = s.engs) ∧
    (check1 s = true → check2 s = true → exec .shedding s = .next s) ∧
    (∀ x, check1 s = true → check2 s = false → shedPick s (fun _ => true) = some x → check2 (shedPart x s) = true →
      exec .shedding s = .next (shedPart x s) ∧ ∃ t, exec .shedding s = .next t ∧ (t.part x).state = .shed ∧ (t.part x).safe = true ∧
        ((execOf s x).isSome = true → (t.part x).lastEnd = 0xFE) ∧ (t.rd .schStat).getLsbD 2 = true)

/-- Each of REGION_ATTR_WRITE, SCRUB, TRANSFER_REQUEST, TARGET_GRANT, BACKGROUND_AGE_EXPIRY, KEY_WRITE and KEY_ERASE answers the next state named here, under conditions on the state and the operands alone. A foundry ATTR write that leaves the entry invalid, or valid and within R193, is put in the shadow entry of the selected partition; else it is DENIED. An error comes into a line; a running scrubber that reads it does nothing to a sound line, counts a corrected single error, counts a device error with an alarm at each 1024th, or poisons a line with an uncorrectable error, latching its address with alarm and record. In Run a requester with nothing pending at the target of its address is queued, an urgent one takes the grant of a holder that is not; a free target grants the oldest of the highest band, promoting one preempted three times; an aged background transfer counts as normal. A key word is written; the last one of the slot's type counts the write and sets FULL; an erase empties the slot. -/
def Obligations.RegionsScrubbingArbitrationAndKeys : Prop :=
  ∀ (s : State) (k : Fin 16) (v : Word) (line addr : BitVec 40) (tgt : Fin 14) (req : BitVec 8) (beats : BitVec 7) (cyc : Nat) (slot : Fin 32) (i : Fin 8),
    let n := fld (s.rd .memRtsel) 0 10
    let a := Reg.merge .memRgnAttrS (s.rdB n .memRgnAttrS k) v
    let x := s.target tgt
    let r := req.toNat
    let t : Transfer := { req := r, band := reqBand s r, ord := cyc, beats := beats.toNat, pre := 0, part := BitVec.ofNat 10 ((reqPart s r).getD 0) }
    let l := line.toNat
    (a.getLsbD 31 = false ∨ regionOk n k { s.regionS n k with attr := a } s = true →
      exec (.regionAttrWrite (.part 0) k v) s = .next ((s.wrB n .memRgnAttrS a k).reply .ok)) ∧
    (a.getLsbD 31 = true → regionOk n k { s.regionS n k with attr := a } s = false →
      exec (.regionAttrWrite (.part 0) k v) s = .next (s.reply .denied)) ∧
    (∀ p, p ≠ 0 → exec (.regionAttrWrite (.part p) k v) s = .next (s.reply .denied) ∧ exec (.keyWrite (.part p) slot i v) s = .next (s.reply .denied) ∧
      exec (.keyErase (.part p) slot) s = .next (s.reply .denied)) ∧
    (isMem l 1 = true →
      let ran : Prop := (s.rd .memScrub).getLsbD 0 = true ∧ s.pwr.state = .run
      let c : State := { s with ecc := Tab.set .none s.ecc (l / 64) .none }
      (¬ ran → ∀ e : EccErr, exec (.scrub line e) s = .next
        (if e = .none then s else { s with ecc := Tab.set .none s.ecc (l / 64) e })) ∧
      (ran → s.poison.contains (l / 64) = true → exec (.scrub line .none) s = .next (s.setBits .memEccstat 8)) ∧
      (ran → s.poison.contains (l / 64) = false →
        (s.errAt (l / 64) = .none → exec (.scrub line .none) s = .next s) ∧
        exec (.scrub line .single) s = .next ((c.count16 .memCecnt (if l < 0x400000000 then 16 else 0)).setBits .memEccstat 1) ∧
        (l < 0x400000000 →
          let d := ((c.count16 .memCecnt 16).setBits .memEccstat 1).setBits .memEccstat 2
          (s.arb.devCorr + 1 < 1024 → exec (.scrub line .device) s = .next { d with arb := { s.arb with devCorr := s.arb.devCorr + 1 } }) ∧
          (1024 ≤ s.arb.devCorr + 1 → exec (.scrub line .device) s = .next (alarm .mem { d with arb := { s.arb with devCorr := 0 } }))) ∧
        exec (.scrub line .double) s = .next (record .memoryError 0 [lo32 (l / 64 * 64), hi32 (l / 64 * 64)] (alarm .mem
          (((({ c with poison := (l / 64) :: s.poison } : State).wr .memUeaddrLo (lo32 (l / 64 * 64))).wr .memUeaddrHi (hi32 (l / 64 * 64))).setBits
            .memEccstat 4))) ∧
        ∃ u, exec (.scrub line .double) s = .next u ∧ u.poisoned l 1 = true ∧ u.mem = s.mem)) ∧
    (targetOf addr.toNat = none → exec (.transferRequest addr req ⟨beats, cyc⟩) s = .next s) ∧
    (targetOf addr.toNat = some tgt.val → s.pwr.state = .run → x.wait.all (fun u => u.req ≠ r) = true → r ≤ 0x89 → 0 < beats.toNat → beats.toNat ≤ reqBeats r →
      (x.holder = none → exec (.transferRequest addr req ⟨beats, cyc⟩) s = .next (s.setTarget tgt { x with wait := x.wait ++ [t] })) ∧
      ∀ h, x.holder = some h → h.req ≠ r →
        (t.band = 0 → h.band ≠ 0 → exec (.transferRequest addr req ⟨beats, cyc⟩) s =
          .next (s.setTarget tgt { holder := some t, wait := x.wait ++ [{ h with pre := h.pre + 1 }] })) ∧
        (t.band ≠ 0 ∨ h.band = 0 → exec (.transferRequest addr req ⟨beats, cyc⟩) s = .next (s.setTarget tgt { x with wait := x.wait ++ [t] }))) ∧
    (x.wait = [] → exec (.targetGrant tgt) s = .next (s.setTarget tgt { x with holder := none })) ∧
    (∀ u, nextGrant x.wait = some u →
      let rest := x.wait.filter (fun y => y.req ≠ u.req)
      (u.pre < 3 ∨ u.band = 0 → exec (.targetGrant tgt) s = .next (s.setTarget tgt { holder := some u, wait := rest })) ∧
      (3 ≤ u.pre → u.band ≠ 0 → exec (.targetGrant tgt) s = .next
        (((s.setTarget tgt { holder := some { u with band := 0 }, wait := rest }).count .arbPromocnt 1).setBits .arbStat 2)) ∧
      u ∈ x.wait ∧ ∀ y ∈ x.wait, (u.band ≠ 0 → y.band ≠ 0) ∧ (y.band = 0 → u.band = 0 ∧ u.ord ≤ y.ord)) ∧
    exec (.backgroundAgeExpiry tgt req) s = .next (s.setTarget tgt { x with wait := x.wait.map (fun y =>
      if y.req = r ∧ y.band = 2 then { y with band := 1 } else y) }) ∧
    (let old := Tab.get 0 s.she.keys slot
     let new := old % 2 ^ (32 * i.val) + v.toNat * 2 ^ (32 * i.val) + old / 2 ^ (32 * (i.val + 1)) * 2 ^ (32 * (i.val + 1))
     let s1 : State := { s with she := { s.she with keys := Tab.set 0 s.she.keys slot new } }
     let last := lastWord (fld (s.rd .sheKsCtl slot) 24 2)
     (i.val ≠ last → exec (.keyWrite (.part 0) slot i v) s = .next (s1.reply .ok)) ∧
     (i.val = last → exec (.keyWrite (.part 0) slot i v) s = .next (((s1.count16 .sheKsStat 16 slot).setBits .sheKsStat 1 slot).reply .ok))) ∧
    (exec (.keyErase (.part 0) slot) s = .next ((({ s with she := { s.she with keys := Tab.set 0 s.she.keys slot 0 } } : State).clrBits
      .sheKsStat 1 slot).reply .ok))

/-- Each of SUBMIT, JOB_START, SEGMENT_BOUNDARY, JOB_COMPLETION, DMA_COPY, DMA_FILL, SHA_256, ED25519_VERIFICATION, AES_CTR, AES_CBC_ENCRYPT, AES_CBC_DECRYPT, CMAC_GENERATE, CMAC_VERIFY, ENVELOPE_BUILD and ENVELOPE_CHECK answers the next state named here, under conditions on the state and the operands alone. A submission that passes its checks queues a job and returns its tag, else it returns the status. In Run a free engine takes its head job, with the slot's key captured and the first segment checked. A segment of DMA, AES or hash work reads its source, writes its result and is marked worked; the last segment of a hash or CMAC writes the digest or tag, and a verification ends in CRC when the tag or signature differs; a read that fails ends the job with its status. A build job writes the envelope and the next sequence number; a check job the verdict's payload and context. A worked segment leads to the next, or gives way to an urgent job; a finished job writes its result and completion words and is gone. -/
def Obligations.SharedEngineJobs : Prop :=
  ∀ (s : State) (p : Part) (k : Fin 28) (j : SJob),
    let n := j.part.toNat
    let src := partRead n (j.src.toNat + j.seg * 4096) (min 4096 (j.len - j.seg * 4096)) s
    let dst (bs : List Byte) (t : State) := partWrite n (j.dst.toNat + j.seg * 4096) bs t
    let res : Word := BitVec.ofNat 32 (j.seg * 4096 + min 4096 (j.len - j.seg * 4096))
    let par (len : Nat) := partRead n j.par.toNat len s
    let live : Prop := s.pwr.state = .run ∧ jobOn s k = some j ∧ j.worked = false ∧ j.fin = none
    let did' (x : SJob) (t : State) : State := setJob { x with worked := true } t
    let last : Prop := j.seg + 1 = j.segs
    (∀ bs, partRead p.toNat (s.rdB p.toNat .sheSubmitAddr).toNat 32 s = (.ok, bs, s) →
      let q := jobOf p.toNat (s.rdB p.toNat .sheSubmitAddr) bs s
      (submitStatus q bs s = .ok → exec (.submit (.part p)) s = .next (State.answer .ok (BitVec.ofNat 32 (q.tag * 65536))
        { s with she := { s.she with jobs := s.she.jobs ++ [q], tag := if s.she.tag = 0xFFFF then 1 else s.she.tag + 1 } })) ∧
      (submitStatus q bs s ≠ .ok → exec (.submit (.part p)) s = .next (s.answer .ok (BitVec.ofNat 32 (submitStatus q bs s).code)))) ∧
    (s.pwr.state = .run → jobOn s k = none → headFor s k = some j →
      let j1 : SJob := { j with eng := some k.val, seg := 0, key := captured s j.slot, keyType := fld (s.rd .sheKsCtl j.slot) 24 2, worked := false, fin := none, result := 0, chain := [] }
      exec (.jobStart k) s = .next (setJob { j1 with fin := startFails j1 s } s)) ∧
    (s.pwr.state = .run → jobOn s k = some j → j.worked = true → j.fin = none → j.seg + 1 < j.segs →
      (j.band ≠ 1 ∨ urgentWaits s k = false → exec (.segmentBoundary k) s =
        .next (setJob { j with seg := j.seg + 1, worked := false, fin := startFails { j with seg := j.seg + 1, worked := false } s } s)) ∧
      (j.band = 1 → urgentWaits s k = true → exec (.segmentBoundary k) s = .next (preemptJob j s))) ∧
    (j.kind ≠ 2 → j.kind ≠ 3 → endResult j s = j.result) ∧
    (s.pwr.state = .run → jobOn s k = some j →
      (∀ st, j.fin = some st → exec (.jobCompletion k) s = .next (finishJob j st s)) ∧
      (j.fin = none → j.worked = true → last → exec (.jobCompletion k) s = .next (finishJob j .ok s)) ∧
      ∀ st, j.fin = some st → ∃ t, exec (.jobCompletion k) s = .next t ∧ t.she.jobs = s.she.jobs.filter (fun q => q.tag ≠ j.tag) ∧
        t.mem = (partWrite n (j.desc.toNat + 0x18) (leBytes 4 (2 ^ 31 + j.pre % 256 * 256 + st.code))
          (partWrite n (j.desc.toNat + 0x1C) (leBytes 4 (endResult j s).toNat) s).2).2.mem) ∧
    (live → j.kind = 0 → (∀ bs u, src = (.ok, bs, s) → dst bs s = (.ok, u) →
        exec (.dmaCopy k) s = .next (did' { j with result := res, chain := [] } u)) ∧
      (src.1 ≠ .ok → exec (.dmaCopy k) s = .next (setJob { j with fin := some src.1 } src.2.2))) ∧
    (live → j.kind = 1 → ∀ u, dst (pattern j.par (min 4096 (j.len - j.seg * 4096))) s = (.ok, u) →
      exec (.dmaFill k) s = .next (did' { j with result := res } u)) ∧
    (live → ∀ bs, src = (.ok, bs, s) →
      let m := j.chain ++ bs
      let more := did' { j with chain := m, result := res } s
      (j.kind = 4 → (¬ last → exec (.sha256 k) s = .next more) ∧ (last → ∀ u, partWrite n j.dst.toNat (Machine.sha256 m) s = (.ok, u) →
        exec (.sha256 k) s = .next (did' { j with chain := m, result := tagResult j (Machine.sha256 m).length } u))) ∧
      (j.kind = 9 → (¬ last → exec (.cmacGenerate k) s = .next more) ∧ (last → ∀ u, partWrite n j.dst.toNat (cmac j.keyBytes m) s = (.ok, u) →
        exec (.cmacGenerate k) s = .next (did' { j with chain := m, result := tagResult j (cmac j.keyBytes m).length } u))) ∧
      (j.kind = 10 → (¬ last → exec (.cmacVerify k) s = .next more) ∧ (last → ∀ tag, par 16 = (.ok, tag, s) →
        let j1 : SJob := { j with chain := m, result := tagResult j 16 }
        (tag = cmac j.keyBytes m → exec (.cmacVerify k) s = .next (did' j1 s)) ∧
        (tag ≠ cmac j.keyBytes m → exec (.cmacVerify k) s = .next (setJob { j1 with fin := some .crc } s)))) ∧
      (j.kind = 6 → ∀ iv u, par 16 = (.ok, iv, s) →
        dst (Machine.aesCtr j.keyBytes ((beNat iv + j.seg * 4096 / 16) % 2 ^ 128) ((bs.length + 15) / 16) bs) s = (.ok, u) →
        exec (.aesCtr k) s = .next (did' { j with result := res, chain := [] } u)) ∧
      (j.kind = 7 → ∀ iv u, (if j.seg = 0 then par 16 else (.ok, j.chain, s)) = (.ok, iv, s) →
        let c := cbcEnc j.keyBytes (bs.length / 16) iv bs
        dst c s = (.ok, u) → exec (.aesCbcEncrypt k) s = .next (did' { j with result := res, chain := c.drop (c.length - 16) } u)) ∧
      (j.kind = 8 → ∀ iv u, (if j.seg = 0 then par 16 else (.ok, j.chain, s)) = (.ok, iv, s) →
        dst (cbcDec j.keyBytes (bs.length / 16) iv bs) s = (.ok, u) →
        exec (.aesCbcDecrypt k) s = .next (did' { j with result := res, chain := bs.drop (bs.length - 16) } u)) ∧
      (j.kind = 5 → j.seg + 8 < j.segs → exec (.ed25519Verification k) s = .next more)) ∧
    (live → j.kind = 5 → j.segs ≤ j.seg + 8 →
      (¬ last → exec (.ed25519Verification k) s = .next (did' j s)) ∧
      (last → ∀ b, par 96 = (.ok, b, s) →
        let j1 : SJob := { j with result := BitVec.ofNat 32 j.len }
        (edVerify (b.drop 64) (b.take 64) j.chain = true → exec (.ed25519Verification k) s = .next (did' j1 s)) ∧
        (edVerify (b.drop 64) (b.take 64) j.chain = false → exec (.ed25519Verification k) s = .next (setJob { j1 with fin := some .crc } s)))) ∧
    (live → j.kind = 2 → j.flags = 0 → ∀ cb pb u u', par 128 = (.ok, cb, s) → partRead n j.src.toNat j.len s = (.ok, pb, s) →
      let c := ctxOf cb
      let env := envelope j c (devid s) pb
      c.valid 1 = true → (c.mac = true → j.keyType = 3 ∧ j.key ≠ none) → partWrite n j.dst.toNat env s = (.ok, u) →
      partWrite n (j.par.toNat + 0x40) (leBytes 4 (c.seq + 1)) u = (.ok, u') →
      exec (.envelopeBuild k) s = .next (codecEnd j .ok .none 0 env.length u')) ∧
    (live → j.kind = 3 → ∀ cb eb db u u', par 128 = (.ok, cb, s) →
      let c := ctxOf cb
      let bad : Bool := j.flags ≠ 0 || (j.len ≠ 0 && !c.valid 2)
      (if bad then (.ok, [], s) else partRead n j.src.toNat j.len s) = (.ok, eb, s) →
      (if !bad && comparesDest j c eb (devid s) then partRead n j.dst.toNat (envOf eb).len s else (.ok, [], s)) = (.ok, db, s) →
      let v0 : Verdict := if bad then { st := .denied, why := .context, ctx := c, write := false, len := 0 } else checkEnv j c eb db (devid s)
      let x := expectation j c.state v0
      let v := countFail x.1
      (if v.write then partWrite n j.dst.toNat (envOf eb).payload s else (.ok, s)) = (.ok, u) →
      partWrite n (j.par.toNat + 0x40) v.ctx.line u = (.ok, u') →
      let s2 := if v0.why = .diff then envAlarm n .diff (c.state ≠ 2) u' else u'
      exec (.envelopeCheck k) s = .next (codecEnd j v.st v.why v.ctx.state v.len (if x.2 then envAlarm n .expect true s2 else s2)) ∧
      ((envOf eb).crc ≠ envCrc (identity c.peerDev c.peerPart (devid s) n) (envOf eb).body → v0.write = false) ∧
      (c.state = 1 → (envOf eb).seq = c.seq → v0.write = false) ∧ (v0.write = true → v0.ctx.seq = (envOf eb).seq ∧ v0.ctx.tlast = j.ref))

/-- Each of FRAME_RECEIVE, FRAME_TRANSMIT, FOLLOW_UP_EXPIRY, FORWARDING_AGE_EXPIRY, RXTAIL_WRITE, TXTAIL_WRITE and CHANNEL_ENABLE answers the next state named here, under conditions on the state and the operands alone. At a port that is up a frame with a bad FCS, or shorter than 64 or longer than 2000 bytes, is counted and dropped; MAC control is dropped; a check frame of another device makes the port path-good. An untagged unicast frame to a learned port of the VLAN, with room, is queued there once, with the port's PCP and VID, counted, and nothing else moves. A port with an ordinary frame to serve sends it as it leaves, tagged or not, and counts it; with nothing to serve nothing happens. The oldest follow-up goes at its expiry, an aged forwarding entry unless AGE is 0. RXTAIL and TXTAIL are taken modulo the ring by an enabled channel, DENIED otherwise; TXTAIL without TXCOMMIT takes the entries up to it. CTL with a bad ring size is DENIED. -/
def Obligations.EthernetFramesAndChannels : Prop :=
  ∀ (s : State) (p : Fin 14) (f : Frame) (vid : BitVec 12) (mac : BitVec 48) (n : Part) (v : Word),
    let rx := exec (.frameReceive p f) s
    let m := n.toNat
    (portUp s p = false → rx = .next s ∧ exec (.frameTransmit p) s = .next s) ∧
    (portUp s p = true →
      (f.fcsOk = false → rx = .next (s.count .ethPcnt 1 p 1)) ∧
      (f.fcsOk = true → frameLen f < 64 ∨ 2000 < frameLen f → rx = .next (s.count .ethPcnt 1 p 2)) ∧
      (f.fcsOk = true → 64 ≤ frameLen f → frameLen f ≤ 2000 →
        (f.etype = 0x8808 → rx = .next s) ∧
        (f.etype = 0x88B5 → slice f.payload 0 2 = [0, 1] → pairOf s p = none →
          (beNat (slice f.payload 2 6) = devid s → rx = .next (s.count .ethPcnt 1 p 0)) ∧
          (beNat (slice f.payload 2 6) ≠ devid s → rx = .next ((s.count .ethPcnt 1 p 0).setBits .ethPstat 4 p))) ∧
        (∀ e, f.etype ≠ 0x8808 → (f.etype = 0x88B5 → slice f.payload 0 2 ≠ [0, 1]) → f.tag = none → f.dst ≠ asAddr → isGroup f.dst = false →
          ptpAt s f = none → ptpChan s = none → pairOf s p = none → fld (s.rdA .ethCtlS) 0 2 = 1 → (s.rdA .ethPcfgS p).getLsbD 30 = false →
          let c := s.rdA .ethPcfgS p
          let q := 8 * e.port + pcpQueue s (fld c 24 3)
          s.eth.fdb.find? (fun y => y.vid.toNat = fld c 0 12 && y.mac = f.dst) = some e → e.port < 14 → e.port ≠ p.val →
          ethMember s (fld c 0 12) e.port = true → logUp s e.port = true → qBytes (Tab.get [] s.eth.q q) + frameLen f ≤ (s.rdA .ethQlimS).toNat →
          bufBytes s + frameLen f ≤ 4194304 → ∃ t st, rx = .next t ∧
            let y : QFrame := { f := f, vid := BitVec.ofNat 12 (fld c 0 12), pcp := BitVec.ofNat 3 (fld c 24 3), inp := p, stamp := st, chan := none, direct := false }
            t.eth = { s.eth with q := Tab.set [] s.eth.q q (Tab.get [] s.eth.q q ++ [y]) } ∧
            t.regs = (s.count .ethPcnt 1 p 0).regs ∧ t.mem = s.mem ∧ t.engs = s.engs)) ∧
      (serveFrom s p 8 = none → exec (.frameTransmit p) s = .next s) ∧
      (∀ q k x, serveFrom s p 8 = some (q, k, x) → x.chan = none → (s.rdA .ethPtpctlS).getLsbD 0 = false → ∃ t,
        exec (.frameTransmit p) s = .next t ∧ t.eth.tx = some (p.val, egressFrame s p x x.f) ∧
        t.eth.q = Tab.set [] s.eth.q k ((Tab.get [] s.eth.q k).erase x) ∧ t.regs = (s.count .ethPcnt 1 p 4).regs ∧
        t.eth.fdb = s.eth.fdb ∧ t.mem = s.mem)) ∧
    (∀ e, s.eth.fup.find? (fun y => y.port = p.val) = some e →
      exec (.followUpExpiry p) s = .next { s with eth := { s.eth with fup := s.eth.fup.erase e } }) ∧
    (s.eth.fup.find? (fun y => y.port = p.val) = none → exec (.followUpExpiry p) s = .next s) ∧
    (fld (s.rdA .ethAgeS) 0 16 = 0 → exec (.forwardingAgeExpiry vid mac) s = .next s) ∧
    (fld (s.rdA .ethAgeS) 0 16 ≠ 0 → exec (.forwardingAgeExpiry vid mac) s =
      .next { s with eth := { s.eth with fdb := s.eth.fdb.filter (fun e => !(e.vid = vid && e.mac = mac)) } }) ∧
    (chEn s m = false → exec (.rxtailWrite (.part n) v) s = .next (s.reply .denied) ∧ exec (.txtailWrite (.part n) v) s = .next (s.reply .denied)) ∧
    (chEn s m = true →
      let tt := v.toNat % chTxN s m
      let s1 := s.wrB m .ethTxtail (BitVec.ofNat 32 tt)
      let h := (s.rdB m .ethTxhead).toNat
      exec (.rxtailWrite (.part n) v) s = .next ((s.wrB m .ethRxtail (BitVec.ofNat 32 (v.toNat % chRxN s m))).reply .ok) ∧
      (txCommitOn s m = true ∨ h = tt → exec (.txtailWrite (.part n) v) s = .next (s1.reply .ok)) ∧
      (txCommitOn s m = false → h ≠ tt → (h + 1) % chTxN s m = tt → exec (.txtailWrite (.part n) v) s = .next
        (((txTake m h s1).wrB m .ethTxhead (BitVec.ofNat 32 tt)).reply .ok))) ∧
    (chBad s m v = true → exec (.channelEnable (.part 0) n v) s = .next (s.reply .denied)) ∧
    (chBad s m v = false →
      let s1 := s.put .ethChCtlS v m
      (s.schEn = true → exec (.channelEnable (.part 0) n v) s = .next (s1.reply .ok)) ∧
      (s.schEn = false → exec (.channelEnable (.part 0) n v) s = .next ((s1.wrA .ethChCtlS (s1.rd .ethChCtlS m) m).reply .ok)))

/-- Each of PAIR_CFG_WRITE, CHECK_FRAME, LEARNING_FRAMES, CHECK_LOSS, LINK_LOSS, LINK_UP, HOLDOFF_EXPIRY, PAIR_SWAP, SCHEDULED_SWAP, VERIFY_EXPIRY and CLRFAIL answers the next state named here, under conditions on the state and the operands alone. A bad pair setting is DENIED; a good one is put, and in force at once while the scheduler is disabled. A valid pair's ports send check frames; a role change's learning frames are sent once. When the active port loses link or checks and the other is STANDBY, the standby takes over: roles, FAILOVER, count, alarm and learning due; a lost link drops what was bound for the port, and first the frame that it cuts off. In Run with the network clocks a port back with link is NOCHK, or HOLD when path-good beside an active one, and STANDBY (ACTIVE in a down pair, log 39) when its hold-off ends. A scheduled or commanded swap exchanges the roles and opens verification, else it is skipped or DENIED; a failed verification swaps back and hides the port until CLRFAIL. -/
def Obligations.EthernetPairs : Prop :=
  ∀ (s : State) (p : Fin 14) (k : Fin 7) (v : Word),
    let x := s.pair k
    let s1 := s.put .ethPrCfgS v k
    let pc := pairOf s p
    let pg := s.rdA .ethPcfgS p
    let up : Word := if p.val < 2 ∧ fld pg 28 2 = 0 ∧ pg.getLsbD 27 = true then 3 else 1
    (pairBad s k v = true → exec (.pairCfgWrite (.part 0) k v) s = .next (s.reply .denied)) ∧
    (pairBad s k v = false → (s.schEn = true → exec (.pairCfgWrite (.part 0) k v) s = .next (s1.reply .ok)) ∧
      (s.schEn = false → exec (.pairCfgWrite (.part 0) k v) s = .next ((pairsRenew s1 (s1.wrA .ethPrCfgS (s1.rd .ethPrCfgS k) k)).reply .ok))) ∧
    (pairValid s k = false → exec (.checkFrame k) s = .next s ∧ exec (.scheduledSwap k) s = .next s) ∧
    (let a := pairA s k
     let b := pairB s k
     let fr (q : Nat) : QFrame := { f := Machine.checkFrame s k q, vid := 0, pcp := 7, inp := 14, stamp := 0, chan := none, direct := true }
     pairValid s k = true → a ≠ b → portUp s a = true → portUp s b = false → qBytes (ethQ s a 7) + 64 ≤ (s.rdA .ethQlimS).toNat →
      bufBytes s + 64 ≤ 4194304 → exec (.checkFrame k) s = .next (setEthQ (8 * a + 7) (ethQ s a 7 ++ [fr a]) s) ∧ frameLen (fr a).f = 64) ∧
    (x.learn = false ∨ x.active = none → exec (.learningFrames k) s = .next s) ∧
    (x.learn = true → x.active ≠ none → (∀ n, n < 1024 → chEn s n = false) →
      exec (.learningFrames k) s = .next (s.setPair k { x with learn := false })) ∧
    (pc = none → exec (.checkLoss p) s = .next (s.clrBits .ethPstat 4 p) ∧ exec (.holdoffExpiry p) s = .next s ∧
      (∃ t, exec (.linkLoss ⟨p, false⟩) s = .next t ∧ t.rd .ethPstat p = s.rd .ethPstat p &&& ~~~ 3 ∧ t.eth.pair = s.eth.pair ∧
        ∀ q, q < 8 → ethQ t p q = []) ∧
      ((s.rdA .ethPcfgS p).getLsbD 31 = true → netsUp s = true → exec (.linkUp p) s = .next (s.setBits .ethPstat up p))) ∧
    ((s.rdA .ethPcfgS p).getLsbD 31 = false ∨ netsUp s = false → exec (.linkUp p) s = .next s) ∧
    exec (.linkLoss ⟨p, true⟩) s = exec (.linkLoss ⟨p, false⟩) (cutFrame p s) ∧
    (portUp s p = false ∨ serveFrom s p 8 = none → cutFrame p s = s) ∧
    (∀ q i y, portUp s p = true → serveFrom s p 8 = some (q, i, y) → y.chan = none →
      cutFrame p s = txDrop p (setEthQ i ((Tab.get [] s.eth.q i).erase y) s)) ∧
    (pc = some k.val →
      let b : Bool := decide (p.val = pairB s k)
      let takes (st : PairState) (t : State) : Prop := (t.pair k).at b = st ∧ (t.pair k).at (!b) = .active ∧ (t.pair k).learn = true ∧
        (t.pair k).verify = none ∧ (t.rd .ethStat).getLsbD 2 = true ∧ (t.rd .supAlmstat).getLsbD 8 = true ∧
        t.rd .ethPrCnt k = (s.count16 .ethPrCnt 16 k).rd .ethPrCnt k ∧ ∀ j, j ≠ k.val → t.pair j = s.pair j
      (x.at b = .active → x.at (!b) = .standby →
        (∃ t, exec (.checkLoss p) s = .next t ∧ takes .nochk t ∧ (t.rd .ethPstat p).getLsbD 2 = false) ∧
        ∃ t, exec (.linkLoss ⟨p, false⟩) s = .next t ∧ takes .down t ∧ (t.rd .ethPstat p).getLsbD 0 = false) ∧
      (x.at b = .standby → exec (.checkLoss p) s = .next ((s.clrBits .ethPstat 4 p).setPair k (x.to b .nochk))) ∧
      (x.at b = .down → (s.rdA .ethPcfgS p).getLsbD 31 = true → netsUp s = true →
        let u := s.setBits .ethPstat up p
        ((s.rd .ethPstat p).getLsbD 2 = false → exec (.linkUp p) s = .next (u.setPair k (x.to b .nochk))) ∧
        ((s.rd .ethPstat p).getLsbD 2 = true → x.active ≠ none → exec (.linkUp p) s = .next (u.setPair k (x.to b .hold))) ∧
        ((s.rd .ethPstat p).getLsbD 2 = true → x.active = none → exec (.linkUp p) s = .next (roleChange k ((u.setPair k (x.to b .active)).count16 .ethPrCnt 16 k)))) ∧
      (x.at b = .hold → portUp s p = true →
        ((s.rd .ethPstat p).getLsbD 2 = false → exec (.holdoffExpiry p) s = .next (s.setPair k (x.to b .nochk))) ∧
        ((s.rd .ethPstat p).getLsbD 2 = true → x.active ≠ none → exec (.holdoffExpiry p) s = .next (s.setPair k (x.to b .standby))) ∧
        ((s.rd .ethPstat p).getLsbD 2 = true → x.active = none →
          exec (.holdoffExpiry p) s = .next (roleChange k ((s.setPair k (x.to b .active)).count16 .ethPrCnt 16 k)))) ∧
      (x.at b = .hold → portUp s p = false → exec (.holdoffExpiry p) s = .next (s.setPair k (x.to b .down)))) ∧
    (∀ b, canPairSwap s k = some b → exec (.pairSwap (.part 0) k) s = .next ((Machine.pairSwap k b s).reply .ok) ∧
      (fld (s.rdA .ethPrSwapS k) 0 16 ≠ 0 → exec (.scheduledSwap k) s = .next (Machine.pairSwap k b s)) ∧
      ∃ t, exec (.pairSwap (.part 0) k) s = .next t ∧ (t.pair k).at b = .active ∧ (t.pair k).at (!b) = .standby ∧ (t.pair k).verify = some b ∧
        (t.pair k).learn = true ∧ (t.rd .ethStat).getLsbD 2 = true ∧ t.rsp = { st := .ok, val := 0 } ∧ t.engs = s.engs) ∧
    (canPairSwap s k = none → exec (.pairSwap (.part 0) k) s = .next (s.reply .denied) ∧ (pairValid s k = true →
      fld (s.rdA .ethPrSwapS k) 0 16 ≠ 0 → exec (.scheduledSwap k) s = .next (s.setPair k { x with skipped := x.skipped + 1 }))) ∧
    (x.verify = none → exec (.verifyExpiry k) s = .next s) ∧
    (∀ b, x.verify = some b →
      (x.newRx = true ∨ x.oldRx = none → exec (.verifyExpiry k) s = .next (s.setPair k { x with verify := none })) ∧
      (x.newRx = false → x.oldRx ≠ none → x.at b = .active → x.at (!b) = .standby → ∃ t, exec (.verifyExpiry k) s = .next t ∧
        (t.pair k).at b = .hidden ∧ (t.pair k).at (!b) = .active ∧ (t.pair k).verify = none ∧ (t.rd .ethStat).getLsbD 3 = true ∧
        (t.rd .supAlmstat).getLsbD 8 = true)) ∧
    (∃ t, exec (.clrfail (.part 0) k) s = .next t ∧ (t.pair k).a = (if x.a = .hidden then .hold else x.a) ∧
      (t.pair k).b = (if x.b = .hidden then .hold else x.b) ∧ t.rsp = { st := .ok, val := 0 } ∧ t.regs = s.regs ∧ t.mem = s.mem)

/-- Each of PAYLOAD_READ, TRANSMIT_WINDOW, STOLNET_FRAME_RECEIVE, RECEIVE_WINDOW_END, STAR_PORT_EXCLUSION, STAR_READMIT, RING_READMIT, LOSS_OF_SIGNAL, LOOP_END, STAR_LINK_LOSS and STOLNET_LINK_UP answers the next state named here, under conditions on the state and the operands alone. PAYLOAD_READ takes the entry's bytes from the source block, none where a read fails; TRANSMIT_WINDOW sends them on a star port, or stays silent with TXMISS; nothing is sent where the station may not send, or where both ring ports are out; a frame that does not fit its window is cut with TXCUT. A frame in a star receive window takes the status of R250's checks and its counter; outside every window it is a violation, the third in 16 cycles marking the port. On the ring an own frame that has come round is stripped (in a RINGRX window after its checks), another is forwarded with one hop less, looped back where the far port is out; a frame outside every window, or another's in a window of this station, is a violation; one of an unknown type is counted. A window's end stages status, miss count, sender and payload, and starts the next window empty. Exclusion, readmission, loss of signal (loop-back with alarm), the end of a loop after 16 cycles, and link changes do just that; no link comes up outside Run. -/
def Obligations.StolnetWindowsAndPorts : Prop :=
  ∀ (s : State) (k : BitVec 12) (q : Fin 16) (r : Fin 2) (f : StnFrame) (at' : BitVec 24),
    let n := k.toNat
    let e := stnSlot s n
    let d := readSlot s n
    let slot := n + if readsNext s then 4096 else 0
    let x := s.stn
    let put (y : Station) : State := { s with stn := y }
    let nopay := put { x with pay := Tab.set none x.pay n none }
    (stnEn s = false ∨ d.sends = false → exec (.payloadRead k) s = .next s) ∧
    (stnEn s = true → d.sends = true →
      (s.sound (txSource s d + d.ofs) d.len = true → exec (.payloadRead k) s = .next (put
        { x with pay := Tab.set none x.pay slot (some (s.bytes (txSource s d + d.ofs) d.len)) })) ∧
      ((memRead (txSource s d + d.ofs) d.len s).1 ≠ .ok → ∃ t, exec (.payloadRead k) s = .next t ∧
        t.stn = { x with pay := Tab.set none x.pay slot none } ∧ t.mem = s.mem)) ∧
    (e.sends = false → exec (.transmitWindow k) s = .next s) ∧
    (e.sends = true → maySend s n = false → exec (.transmitWindow k) s = .next nopay) ∧
    (e.sends = true → maySend s n = true →
      (Tab.get none x.pay n = none → exec (.transmitWindow k) s = .next (nopay.count .stnCnt 1 6)) ∧
      (∀ bs, Tab.get none x.pay n = some bs → e.kind = 5 → e.port < 16 →
        let g := ownStn s (fld (s.rdA .stnSpCtlS e.port) 0 4) 1 n e.node bs
        (wireNs false g ≤ e.dur → ∃ t p, exec (.transmitWindow k) s = .next t ∧ p.val = e.port ∧ t.regs = s.regs ∧ t.mem = s.mem ∧
          t.stn = { x with pay := Tab.set none x.pay n none, tx := [(.star p, g)] }) ∧
        (e.dur < wireNs false g → ∃ t, exec (.transmitWindow k) s = .next t ∧ (t.rd .stnStat).getLsbD 6 = true ∧
          (t.rd .supAlmstat).getLsbD 9 = true ∧ t.mem = s.mem)) ∧
      (∀ bs, Tab.get none x.pay n = some bs → e.kind = 1 →
        let g := ownStn s (ringVer s) 1 n e.node bs
        (wireNs true g ≤ e.dur → (ringTx s 0 = true → exec (.transmitWindow k) s = .next
            { nopay with stn := { nopay.stn with tx := [(.ring 0, g)] } }) ∧
          (ringTx s 0 = false → ringTx s 1 = true → exec (.transmitWindow k) s = .next
            { nopay with stn := { nopay.stn with tx := [(.ring 1, { g with lb := true })] } })) ∧
        (ringTx s 0 = false → ringTx s 1 = false → exec (.transmitWindow k) s = .next nopay))) ∧
    (stnGoing s = false → exec (.stolnetFrameReceive (.star q) f at') s = .next s ∧ exec (.stolnetFrameReceive (.ring r) f at') s = .next s) ∧
    (stnGoing s = true → starUp s q = true → starExcl s q = false →
      let hit (k : Nat) : Bool := (stnSlot s k).kind = 6 && (stnSlot s k).port = q && (stnSlot s k).holds at'.toNat
      let run := exec (.stolnetFrameReceive (.star q) f at') s
      ((List.range 4096).find? hit = none → run = .next (starViolation q s)) ∧
      ∀ j, (List.range 4096).find? hit = some j → Tab.get (.timeout, none) x.rx j = (.timeout, none) →
        let st := rxCheck s j (fld (s.rdA .stnSpCtlS q) 0 4) f
        (f.late = false → run = .next ((put { x with rx := Tab.set (.timeout, none) x.rx j (if st = .ok then (st, some f) else (st, none)) }).count .stnCnt 1 (rxCounter st))) ∧
        (f.late = false → f.crcOk = false → st = .crc) ∧
        (f.late = true → ∃ t, run = .next t ∧ t.stn.rx = Tab.set (.timeout, none) x.rx j (.cutoff, none) ∧
          (t.rd .supAlmstat).getLsbD 9 = true ∧ t.mem = s.mem)) ∧
    (stnGoing s = true → ringRx s r = true →
      let hit (k : Nat) : Bool := (stnSlot s k).ring && (stnSlot s k).holds at'.toNat
      let run := exec (.stolnetFrameReceive (.ring r) f at') s
      ((List.range 4096).find? hit = none → run = .next (ringViolation r s)) ∧
      ∀ j, (List.range 4096).find? hit = some j →
        ((stnSlot s j).kind = 1 → (stnSlot s j).spare = false → f.station.toNat ≠ stnNo s → run = .next (ringViolation r s)) ∧
        ((stnSlot s j).kind = 2 → f.station.toNat = stnNo s → stripsOwn s f = true →
          Tab.get (.timeout, none) x.rx j = (.timeout, none) → let st := rxCheck s j (ringVer s) f
          run = .next ((put { x with rx := Tab.set (.timeout, none) x.rx j (if st = .ok then (st, some f) else (st, none)) }).count .stnCnt 1 (rxCounter st))) ∧
        ((stnSlot s j).kind = 3 →
          (f.station.toNat = stnNo s → stripsOwn s f = true → run = .next s) ∧
          (f.station.toNat = stnNo s → stripsOwn s f = false → run = .next (ringForward r f at'.toNat s)) ∧
          (f.station.toNat ≠ stnNo s → stnValid s f = false → unknownType f = false →
            (f.hops = 0 → run = .next s) ∧
            (f.hops ≠ 0 → let g := { f with hops := f.hops - 1, crcOk := f.crcOk && !f.late }
              (ringTx s (1 - r) = true → run = .next (put { x with fwd := some (1 - r, g), fwdEnd := at'.toNat + wireNs true g - 64 })) ∧
              (ringTx s (1 - r) = false → ringTx s r = true → ∃ t, run = .next t ∧ t.regs = s.regs ∧ t.mem = s.mem ∧
                t.stn.fwd = some (r, { g with lb := true })))) ∧
          (f.station.toNat ≠ stnNo s → stnValid s f = false → unknownType f = true → ∃ t, run = .next t ∧ t.mem = s.mem ∧
            (∀ i, i ≠ 7 → t.rd .stnCnt i = s.rd .stnCnt i)))) ∧
    (stnEn s = false ∨ e.kind ≠ 2 ∧ e.kind ≠ 6 → exec (.receiveWindowEnd k) s = .next s) ∧
    (stnEn s = true → x.going = true → e.kind = 2 →
      let cur := Tab.get (.timeout, none) x.rx n
      let y (m : Nat) : Station := { x with rx := Tab.set (.timeout, none) x.rx n (.timeout, none), miss := Tab.set 0 x.miss n m }
      let m := min 255 (Tab.get 0 x.miss n + 1)
      ((s.part e.part).state ≠ .off →
        (∀ g, cur.2 = some g → exec (.receiveWindowEnd k) s = .next (stageBytes e.part (e.ofs - 4)
          ([BitVec.ofNat 8 cur.1.code, 0, BitVec.ofNat 8 g.station.toNat, BitVec.ofNat 8 g.node.toNat] ++ padTo 0 e.len g.payload) (put (y 0)))) ∧
        (cur.2 = none → exec (.receiveWindowEnd k) s = .next (stageBytes e.part (e.ofs - 4) ([BitVec.ofNat 8 cur.1.code, BitVec.ofNat 8 m, 255, 255] ++
          (if e.maxMiss ≠ 0 ∧ e.maxMiss ≤ m then List.replicate e.len 0 else [])) (put (y m))))) ∧
      ((s.part e.part).state = .off → cur.2 = none → exec (.receiveWindowEnd k) s = .next (put (y m)))) ∧
    (x.starX.getLsbD q = false → exec (.starPortExclusion q) s = .next s) ∧
    (x.starX.getLsbD q = true → exec (.starPortExclusion q) s = .next (alarmRec .stn .starExcluded [BitVec.ofNat 32 q]
      ((((put { x with starX := x.starX &&& ~~~ BitVec.ofNat 16 (1 <<< q.val) }).setBits .stnSpStat 4 q).count16 .stnSpCnt 16 q).setBits .stnStat 4))) ∧
    exec (.starReadmit (.part 0) q) s =
      .next (((put { x with starV := Tab.set [] x.starV q [], starX := x.starX &&& ~~~ BitVec.ofNat 16 (1 <<< q.val) }).clrBits .stnSpStat 4 q).reply .ok) ∧
    exec (.ringReadmit (.part 0) r) s = .next ((s.clrBits .stnRpStat 8 r).reply .ok) ∧
    ((s.rdA .stnRpCtlS r).getLsbD 31 = false → exec (.lossOfSignal r) s = .next (s.clrBits .stnRpStat 1 r)) ∧
    ((s.rdA .stnRpCtlS r).getLsbD 31 = true → ringLooped s r = false → ∃ t, exec (.lossOfSignal r) s = .next t ∧
      (t.rd .stnRpStat r).getLsbD 0 = false ∧ ringLooped t r = true ∧ (t.rd .stnStat).getLsbD 0 = true ∧ (t.rd .supAlmstat).getLsbD 9 = true ∧
      t.mem = s.mem) ∧
    (∀ c, Tab.get none x.upSince r = some c → ringLooped s r = true → ringIsol s r = false → x.txOff.getLsbD (16 + r.val) = false →
      (x.cyc < c + 16 → exec (.loopEnd r) s = .next s) ∧
      (c + 16 ≤ x.cyc → exec (.loopEnd r) s = .next { s.clrBits .stnRpStat 6 r with stn := { x with upSince := Tab.set none x.upSince r none } })) ∧
    ((s.rd .stnSpStat q).getLsbD 0 = true → exec (.starLinkLoss q) s = .next (alarmRec .stn .starLink [BitVec.ofNat 32 q] (s.clrBits .stnSpStat 1 q))) ∧
    (netsUp s = false → ∀ p, exec (.stolnetLinkUp p) s = .next s) ∧
    (netsUp s = true → exec (.stolnetLinkUp (.star q)) s = .next (s.setBits .stnSpStat 1 q)) ∧
    (netsUp s = true → ringLooped s r = false → exec (.stolnetLinkUp (.ring r)) s = .next (s.setBits .stnRpStat 1 r)) ∧
    (netsUp s = true → ringLooped s r = true → exec (.stolnetLinkUp (.ring r)) s = .next
      { s.setBits .stnRpStat 3 r with stn := { x with upSince := Tab.set none x.upSince r (some x.cyc) } })

/-- Each of ARM, DISARM, TABLE_CHECK, STOLNET_ENABLE, STOLNET_DISABLE, JOIN, JOIN_RETRY, GRANT, JOIN_ACTIVATION, BACKUP_MASTER_TAKEOVER, SPARE_GRANT_RELEASE and MASTER_SILENCE answers the next state named here, under conditions on the state and the operands alone. ARM starts the check, which ends ARMED where no entry offends and cycle C lies ahead, or DENIED with the first offender; DISARM withdraws. An enabling CTL_S write with a station count or comparator out of rule is DENIED; a good one starts JOINING under the JOIN entry's master; a write that clears EN is put for the boundary. A station that may join sends JOIN in the join window, not beside a frame it forwards, and again after its backoff of even cycles. The acting master answers the first JOIN of the even cycle in the odd one, or announces the version. At cycle A a granted station is LIVE with its spare entries. The backup takes over after 16 silent cycles; a spare grant silent for 64 is released, and 64 cycles without a master release this station's. -/
def Obligations.StolnetTableAndMembership : Prop :=
  ∀ (s : State) (v : Word) (k : BitVec 12),
    let x := s.stn
    let w : Who := .part 0
    let put (y : Station) : State := { s with stn := y }
    exec (.arm w) s = .next ((put { x with checking := true }).reply .ok) ∧
    exec (.disarm w) s = .next (((put { x with checking := false }).clrBits .stnTstat 0x80000000).reply .ok) ∧
    (x.checking = false → exec .tableCheck s = .next s) ∧
    (x.checking = true →
      let t := put { x with checking := false }
      (∀ j, firstBad s = some j → exec .tableCheck s = .next (t.wr .stnTstat (BitVec.ofNat 32 (j * 65536 + Status.denied.code)))) ∧
      (firstBad s = none → swapCycleOk s = true → exec .tableCheck s = .next (t.wr .stnTstat 0x80000000)) ∧
      (firstBad s = none → swapCycleOk s = false → exec .tableCheck s = .next (t.wr .stnTstat (BitVec.ofNat 32 Status.denied.code)))) ∧
    (v.getLsbD 31 = true → fld v 16 6 < 2 ∨ 32 < fld v 16 6 ∨ stnTtOk s (fld v 8 5) = false →
      exec (.stolnetEnable w v) s = .next (s.reply .denied)) ∧
    (v.getLsbD 31 = true → 2 ≤ fld v 16 6 → fld v 16 6 ≤ 32 → stnTtOk s (fld v 8 5) = true → stnEn s = false →
      let u := (s.put .stnCtlS v).wrA .stnCtlS ((s.put .stnCtlS v).rd .stnCtlS)
      exec (.stolnetEnable w v) s = .next (startJoining ({ u with stn := { x with txOff := 0, cutV := [], tries := 0 } }.reply .ok)) ∧
      ∃ t, exec (.stolnetEnable w v) s = .next t ∧ (stnState t = 1 ∨ stnState t = 2 ∧ stnActs t = true) ∧ t.rsp = { st := .ok, val := 0 }) ∧
    (v.getLsbD 31 = false → stnEn s = true → exec (.stolnetDisable w v) s = .next ((s.put .stnCtlS v).reply .ok)) ∧
    (v.getLsbD 31 = false → stnEn s = false → exec (.stolnetDisable w v) s = .next
      (((s.put .stnCtlS v).wrA .stnCtlS ((s.put .stnCtlS v).rd .stnCtlS)).reply .ok)) ∧
    (mayJoin s = false → exec .join s = .next s ∧ exec .joinRetry s = .next s) ∧
    (∀ j, mayJoin s = true → joinSlot s = some j → ringTx s 0 = true →
      let t := put { x with tx := [(.ring 0, ownStn s 1 3 j 0x1F (joinPayload s))], asked := some x.cyc, tries := x.tries + 1 }
      (x.asked = none → forwardsAt s j = false → exec .join s = .next t) ∧
      (x.asked = none → forwardsAt s j = true → exec .join s = .next s) ∧
      (∀ c, x.asked = some c → (c + 2 + 2 * joinBackoff s ≤ x.cyc → forwardsAt s j = false → exec .joinRetry s = .next t) ∧
        (x.cyc < c + 2 + 2 * joinBackoff s → exec .joinRetry s = .next s) ∧ exec .join s = .next s)) ∧
    (stnGoing s = false ∨ stnActs s = false ∨ x.cyc % 2 ≠ 1 → exec .grant s = .next s) ∧
    (∀ j, stnGoing s = true → stnActs s = true → x.cyc % 2 = 1 → joinSlot s = some j → ringTx s 0 = true →
      let send (st : Station) (b : List Byte) : State :=
        { s.setBits .stnStat 16 with stn := { st with join := none, tx := [(.ring 0, ownStn s 1 4 j 0x1F b)] } }
      (x.join = none → x.verPend = none → exec .grant s = .next (send x (grantPayload 0 0xFF 0 (ringVer s) x.cyc []))) ∧
      (∀ q, x.join = some q →
        let g := judgeJoin s q
        (g.1 ≠ .ok → g.1 ≠ .full → exec .grant s = .next (send x (grantPayload q.devid q.station g.1.code (ringVer s) (x.cyc + 8) g.2))) ∧
        (g.1 = .ok → bestVer s q = ringVer s → exec .grant s = .next (noteGrant
          { station := q.station, devid := q.devid, vmin := q.vmin, vmax := q.vmax } g.2
          (send x (grantPayload q.devid q.station 0 (ringVer s) (x.cyc + 8) g.2)))) ∧
        (q.cfgid ≠ stnCfg s → g.1 = .mismatch))) ∧
    (stnGoing s = true → x.verPend = none → ringVer s = 1 → ∀ a, x.actA = some a →
      (cycReached s a = true → ∃ t, exec .joinActivation s = .next t ∧ stnState t = 2 ∧ ringVer t = 1 ∧ t.mem = s.mem ∧
        t.stn = { x with actA := none, mine := x.minePend, minePend := [], rejoin := false }) ∧
      (cycReached s a = false → exec .joinActivation s = .next s)) ∧
    (∀ m b, joinMaster s = some (m, b) → stnGoing s = true → stnActs s = false → b = stnNo s →
      (x.seenM + 16 ≤ x.cyc → exec .backupMasterTakeover s = .next (actMaster s) ∧ ∃ t, exec .backupMasterTakeover s = .next t ∧
        stnActs t = true ∧ stnActing t = stnNo s ∧ stnState t = 2) ∧
      (x.cyc < x.seenM + 16 → exec .backupMasterTakeover s = .next s)) ∧
    (stnGoing s = true → stnActs s = true → exec (.spareGrantRelease k) s = .next (put
      { x with grants := x.grants.filter (fun g => !(g.entry = k.toNat && decide (g.seen + 64 ≤ x.cyc))) })) ∧
    (stnGoing s = true → stnActs s = false → stnState s = 2 →
      (x.seenA + 64 ≤ x.cyc → exec .masterSilence s = .next (put { x with mine := [], rejoin := true, asked := none })) ∧
      (x.cyc < x.seenA + 64 → exec .masterSilence s = .next s))

/-- Each of CAN_ENABLE, CAN_FRAME_RECEIVE, CAN_TRANSMIT, RXGET_WRITE, TXPUT_WRITE, RECOVER, BUS_OFF_RECOVERY_COMPLETE, STUCK_DOMINANT, STUCK_RELEASE, ARD_DWELL_EXPIRY and TIMING_APPLY answers the next state named here, under conditions on the state and the operands alone. CTL with MODE 3, or an enable out of rule, is DENIED, with a record where the pins are another owner's; a good enable of a free controller is in force at once with its timing, and a TXCOMMIT that it turns on takes what is queued so far. A controller that does not run ignores frames and sends nothing. A good frame that no filter takes is counted; one that is taken goes into the FIFO with its stamp, or is counted as oversize or lost. An error frame sets LEC and raises REC by 1, or by 8 in an error flag. The head element that the bus takes completes OK and TEC falls; an unfit one completes SIZE; lost arbitration and errors complete it only under SINGLE. RXGET and TXPUT move the rings, DENIED out of range or to strangers, FULL where TXPUT meets TXHEAD. Bus-off recovers, RECOVER outside bus-off is DENIED, stuck dominance aborts every queued element, counts and alarms, a dwell rejects the candidate. -/
def Obligations.CanControllers : Prop :=
  ∀ (s : State) (n : Fin 20) (v : Word) (p : Part) (f : CanFrame) (lec : BitVec 3),
    let x := s.can n
    let ctl := s.rdA .canCtlS n
    let w : Who := .part 0
    let rx := exec (.canFrameReceive n f) s
    let tx (r : CanResult) := exec (.canTransmit n r) s
    let e := canHead s n
    (fld v 22 2 = 3 ∨ v.getLsbD 31 = true ∧ canPins s n = true ∧ canEnableBad s n v = true →
      exec (.canEnable w n v) s = .next (s.reply .denied)) ∧
    (fld v 22 2 ≠ 3 → v.getLsbD 31 = true → canPins s n = false →
      exec (.canEnable w n v) s = .next ((recordDenied 0 (192 + n) s).reply .denied)) ∧
    (p ≠ 0 → exec (.canEnable (.part p) n v) s = .next (s.reply .denied) ∧ exec (.recover (.part p) n) s = .next (s.reply .denied)) ∧
    (v.getLsbD 31 = true → canEnableBad s n v = false → fld v 22 2 < 2 → ctl.getLsbD 31 = false → canBoth s n = true →
      let u := (s.put .canCtlS v n).wrA .canCtlS ((s.put .canCtlS v n).rd .canCtlS n) n
      let q := fld (s.rd .canTxput n) 0 8
      let y := if (u.rdA .canCtlS n).getLsbD 29 && !ctl.getLsbD 29 then { x with coPut := q, cyPut := q } else x
      exec (.canEnable w n v) s = .next ((u.setCan n { y with timing := (s.rdA .canNbtS n, s.rdA .canDbtS n) }).reply .ok)) ∧
    (canLive s n = false → rx = .next s ∧ ∀ r, tx r = .next s) ∧
    (canLive s n = true → ardSearching s n = false →
      (f.err = 0 → f.fdf = false ∨ ctl.getLsbD 27 = true →
        let g := canRxGood n s
        (canDecide g n f = none → rx = .next (g.count .canCnt 1 n 2)) ∧
        ∀ i, canDecide g n f = some i →
          let len := if isRemote f.fdf f.rtr then 0 else dlcLen f.fdf f.dlc
          (canDs (fld ctl 16 3) < len → rx = .next (g.count .canCnt 1 n 3)) ∧
          (len ≤ canDs (fld ctl 16 3) → ringNext (canRxn s n) x.put = fld (s.rd .canRxget n) 0 8 →
            rx = .next ((g.count .canCnt 1 n 1).setBits .canStat 16 n)) ∧
          (len ≤ canDs (fld ctl 16 3) → ringNext (canRxn s n) x.put ≠ fld (s.rd .canRxget n) 0 8 → ∃ t, rx = .next t ∧
            (t.can n).put = ringNext (canRxn s n) x.put ∧ (t.can n).tx = x.tx ∧ t.mem = s.mem ∧ t.regs = (g.count .canCnt 1 n 0).regs ∧
            ∀ j, j < 20 → Tab.get 0 (t.can n).rx (20 * x.put + j) = (canElem f i (canSof f g)).getD j 0)) ∧
      (f.err ≠ 0 → canMode s n = 0 → x.state = .active → x.teCnt ≤ 127 →
        (f.inFlag = false → x.reCnt < 127 → rx = .next (s.setCan n { x with lec := f.err, reCnt := x.reCnt + 1 })) ∧
        (f.inFlag = true → x.reCnt < 120 → rx = .next (s.setCan n { x with lec := f.err, reCnt := x.reCnt + 8 })))) ∧
    (canLive s n = true → canMode s n = 0 → fld (s.rd .canTxhead n) 0 8 ≠ canLimit s n →
      (canBadElem s n e = true → ∀ r, tx r = .next (canComplete n .size s)) ∧
      (canBadElem s n e = false →
        (e.2.getLsbD 0 = false → tx .arbLost = .next s) ∧ (e.2.getLsbD 0 = true → tx .arbLost = .next (canComplete n .busy s)) ∧
        (x.state = .active → x.reCnt ≤ 127 → x.teCnt ≤ 119 → e.2.getLsbD 0 = false →
          tx (.error lec) = .next (s.setCan n { x with lec := lec, teCnt := x.teCnt + 8 })) ∧
        (x.state = .active → x.reCnt ≤ 127 → x.teCnt ≤ 127 → x.clash = none → ∃ t, tx .ok = .next t ∧
          t.can n = { x with teCnt := x.teCnt - 1, lec := 0 } ∧ fld (t.rd .canTxhead n) 0 8 = ringNext (canTxn s n) (fld (s.rd .canTxhead n) 0 8) ∧
          fld (t.rd .canTxstat n) 0 8 = 0 ∧ t.rd .canCnt n 4 = (s.count .canCnt 1 n 4).rd .canCnt n 4 ∧ t.mem = s.mem))) ∧
    (fld (s.rd .canTxhead n) 0 8 = canLimit s n → ∀ r, tx r = .next s) ∧
    (let who : Who := .part p
     let may : Prop := p = 0 ∨ canOwner s n = some p.toNat
     (¬ may → exec (.rxgetWrite who n v) s = .next (s.reply .denied) ∧ exec (.txputWrite who n v) s = .next (s.reply .denied)) ∧
     (may →
      (fld v 0 8 < canRxn s n → exec (.rxgetWrite who n v) s = .next ((s.wr .canRxget (v &&& 0xFF) n).reply .ok)) ∧
      (canRxn s n ≤ fld v 0 8 → exec (.rxgetWrite who n v) s = .next (s.reply .denied)) ∧
      (canTxn s n ≤ fld v 0 8 → exec (.txputWrite who n v) s = .next (s.reply .denied)) ∧
      (fld v 0 8 < canTxn s n →
        (fld v 0 8 ≠ fld (s.rd .canTxput n) 0 8 → fld v 0 8 = fld (s.rd .canTxhead n) 0 8 → exec (.txputWrite who n v) s = .next (s.reply .full)) ∧
        (fld v 0 8 = fld (s.rd .canTxput n) 0 8 ∨ fld v 0 8 ≠ fld (s.rd .canTxhead n) 0 8 →
          exec (.txputWrite who n v) s = .next ((s.wr .canTxput (BitVec.ofNat 32 (fld v 0 8)) n).reply .ok))))) ∧
    (x.state = .busOff → exec (.recover w n) s = .next ((s.setCan n { x with recov := true }).reply .ok) ∧ (x.recov = true → x.dead = false → netsUp s = true →
      exec (.busOffRecoveryComplete n) s = .next (s.setCan n { x with state := .active, teCnt := 0, reCnt := 0, recov := false }))) ∧
    (x.state ≠ .busOff → exec (.recover w n) s = .next (s.reply .denied) ∧ exec (.busOffRecoveryComplete n) s = .next s) ∧
    (canEn s n = true → x.dead = false → netsUp s = true → x.state ≠ .stuck → ∃ t, exec (.stuckDominant n) s = .next t ∧ (t.can n).state = .stuck ∧
      (t.can n).saved = x.state ∧ (t.rd .canStat n).getLsbD 2 = true ∧ (t.rd .supAlmstat).getLsbD 10 = true ∧
      t.rd .canTxhead n = BitVec.ofNat 32 (fld (s.rd .canTxput n) 0 8) ∧ t.mem = s.mem) ∧
    (x.state = .stuck → x.dead = false → netsUp s = true → exec (.stuckRelease n) s = .next (s.setCan n { x with state := x.saved })) ∧
    (canLive s n = true → ardSearching s n = true → ∀ i, ardNext s n (15 - x.ard.1) (x.ard.1 + 1) = some i →
      exec (.ardDwellExpiry n) s = .next ((s.setCan n { x with ard := (i, 0), ardBrs := false }).wr .canArdstat (BitVec.ofNat 32 i) n)) ∧
    (ardSearching s n = false → exec (.ardDwellExpiry n) s = .next s ∧ (canEn s n = true → exec (.timingApply n) s =
      .next (s.setCan n { x with timing := (s.rdA .canNbtS n, s.rdA .canDbtS n) })))

/-- For the foundry partition, and for the debug port where its level lets it read DIO, while the link holds: a read of TSPOP0 on an empty FIFO answers a word of 0, so VALID is 0. Otherwise it answers VALID 1, LOST, EDGE and the channel of the oldest entry, takes that entry out of the FIFO, and the reader's TSPOP1, 2 and 3 then read the stamps dropped before it and the low and high halves of its time; the latched words of every other initiator stay as they are, and so do memory and every input and output. An accepted edge on a channel with WAKE = 1 sets SUP.WAKESRC.DI whatever the power state is. -/
def Obligations.EdgeStampFifoReads : Prop :=
  ∀ (s : State) (w : Who) (c : Fin 96), s.dio.lostL = false →
    (w = .part 0 ∨ w = .dbg ∧ debugReads s 0x6000800010 = true) →
    (s.dio.fifo = [] → ∃ t, exec (.tspop w) s = .next t ∧ t.rsp = { st := .ok, val := 0 } ∧ t.dio = s.dio ∧ t.mem = s.mem) ∧
    (∀ x xs, s.dio.fifo = x :: xs → x.ch < 96 → ∃ t, exec (.tspop w) s = .next t ∧
      t.rsp.st = .ok ∧ t.rsp.val.getLsbD 31 = true ∧ t.rsp.val.getLsbD 30 = decide (x.lost ≠ 0) ∧
      t.rsp.val.getLsbD 29 = x.rising ∧ fld t.rsp.val 0 7 = x.ch ∧
      (regRead .dio w .dioTspop 0 0 false t).rsp = { st := .ok, val := BitVec.ofNat 32 x.lost } ∧
      (regRead .dio w .dioTspop 1 0 false t).rsp = { st := .ok, val := lo32 x.ns } ∧
      (regRead .dio w .dioTspop 2 0 false t).rsp = { st := .ok, val := hi32 x.ns } ∧
      (∀ b k, b ≠ whoBank w → b ≤ 1024 → k < 3 → t.rdB b .dioTspop k = s.rdB b .dioTspop k) ∧
      t.dio = { s.dio with fifo := xs } ∧ t.mem = s.mem ∧ t.alp = s.alp) ∧
    ((s.rdA .dioDiCfgS c).getLsbD 31 = true → (s.rdA .dioDiCfgS c).getLsbD 29 = true → (s.di c).raw ≠ (s.di c).filt →
      diMasked s (s.di c) = false → tbHeld s = false → ∃ t, exec (.filterAccept c) s = .next t ∧ (t.rd .supWakesrc).getLsbD 4 = true ∧
        (t.di c).filt = (s.di c).raw)

/-- Each of RAW_INPUT_CHANGE, FILTER_ACCEPT, TEST_PULSE, TEST_PULSE_CHECK, DIACK, PULSE_END, MINIMUM_INTERVAL_EXPIRY, CURRENT_LIMIT, CURRENT_LIMIT_END, OVERLOAD, THERMAL, GROUP_OVERCURRENT, READBACK_FAULT, OPEN_LOAD, OPEN_LOAD_CLEAR, EXTERNAL_VOLTAGE, EXTV_CLEAR, VFLD_LOW, VFDI_LOW, SUPPLY_RESTORE, FAULT_RECOVERY, WATCHDOG_EXPIRY, FIELD_LINK_LOSS, FIELD_CLOCK_ERROR, LINK_LOST, LINK_FRAME, COMMIT_MESSAGE, START_MESSAGE and REARM answers the next state named here, under conditions on the state and the operands alone. A raw change keeps level and time, the time with the free error of log 177; an accepted one becomes the filtered value and is staged unless TTEN, stamped as STAMP says. A pulse masks its own inputs and marks the others; the check latches NOPULSE or FOREIGN; DIACK clears only after a passed check. Edges wait for the minimum interval; a push-pull level that turns starts the dead time, with both switches off. Each entry of R319 changes its lead's flags alone and raises the alarm; recoveries clear theirs. A safe-state cause puts every output into its safe value; REARM works only without a cause; a commit for the owner then leaves it. Lost links are declared and restored by frames. -/
def Obligations.FieldInputsOutputsAndSafeState : Prop :=
  ∀ (s : State) (c : Fin 96) (o : Fin 64) (k g : Fin 8) (lv : Bool) (v : Word) (n : Part) (sq : BitVec 16),
    let x := s.di c
    let cfg := s.die .dioDiCfgS c
    let sel := fld (s.rdA .dioDiCfgS c) 16 2
    let l := doLead s o
    let y := s.dout l
    let z := s.dout o
    let pw := fld (s.rdA .dioDoPulseS o) 0 16
    let flt (r : Host.Outcome State Fault Refusal) (f : Do) : Prop := ∃ t, r = .next t ∧ t.dout l = f ∧
      (∀ i, i ≠ l → t.dout i = s.dout i) ∧ t.dio.di = s.dio.di ∧ t.alp = s.alp ∧ (t.rd .dioStat).getLsbD 1 = true ∧ (t.rd .supAlmstat).getLsbD 11 = true
    let clr (r : Host.Outcome State Fault Refusal) (f : Do) : Prop := ∃ t, r = .next t ∧ t.dout l = f ∧
      (∀ i, i ≠ l → t.dout i = s.dout i) ∧ t.dio.di = s.dio.di ∧ t.alp = s.alp ∧ (s.ecc = [] → t.regs = s.regs)
    let safe (r : Host.Outcome State Fault Refusal) (cause : Nat) : Prop := ∃ t, r = .next t ∧ t.dio.fsafe = true ∧ cause ∈ fieldCauses t ∧
      t.dio.di = s.dio.di ∧ (∀ i, i < 64 → t.dout i = { s.dout i with
          fsafe := true, pend := none, wait := none, pulse := false, deadTo := (t.dout i).deadTo } ∧
        (doPushPull s i = false → (t.dout i).deadTo = (s.dout i).deadTo)) ∧
      ∀ i, i < 32 → (t.loop i).fsafe = true ∧ (t.loop i).pend = none ∧ (t.loop i).hart = .idle
    (x.raw = lv → exec (.rawInputChange c lv) s = .next s) ∧
    (x.raw ≠ lv → exec (.rawInputChange c lv) s = .next (s.setDi c
      { x with raw := lv, edge := s.stampAt 8 500, edges := s.now :: x.edges.filter (fun e => decide (s.now < e + 100000)) })) ∧
    (cfg.getLsbD 31 = false ∨ x.raw = x.filt ∨ diMasked s x = true ∨ tbHeld s = true → exec (.filterAccept c) s = .next s) ∧
    (cfg.getLsbD 31 = true → x.raw ≠ x.filt → diMasked s x = false → tbHeld s = false → cfg.getLsbD 29 = false →
      (sel = 0 → cfg.getLsbD 28 = true → exec (.filterAccept c) s = .next (s.setDi c { x with filt := x.raw })) ∧
      (sel = 0 → cfg.getLsbD 28 = false →
        exec (.filterAccept c) s = .next (stageValue c (s.setDi c { x with filt := x.raw, out := x.raw }))) ∧
      (cfg.getLsbD 28 = true → (sel = 3 ∨ sel = (if x.raw then 1 else 2)) → ∃ t, exec (.filterAccept c) s = .next t ∧
        t.di c = { x with filt := x.raw, stamp := some (x.edge / 100 * 100) } ∧
        (s.dio.fifo.length < 4096 → t.dio.fifo = s.dio.fifo ++ [⟨c, x.raw, x.edge / 100 * 100, s.dio.dropped⟩] ∧ t.dio.dropped = 0) ∧
        (4096 ≤ s.dio.fifo.length → t.dio.fifo = s.dio.fifo ∧ t.dio.dropped = s.dio.dropped + 1 ∧ (t.rd .dioStat).getLsbD 6 = true))) ∧
    ((pulseHolder s k = none ∨ s.dio.vfdi = false ∨ s.dio.cfgd = false → exec (.testPulse k lv) s = .next s) ∧
     (pulseHolder s k ≠ none → s.dio.vfdi = true → s.dio.cfgd = true → s.dio.pulses.getLsbD k ≠ lv → ∃ t, exec (.testPulse k lv) s = .next t ∧
       t.dio.pulses.getLsbD k = lv ∧ t.dio.dos = s.dio.dos ∧
       (cfg.getLsbD 31 = true → cfg.getLsbD 19 = true → fld cfg 20 3 = k →
         (t.di c).mask = lv ∧ (lv = false → (t.di c).maskTo = s.now + 100000)) ∧
       (cfg.getLsbD 31 = true → cfg.getLsbD 19 = true → fld cfg 20 3 ≠ k → lv = true → (t.di c).wasOn.getLsbD k = rawBefore s x))) ∧
    ((s.dio.pulses.getLsbD k = false → exec (.testPulseCheck k) s = .next s) ∧
     (s.dio.pulses.getLsbD k = true → (s.rdA .dioDiCfgS c).getLsbD 31 = true → cfg.getLsbD 19 = true → ∃ t, exec (.testPulseCheck k) s = .next t ∧ t.dio.dos = s.dio.dos ∧
       (fld cfg 20 3 = k → (t.di c).ownOk = !x.raw ∧ (x.raw = true → (t.di c).noPulse = true ∧ (t.rd .dioStat).getLsbD 0 = true)) ∧
       (fld cfg 20 3 ≠ k → (t.di c).foreign = (x.foreign || (!x.raw && x.wasOn.getLsbD k))))) ∧
    (s.dio.lostL = false → (v.getLsbD 31 = true → fld v 0 7 = c →
      (x.ownOk = false → exec (.diack (.part 0) v) s = .next (s.reply .denied)) ∧
      (x.ownOk = true → ∃ t, exec (.diack (.part 0) v) s = .next t ∧ t.rsp.st = .ok ∧
        t.di c = { x with noPulse := false, foreign := false, clean := 0 }))) ∧
    (s.dio.lostL = true → exec (.diack (.part 0) v) s = .next (s.reply .fault) ∧ exec (.rearm (.part 0)) s = .next (s.reply .fault)) ∧
    (z.pulse = true → 
      exec (.pulseEnd o) s = .next (deadTime o s (s.setDout o { z with pulse := false, drive := false, busy := true })) ∧
      (doPushPull s o = false → exec (.pulseEnd o) s = .next (s.setDout o { z with pulse := false, drive := false, busy := true })) ∧
      (doPushPull s o = true → dieLead s o = o.val → isForceLamp s o = false → z.fsafe = false → doLevel s o = true →
        let dt := fld (s.die .dioDoCfgS o) 0 7 * 500
        ∃ t, exec (.pulseEnd o) s = .next t ∧ (t.dout o).drive = false ∧ (t.dout o).deadTo = s.now + dt ∧
          (dt ≠ 0 → doBall t o = false ∧ doLowSide t o = false))) ∧
    (z.pulse = false → exec (.pulseEnd o) s = .next s) ∧
    (z.busy = true →
      (z.wait = none → exec (.minimumIntervalExpiry o) s = .next (s.setDout o { z with busy := false, wait := none })) ∧
      ∀ b, z.wait = some b → let u := s.setDout o { z with busy := false, wait := none }
        (pw = 0 → b ≠ z.drive → exec (.minimumIntervalExpiry o) s = .next (deadTime o s (edgeNow o b u))) ∧
        (pw = 0 → b = z.drive → exec (.minimumIntervalExpiry o) s = .next u) ∧
        (pw ≠ 0 → exec (.minimumIntervalExpiry o) s = .next (if b then deadTime o s (pulseNow o u) else u))) ∧
    (z.busy = false → exec (.minimumIntervalExpiry o) s = .next s) ∧
    (doOn s o = true → y.limit = false →
      flt (exec (.currentLimit o) s) { y with limit := true } ∧ flt (exec (.readbackFault o) s) { y with rbk := true, sawOff := false }) ∧
    (y.limit = true → flt (exec (.overload o) s) { y with limit := false, ovld := true, sawOff := false } ∧
      clr (exec (.currentLimitEnd o) s) { y with limit := false }) ∧
    flt (exec (.thermal o) s) { y with limit := false, therm := true, sawOff := false } ∧
    (doOn s o = true → (s.rdA .dioDoCfgS l).getLsbD 17 = true → flt (exec (.openLoad o) s) { y with opn := true }) ∧
    (doOn s o = false → exec (.openLoad o) s = .next s ∧ exec (.currentLimit o) s = .next s ∧ flt (exec (.externalVoltage o) s) { y with extv := true }) ∧
    (y.opn = true → clr (exec (.openLoadClear o) s) { y with opn := false }) ∧
    (y.extv = true → clr (exec (.extvClear o) s) { y with extv := false }) ∧
    (y.off = true → (fld (s.rdA .dioCtlS) 16 8 = 0 ∧ y.sawOff = true) ∨ (fld (s.rdA .dioCtlS) 16 8 ≠ 0 ∧ y.cmd = true) →
      ∃ t, exec (.faultRecovery o) s = .next t ∧ (t.dout l).off = false ∧ (t.dout l).cmd = y.cmd ∧ ∀ i, i ≠ l → t.dout i = s.dout i) ∧
    (∃ t, exec (.groupOvercurrent g) s = .next t ∧ (∀ i, i / 8 = g.val → (t.dout (doLead s i)).grp = true) ∧ (t.rd .supAlmstat).getLsbD 11 = true) ∧
    (s.dio.vfld.getLsbD g = true → ∃ t, exec (.vfldLow g) s = .next t ∧ t.dio.vfld.getLsbD g = false ∧
      (∀ i, i / 8 = g.val → (t.dout (doLead s i)).suply = true) ∧
      (s.dio.kept = [] → fld (s.rdA .dioDoCfgS l) 28 3 ≠ 4 → o.val / 8 = g.val → doBall t o = false)) ∧
    (s.dio.vfdi = true → ∃ t, exec .vfdiLow s = .next t ∧ t.dio = { s.dio with vfdi := false, pulses := 0 } ∧
      (t.rd .dioStat).getLsbD 2 = true ∧ ∀ i, i < 64 → doBall t i = false) ∧
    (s.dio.vfdi = false → exec .vfdiLow s = .next s ∧ ∃ t, exec (.supplyRestore 8) s = .next t ∧ t.dio = { s.dio with vfdi := true }) ∧
    (s.dio.vfld.getLsbD g = false → ∃ t, exec (.supplyRestore (g.castLE (by decide))) s = .next t ∧ t.dio.vfld.getLsbD g = true ∧
      ∀ i, t.dout i = if i / 8 = g.val then { s.dout i with suply := false } else s.dout i) ∧
    (s.dio.wdg = true → safe (exec .watchdogExpiry s) 1) ∧ (s.dio.wdg = false → exec .watchdogExpiry s = .next s) ∧
    safe (exec .fieldLinkLoss s) 2 ∧ safe (exec .fieldClockError s) 4 ∧
    (s.dio.lostL = false → (fieldCauses s ≠ [] → exec (.rearm (.part 0)) s = .next (s.reply .denied)) ∧
      (fieldCauses s = [] → exec (.rearm (.part 0)) s = .next (({ s with dio := { s.dio with fsafe := false, kept := [] } }).reply .ok)) ∧
      ∃ t, exec .linkLost s = .next t ∧ t.dio = { s.dio with lostL := true } ∧
        (t.rd .dioStat).getLsbD 4 = true ∧ (t.rd .supAlmstat).getLsbD 11 = true) ∧
    (exec (.linkFrame false sq lv) s = .next { s with dio := { s.dio with seqs := (s.dio.seqs.1, if lv then sq.toNat + 1 else s.dio.seqs.2), lostF := s.dio.lostF && !(lv && (s.dio.lostF || sq.toNat = s.dio.seqs.2 % 65536)) } }) ∧
    (exec (.linkFrame true sq false) s = .next s) ∧
    (∃ t, exec (.linkFrame true sq true) s = .next t ∧ t.dio.lostL = false ∧ t.dio.seqs = (sq.toNat + 1, s.dio.seqs.2) ∧ t.dio.dos = s.dio.dos) ∧
    (s.dio.lostF = true ∨ s.dio.cfgd = false → exec (.commitMessage n) s = .next s) ∧
    (s.dio.lostF = false → s.dio.cfgd = true → ∃ t, exec (.commitMessage n) s = .next t ∧ t.dio.wdg = !s.dio.offSafe ∧ t.dio.tripped = false ∧
      t.dio.fsafe = s.dio.fsafe ∧ t.dio.di = s.dio.di ∧ (∀ i, i ∉ doLeads s n.toNat → t.dout i = s.dout i) ∧
      (o.val ∈ doLeads s n.toNat →
        let b := commBit s n.toNat (fld (s.rdA .dioDoVposS o) 0 19)
        (t.dout o).cmd = b ∧ (s.dio.fsafe = true → t.dout o = { z with cmd := b, val := b, sawOff := z.sawOff || !b }) ∧
        (s.dio.fsafe = false → (t.dout o).fsafe = false ∧ ((s.part n.toNat).safe = true → (t.dout o).drive = b ∧ (t.dout o).pend = none) ∧
          ((s.part n.toNat).safe = false → (s.rdA .dioDoCfgS o).getLsbD 26 = true → (t.dout o).pend = some b)))) ∧
    (s.schEn = true → s.dio.lostF = false → exec .startMessage s = .next { s with dio := { s.dio with offSafe := false, wdg := true, tripped := false } }) ∧
    (s.schEn = false ∨ s.dio.lostF = true → exec .startMessage s = .next s)

/-- Each of MODE_SETTLE_EXPIRY, LIMITING, LIMITING_END, LIMITER_OPEN, LIMITER_RETRY, MISWIRE_CLEAR, COMPL_RAISE, COMPL_CLEAR, OUTERR_RAISE, OUTERR_CLEAR, VLOOP_LOW, VLOOP_RESTORE, SERVICE_MODE, BUTTON_PRESS, TRIM_COMPLETE, HART_GO, HART_LISTEN, HART_TRANSMIT, CARRIER_DETECT, HART_RXTO_EXPIRY and HART_REPLY_END answers the next state named here, under conditions on the state and the operands alone. The 1 ms after a mode swap ends by closing the limiter. Limiting that lasts opens it with OPEN, MISWIRE, a count of openings that stays at 255, an alarm, and FAULT for a running transaction; a retry closes it, and a retry without limiting clears MISWIRE. COMPL and OUTERR are raised with an alarm and cleared without. Below 16 V every output sources nothing until VLOOP is back. A service mode on a button that is not assigned to ALP is DENIED with a record. A zero trim makes the mean read 8000, a span trim of the default trim makes it read 40 000 within one code with 8000 kept (log 24); outside their limits they answer DENIED and change nothing. A HART GO is BUSY, DENIED or starts; its phases, its end and its status follow the carrier, a buffer that cannot be read or written gives its status (log 175), and only its owner and the foundry partition start it. -/
def Obligations.LoopChannelsTrimAndHart : Prop :=
  ∀ (s : State) (c : Fin 32) (mv mean : BitVec 16) (v : Word) (p : Part) (span : Bool) (cs : List HartChar),
    let x := s.loop c
    let leads (r : Host.Outcome State Fault Refusal) (y : Loop) : Prop := ∃ t, r = .next t ∧ t.loop c = y ∧ (∀ i, i ≠ c.val → t.loop i = s.loop i) ∧
      t.dio = s.dio ∧ (s.ecc = [] → t.regs = s.regs)
    let raises (r : Host.Outcome State Fault Refusal) (y : Loop) (b : Nat) : Prop := ∃ t, r = .next t ∧ t.loop c = y ∧
      (∀ i, i ≠ c.val → t.loop i = s.loop i) ∧ t.dio = s.dio ∧ (t.rd .alpStat).getLsbD b = true ∧ (t.rd .supAlmstat).getLsbD 12 = true
    let ends (r : Host.Outcome State Fault Refusal) (st : Status) : Prop := ∃ t, r = .next t ∧
      t.loop c = { x with hart := .idle, listen := false, hbytes := [] } ∧ (∀ i, i ≠ c.val → t.loop i = s.loop i) ∧ fld (t.rd .alpHStat c) 0 8 = st.code
    (x.settle = true → leads (exec (.modeSettleExpiry c) s) { x with settle := false, opn := false, settled := some s.now }) ∧
    (x.settle = false → exec (.modeSettleExpiry c) s = .next s) ∧
    (alpInput s c = true → x.opn = false → x.limit = false →
      exec (.limiting c) s = .next (s.setLoop c { x with limit := true, retry := retryNow x s.now })) ∧
    (alpInput s c = false ∨ x.opn = true → exec (.limiting c) s = .next s) ∧
    (x.limit = true → exec (.limitingEnd c) s = .next (s.setLoop c { x with limit := false, retry := none })) ∧
    (x.limit = true → x.opn = false → x.hart = .idle →
      let y := { x with limit := false, opn := true, miswire := true, retry := none, opens := min 255 (x.opens + 1) }
      raises (exec (.limiterOpen c) s) y 1) ∧
    (x.limit = true → x.opn = false → x.hart ≠ .idle → ∃ t, exec (.limiterOpen c) s = .next t ∧ (t.loop c).opn = true ∧
      (t.loop c).hart = .idle ∧ fld (t.rd .alpHStat c) 0 8 = Status.fault.code) ∧
    (x.limit = false → exec (.limiterOpen c) s = .next s) ∧
    (x.opn = true → x.miswire = true → x.settle = false → leads (exec (.limiterRetry c) s) { x with opn := false, retry := some s.now }) ∧
    (x.miswire = true → x.retry ≠ none → x.opn = false → x.limit = false →
      leads (exec (.miswireClear c) s) { x with miswire := false, retry := none }) ∧
    (x.retry = none → exec (.miswireClear c) s = .next s) ∧
    (alpOutEn s c = true → x.compl = false → raises (exec (.complRaise c) s) { x with compl := true } 2 ∧
      ((s.rdA .alpCRbposS c).getLsbD 31 = true → x.outerr = false → raises (exec (.outerrRaise c) s) { x with outerr := true } 3)) ∧
    (x.compl = true → leads (exec (.complClear c) s) { x with compl := false } ∧ exec (.outerrRaise c) s = .next s) ∧
    (x.outerr = true → leads (exec (.outerrClear c) s) { x with outerr := false }) ∧
    (∃ t, exec (.vloopLow mv) s = .next t ∧ t.alp = { s.alp with vloop := false } ∧ t.rd .alpVloop = mv.setWidth 32 ∧
      (t.rd .alpStat).getLsbD 4 = true ∧ t.dio = s.dio ∧ loopOut t c = 0) ∧
    (exec (.vloopRestore mv) s = .next (({ s with alp := { s.alp with vloop := true } }).wr .alpVloop (mv.setWidth 32))) ∧
    (∀ b, buttonTaken s v = some b → exec (.serviceMode (.part 0) v) s = .next ((recordDenied 0 b s).reply .denied)) ∧
    (buttonTaken s v = none → serviceBad s v = true → exec (.serviceMode (.part 0) v) s = .next (s.reply .denied)) ∧
    (buttonTaken s v = none → serviceBad s v = false → exec (.serviceMode (.part 0) v) s = .next ((s.put .alpTrimcfgS v).reply .ok)) ∧
    (let w := s.rdA .alpTrimcfgS
     let own := if span then fld w 8 7 else fld w 0 7
     let other := if span then fld w 0 7 else fld w 8 7
     let ch := fld w 24 5
     (w.getLsbD 31 = true → (s.di own).filt = true → (s.di other).filt = false → s.alp.trim = none →
       exec (.buttonPress span) s = .next { s with alp := { s.alp with trim := some span } }) ∧
     (w.getLsbD 31 = false ∨ (s.di own).filt = false ∨ (s.di other).filt = true → exec (.buttonPress span) s = .next s) ∧
     (s.alp.trim = none → exec (.trimComplete mean) s = .next s) ∧
     (s.alp.trim = some span → ∃ t, exec (.trimComplete mean) s = .next t ∧ t.alp = { s.alp with trim := none } ∧ t.mem = s.mem ∧
       (t.rd .alpStat).getLsbD 6 = true ∧ fld (t.rd .alpTrimstat) 30 2 = (if span then 2 else 1) ∧
       let near := (if span then 40000 else 8000) ≤ mean.toNat + 1600 ∧ mean.toNat ≤ (if span then 40000 else 8000) + 1600
       (¬ near → fld (t.rd .alpTrimstat) 0 8 = Status.denied.code ∧ ∀ i, i < 32 → t.rdA .alpCZeroS i = s.rdA .alpCZeroS i ∧ t.rdA .alpCGainS i = s.rdA .alpCGainS i) ∧
       (near → fld (t.rd .alpTrimstat) 0 8 = Status.ok.code ∧ (span = false → trimInt t ch mean.toNat = 8000) ∧
         (span = true → s.rdA .alpCGainS ch = 0x10000 → s.rdA .alpCZeroS ch = 0 → trimInt t ch 8000 = 8000 ∧
           39999 ≤ trimInt t ch mean.toNat ∧ trimInt t ch mean.toNat ≤ 40001)))) ∧
    (let w : Who := .part p
     (p ≠ 0 → alpOwner s c ≠ some p.toNat → exec (.hartGo w c v) s = .next (s.reply .denied) ∧ exec (.hartListen w c v) s = .next (s.reply .denied)) ∧
     (p = 0 ∨ alpOwner s c = some p.toNat →
       (x.hart ≠ .idle → exec (.hartGo w c v) s = .next (s.reply .busy)) ∧
       (x.hart = .idle → fld v 0 16 = 0 → exec (.hartGo w c v) s = .next (s.reply .denied)) ∧
       (x.hart = .idle → fld v 0 16 ≠ 0 → v.getLsbD 31 = true →
         (hartRefused s c (v.getLsbD 30) = true → exec (.hartGo w c v) s = .next (s.reply .denied) ∧ exec (.hartListen w c v) s = .next (s.reply .denied)) ∧
         (hartRefused s c (v.getLsbD 30) = false →
           (v.getLsbD 30 = false →
             let r := partRead ((alpOwner s c).getD 0) (s.rd .alpHTxaddr c).toNat (fld (s.rd .alpHTxlen c) 0 9) (s.put .alpHCtl v c)
             ∃ t, exec (.hartGo w c v) s = .next t ∧ t.rsp.st = .ok ∧ (t.loop c).listen = false ∧ t.mem = s.mem ∧
             (r.1 = .ok → (t.loop c).hart = (if x.carrier then .carrierWait else .sending) ∧ (t.loop c).hbytes = r.2.1) ∧
             (r.1 ≠ .ok → (t.loop c).hart = .idle ∧ fld (t.rd .alpHStat c) 0 8 = r.1.code)) ∧
           (v.getLsbD 30 = true → ∃ t, exec (.hartListen w c v) s = .next t ∧ t.rsp.st = .ok ∧ t.mem = s.mem ∧
             t.loop c = { x with hart := if x.carrier then .receiving else .replyWait, listen := true, hbytes := [] }))))) ∧
    (x.hart = .carrierWait ∨ x.hart = .sending → exec (.hartTransmit c) s = .next (s.setLoop c { x with hart := .replyWait, carrier := false })) ∧
    (x.hart = .idle → exec (.hartTransmit c) s = .next s ∧ exec (.hartRxtoExpiry c) s = .next s ∧
      exec (.carrierDetect c) s = .next (s.setLoop c { x with carrier := true })) ∧
    (x.hart = .sending → leads (exec (.carrierDetect c) s) { x with carrier := true, hart := .carrierWait }) ∧
    (x.hart = .carrierWait → ends (exec (.hartRxtoExpiry c) s) .busy) ∧
    (x.hart = .replyWait → ends (exec (.hartRxtoExpiry c) s) .timeout ∧ ∃ t, exec (.carrierDetect c) s = .next t ∧
      t.loop c = { x with carrier := true, hart := .receiving } ∧ t.rd .alpHTsLo c = lo32 (s.stampAt 9 100000) ∧ t.rd .alpHTsHi c = hi32 (s.stampAt 9 100000)) ∧
    (x.hart ≠ .receiving → exec (.hartReplyEnd c cs) s = .next (s.setLoop c { x with carrier := false })) ∧
    (x.hart = .receiving → ∃ t, exec (.hartReplyEnd c cs) s = .next t ∧
      t.loop c = { x with carrier := false, hart := .idle, listen := false, hbytes := [] } ∧
      let m := fld (s.rd .alpHRxmax c) 0 9
      let r (n : Nat) : Status × State := partWrite n (s.rd .alpHRxaddr c).toNat ((cs.take m).map (·.ch)) (s.setLoop c { x with carrier := false })
      (alpOwner s c = none → fld (t.rd .alpHStat c) 0 8 = Status.denied.code ∧ t.mem = s.mem) ∧ fld (t.rd .alpHStat c) 17 9 = min m cs.length ∧
      fld (t.rd .alpHStat c) 8 8 = min 255 (cs.filter (·.parityErr)).length ∧
      ∀ n, alpOwner s c = some n → t.mem = (r n).2.mem ∧
        fld (t.rd .alpHStat c) 0 8 = (if (r n).1 = .ok then hartStatus cs m else (r n).1).code)

/-- Each of LINK_ENABLE, PCIE_LINK_UP, TRAIN_TIMEOUT, READY_TIMEOUT, SSD_READY, COMMAND_TIMEOUT, PCIE_LINK_DOWN, NVME_COMPLETION, MOUNT, UNMOUNT, FORMAT, VOLUME_COMMAND_COMPLETE, POST, READ_JOB, READ_COMPLETION, FLUSHINT_EXPIRY and HDRINT_EXPIRY answers the next state named here, under conditions on the state and the operands alone. Outside boot step 5: EN starts training from OFF and its clearing gives OFF; a link comes up, in Run, through INIT to ONLINE, and each failure puts it into FAILED with its status, LINKFAIL and an alarm; a first command timeout only resets the controller. Volume commands need their key, run one at a time and end with their status: FORMAT gives an empty log on the ONLINE links, MOUNT the volume of its headers, UNMOUNT leaves all on the SSDs. A post is DENIED, SIZE, FULL, BUSY, a repeat, or a new record with the stream's next number at the log end, stamped with the free error of log 177. Read jobs queue and end with their words; writes complete in order; flush and header intervals queue what has changed. -/
def Obligations.StorageLinksVolumeAndRecorder : Prop :=
  ∀ (s : State) (l : Fin 4) (v us : Word) (p : Part) (gen width : BitVec 4) (i : SsdInfo) (fatal dg : Bool), bootAt s 5 = false →
    let x := s.link l
    let n := p.toNat
    let w : Who := .part p
    let fails (r : Host.Outcome State Fault Refusal) (st : Status) : Prop := ∃ t, r = .next t ∧
      t.link l = { x with state := .failed, fail := st, cmds := [], tmo := false } ∧ t.mem = s.mem ∧ t.engs = s.engs ∧
      (t.rd .stoStat).getLsbD 1 = true ∧ (t.rd .supAlmstat).getLsbD 13 = true
    let volume (r : Host.Outcome State Fault Refusal) (k : Nat) : Prop :=
      (fld v 24 8 ≠ 0xC3 → r = .next (s.reply .denied)) ∧
      (fld v 24 8 = 0xC3 → s.sto.cmd ≠ none → r = .next (s.reply .busy)) ∧
      (fld v 24 8 = 0xC3 → s.sto.cmd = none → r = .next ({ s with sto := { s.sto with cmd := some (k, v.getLsbD 4) } }.reply .ok))
    (p ≠ 0 → exec (.linkEnable w l v) s = .next (s.reply .denied)) ∧
    (let s1 := (s.put .stoLCtl v l).reply .ok
     (v.getLsbD 31 = true → x.state = .off → exec (.linkEnable (.part 0) l v) s = .next (s1.setLink l { x with state := .train })) ∧
     (v.getLsbD 31 = true → x.state ≠ .off → exec (.linkEnable (.part 0) l v) s = .next s1) ∧
     (v.getLsbD 31 = false → x.state ≠ .online →
       exec (.linkEnable (.part 0) l v) s = .next (s1.setLink l { x with state := .off, cmds := [], tmo := false }))) ∧
    (x.state = .train → (netsUp s = true → exec (.pcieLinkUp l gen width) s = .next (s.setLink l { x with state := .init, gen := gen.toNat, width := width.toNat })) ∧
      (netsUp s = false → exec (.pcieLinkUp l gen width) s = .next s) ∧ fails (exec (.trainTimeout l) s) .timeout) ∧
    (x.state ≠ .train → exec (.pcieLinkUp l gen width) s = .next s ∧ exec (.trainTimeout l) s = .next s) ∧
    (x.state = .init → fails (exec (.readyTimeout l) s) .timeout ∧
      (i.block4k = false → fails (exec (.ssdReady l i) s) .size) ∧
      (i.block4k = true → i.ver14 = false → fails (exec (.ssdReady l i) s) .version) ∧
      (i.block4k = true → i.ver14 = true → i.otherError = false → i.cacheRefused = false →
        exec (.ssdReady l i) s = .next (s.setLink l { x with state := .online, wcache := false, cap := usableBlocks i.blocks, tmo := false }))) ∧
    (x.state ≠ .init → exec (.readyTimeout l) s = .next s ∧ exec (.ssdReady l i) s = .next s) ∧
    (x.state = .online → (x.tmo = true → fails (exec (.commandTimeout l) s) .timeout) ∧ (x.tmo = false → exec (.commandTimeout l) s =
      .next (((s.count .stoLCnt 1 l 2).setLink l { x with tmo := true }).count .stoLCnt 1 l 3))) ∧
    (x.state = .init ∨ x.state = .online → fails (exec (.pcieLinkDown l fatal) s) .fault) ∧
    (x.state = .off → exec (.pcieLinkDown l fatal) s = .next s ∧ exec (.nvmeCompletion l us) s = .next s ∧ exec (.commandTimeout l) s = .next s) ∧
    ((fld v 0 2 = 1 → volume (exec (.mount (.part 0) v) s) 1) ∧ (fld v 0 2 = 2 → volume (exec (.unmount (.part 0) v) s) 2) ∧
     (fld v 0 2 = 3 → volume (exec (.format (.part 0) v) s) 3) ∧ (fld v 0 2 = 0 → exec (.mount (.part 0) v) s = .next s)) ∧
    (s.sto.cmd = none → exec .volumeCommandComplete s = .next s) ∧
    (s.sto.cmd = some (1, dg) → s.sto.vol = none → s.sto.early = [] →
      (∀ st, mountCheck dg s = (st, none) → exec .volumeCommandComplete s = .next { s with sto := { s.sto with cmd := none, vst := st } }) ∧
      ∀ h, mountCheck dg s = (.ok, some h) → ∃ t, exec .volumeCommandComplete s = .next t ∧ t.sto.cmd = none ∧ t.sto.vst = .ok ∧ t.sto.log = s.sto.log ∧
        t.sto.vol.map (fun a => (a.volid, a.mask, a.full)) = some (h.volid, h.mask, h.full) ∧ h.endOff ≤ t.sto.endOff ∧ t.sto.loaded = true ∧ t.mem = s.mem) ∧
    (s.sto.cmd = some (2, dg) → (s.sto.vol = none → exec .volumeCommandComplete s = .next { s with sto := { s.sto with cmd := none, vst := .fault } }) ∧
      ∀ vol, s.sto.vol = some vol → (∀ k : Fin 4, vol.mask.getLsbD k = true → s.online k = true) → ∃ t, exec .volumeCommandComplete s = .next t ∧
        t.sto.vol = none ∧ t.sto.vst = .ok ∧ t.sto.cmd = none ∧ t.sto.disk = s.sto.log ∧ (vol.mask.getLsbD l = true → (l.val, s.curHdr vol) ∈ t.sto.hdrs)) ∧
    (s.sto.cmd = some (3, dg) → s.sto.early = [] → ∃ t, exec .volumeCommandComplete s = .next t ∧ t.sto.cmd = none ∧
      (s.onlineMask = 0 → t.sto.vst = .fault ∧ t.sto.vol = s.sto.vol) ∧
      (s.onlineMask ≠ 0 → t.sto.vst = .ok ∧ t.sto.vol.map (·.mask) = some s.onlineMask ∧ t.sto.log = [] ∧ t.sto.endOff = 0 ∧ t.sto.streams = [])) ∧
    (∀ bs s1 pay s2, partRead n (s.rdB n .stoPostAddr).toNat 16 s = (.ok, bs, s1) →
      let d := postDesc bs
      let en := (s1.rd .stoSCtl n).getLsbD 31
      (d.code.getLsbD 31 = true ∨ en = false ∨ d.rsv = true → exec (.post w) s = .next (s1.answer .ok (postValue .denied false))) ∧
      (d.code.getLsbD 31 = false → en = true → d.rsv = false →
        (4096 < d.len → exec (.post w) s = .next (s1.answer .ok (postValue .size false))) ∧
        (d.len ≤ 4096 → partRead n d.addr d.len s1 = (.ok, pay, s2) →
          let z := s2.stream n
          let size := recSize pay.length
          (s2.quotaFull n size = true → d.noRep = true → ∃ t, exec (.post w) s = .next t ∧ t.rsp = { st := .ok, val := postValue .full false } ∧
            (t.stream n).drop = min 0xFFFF (z.drop + 1) ∧ (t.stream n).refFull = min 0xFFFFFFFF (z.refFull + 1) ∧ t.sto.log = s2.sto.log ∧ t.mem = s2.mem) ∧
          (s2.quotaFull n size = false → d.noRep = true → ∀ vol off pads, s2.sto.vol = some vol →
            placeIn s2.online size vol.spans s2.sto.endOff [] = some (off, pads) →
            (bufSize < off + size - s2.sto.fullOff → ∃ t, exec (.post w) s = .next t ∧ t.rsp = { st := .ok, val := postValue .busy false } ∧
              (t.stream n).refBusy = min 0xFFFFFFFF (z.refBusy + 1) ∧ t.sto.log = s2.sto.log ∧ (t.rd .stoStat).getLsbD 0 = true) ∧
            (off + size - s2.sto.fullOff ≤ bufSize → ∃ t, exec (.post w) s = .next t ∧ t.rsp = { st := .ok, val := postValue .ok false } ∧
              t.stream n = { z with next := z.next + 1, last := off, used := z.used + size, drop := 0 } ∧ t.sto.endOff = off + size ∧
              (t.rdB n .stoPostseq 0, t.rdB n .stoPostseq 1) = (lo32 (z.next + 1), hi32 (z.next + 1)) ∧ t.mem = s2.mem ∧
              ∃ r, t.sto.log = s2.sto.log ++ pads.map (fun a => padRec s2.recTime a.1 a.2) ++ [r] ∧ r.seq = z.next + 1 ∧ r.prev = z.last ∧
                r.off = off ∧ r.payload = pay ∧ r.stream = n ∧ r.sys = false ∧ r.code = .num d.code ∧ r.drop = z.drop ∧ r.time = s2.recTime))))) ∧
    (∀ bs s1, partRead n (s.rdB n .stoRdAddr).toNat 32 s = (.ok, bs, s1) →
      let a := (s.rdB n .stoRdAddr).toNat
      let kind := fld (BitVec.ofNat 32 (leNat (slice bs 0 4))) 28 4
      let off := leNat (slice bs 4 8)
      let len := leNat (slice bs 12 4)
      let dst := leNat (slice bs 16 4)
      let st := readJobCheck n a kind off len dst s1
      (st ≠ .ok → exec (.readJob w) s = .next (s1.answer .ok (BitVec.ofNat 32 st.code))) ∧
      (st = .ok → exec (.readJob w) s = .next ({ s1 with sto := { s1.sto with tag := nextTag s1.sto.tag, reads := s1.sto.reads ++ [(⟨p, kind, off, len, BitVec.ofNat 32 dst, BitVec.ofNat 32 a⟩ : RJob)] } }.answer .ok (BitVec.ofNat 32 (65536 * s1.sto.tag))))) ∧
    (s.sto.reads = [] → exec .readCompletion s = .next s) ∧
    (∀ j js, s.sto.reads = j :: js →
      let s0 := { s with sto := { s.sto with reads := js } }
      let r := readResult j s0
      let word (u : State) (k : Nat) (a : Nat) := (partWrite j.part.toNat (j.desc.toNat + k) (leBytes 4 a) u).2
      (r.1 ≠ .ok → exec .readCompletion s = .next (word (word s0 0x1C 0) 0x18 (0x80000000 + r.1.code))) ∧
      (r.1 = .ok → ∀ s1, partWrite j.part.toNat j.dst.toNat r.2 (countReads j.off r.2.length s0) = (.ok, s1) →
        exec .readCompletion s = .next (word (word s1 0x1C r.2.length) 0x18 (0x80000000 + Status.ok.code)))) ∧
    (∀ c cs, x.state = .online → x.cmds = c :: cs → ∃ t, exec (.nvmeCompletion l us) s = .next t ∧ t.mem = s.mem ∧ t.sto.log = s.sto.log ∧
      t.rd .stoLWlat l = (if s.rd .stoLWlat l < us then us else s.rd .stoLWlat l) ∧
      (∀ off, c = .block off → t.sto.fullOff = max s.sto.fullOff (off + 4096)) ∧
      (∀ k, c = .tail k → t.sto.fullOff = s.sto.fullOff ∧ (t.link l).cmds = cs ∧ t.sto.disk = s.sto.disk.filter (fun (a : Rec) => decide (a.off < s.sto.fullOff)) ++
        s.sto.log.filter (fun (a : Rec) => decide (s.sto.fullOff ≤ a.off) && decide (a.off < k))) ∧
      (∀ vol, c = .header → s.sto.vol = some vol → (t.link l).cmds = cs ∧ (l.val, s.curHdr vol) ∈ t.sto.hdrs)) ∧
    (s.sto.vol = none → exec .flushintExpiry s = .next s ∧ exec .hdrintExpiry s = .next s) ∧
    (∀ vol, s.sto.vol = some vol →
      (s.sto.endDirty = false → exec .flushintExpiry s = .next s) ∧ (s.sto.hdrDirty = false → exec .hdrintExpiry s = .next s) ∧
      (s.sto.endDirty = true → s.sto.endOff % 4096 ≠ 0 → vol.linkAt (s.sto.endOff - 1) = some l.val → s.online l = true →
        ∃ t, exec .flushintExpiry s = .next t ∧ t.link l = { x with cmds := x.cmds ++ [.tail s.sto.endOff] } ∧ t.sto.endDirty = false ∧
          (∀ k, k ≠ l.val → t.link k = s.link k) ∧ t.mem = s.mem) ∧
      (s.sto.hdrDirty = true → ∃ t, exec .hdrintExpiry s = .next t ∧ t.sto.hdrDirty = false ∧ t.mem = s.mem ∧
        t.link l = if vol.mask.getLsbD l && s.online l then { x with cmds := x.cmds ++ [.header] } else x))

/-- Each of POSTED_WRITE, DELAYED_READ, BUS_CYCLE, ACK, ERR, CYCLE_TIMEOUT, UNCLAIMED_ENTRY_EXPIRY, SEMAPHORE_TAKE, SEMAPHORE_RELEASE, IRQ_CHANGE, IRQ_STAMP_READ, BRIDGE_ENABLE, BUS_RESET and BUS_RESET_END answers the next state named here, under conditions on the state and the operands alone. A window access is refused by enable, slot, size or a semaphore held by another; a write is posted as one or two halfwords, RETRY when the queue of 32 has no room; a read takes an entry and RETRY until its cycles have ended, then its value or status, and frees it. A free bus starts the second half of a fetch, else the oldest write, else a fetch, and none while BRST_L is low. ACK, ERR and a timeout end the cycle with their status; a failed write sets STAT, LASTERR and an alarm. Reading SEMk takes the semaphore, only its holder gives it back. An assertion is stamped once, with the free error of log 177, until the stamp is read. CTL with TMO 0 is DENIED. -/
def Obligations.BrassBridge : Prop :=
  ∀ (s : State) (q : BitVec 8) (p : Part) (a : BitVec 24) (sz : Size) (v : Word) (d : BitVec 16) (k i : Fin 8) (b : Bool),
    let b0 := s.brb
    let wr := exec (.postedWrite q p a sz v) s
    let rd := exec (.delayedRead q p a sz) s
    let take := exec (.semaphoreTake q p k) s
    let give := exec (.semaphoreRelease q p k) s
    let cyc := exec .busCycle s
    (∀ st, rackCheck p.toNat a.toNat sz s = some st → wr = .next (s.reply st) ∧ rd = .next (s.reply st)) ∧
    ((s.rd .brbCtl).getLsbD 31 = false → rackCheck p.toNat a.toNat sz s = some .denied) ∧
    ((s.rd .brbCtl).getLsbD 31 = true → p = 0 → (sz = .b1 ∨ sz = .b8 → rackCheck p.toNat a.toNat sz s = some .size) ∧
      (sz = .b2 ∨ sz = .b4 → b0.sem = none → rackCheck p.toNat a.toNat sz s = none)) ∧
    (rackCheck p.toNat a.toNat sz s = none →
      (sz = .b4 → (b0.wq.length ≤ 30 → wr = .next ({ s with brb := { b0 with wq := b0.wq ++ [(⟨a.toNat, v.extractLsb' 16 16, p, true⟩ : RackW), ⟨a.toNat + 2, v.extractLsb' 0 16, p, false⟩] } }.reply .ok)) ∧
        (30 < b0.wq.length → wr = .next (s.reply .retry))) ∧
      (sz = .b2 → (b0.wq.length ≤ 31 → wr = .next ({ s with brb := { b0 with wq := b0.wq ++ [(⟨a.toNat, v.extractLsb' 0 16, p, false⟩ : RackW)] } }.reply .ok)) ∧
        (31 < b0.wq.length → wr = .next (s.reply .retry))) ∧
      (b0.rd.find? (fun e => e.2.req = q.toNat && e.2.addr = a.toNat && e.2.wide = decide (sz = .b4)) = none →
        (∀ j, (List.range 8).find? (fun j => (rackEntry s j).isNone) = some j → ∃ t, rd = .next t ∧ t.rsp = { st := .retry, val := 0 } ∧
          rackEntry t j = some ⟨q.toNat, a.toNat, decide (sz = .b4), .waiting, []⟩ ∧ t.brb.wq = b0.wq ∧ t.mem = s.mem) ∧
        ((List.range 8).find? (fun j => (rackEntry s j).isNone) = none → rd = .next (s.reply .retry))) ∧
      (∀ j x, b0.rd.find? (fun e => e.2.req = q.toNat && e.2.addr = a.toNat && e.2.wide = decide (sz = .b4)) = some (j, x) →
        (x.state = .waiting ∨ x.state = .fetching → rd = .next (s.reply .retry)) ∧
        ∀ st, x.state = .ended st → ∃ t, rd = .next t ∧ t.rsp = (if st = .ok then { st := .ok, val := gotValue x.got } else { st := st, val := 0 }) ∧
          rackEntry t j = none ∧ t.brb.wq = b0.wq ∧ t.mem = s.mem)) ∧
    (∀ g : BitVec 16, gotValue [g, d] = g ++ d) ∧
    (b0.cyc ≠ .none ∨ s.pins.brst = false → cyc = .next s) ∧
    (b0.cyc = .none → s.pins.brst = true →
      (∀ j x, b0.rd.find? (fun e => e.2.state = .fetching) = some (j, x) → ∃ t, cyc = .next t ∧ t.brb.cyc = .fetch (some j) ∧ t.brb.wq = b0.wq) ∧
      (b0.rd.find? (fun e => e.2.state = .fetching) = none → (∀ x xs, b0.wq = x :: xs → cyc = .next { s with brb := { b0 with cyc := .write, ad := x.data } }) ∧
        (b0.wq = [] → b0.rd.filter (fun e => e.2.state = .waiting) = [] → cyc = .next s) ∧
        (b0.wq = [] → b0.rd.filter (fun e => e.2.state = .waiting) ≠ [] → ∃ t j, cyc = .next t ∧ t.brb.cyc = .fetch (some j) ∧
          (∃ x, (j, x) ∈ b0.rd ∧ x.state = .waiting) ∧ t.brb.wq = [] ∧ t.mem = s.mem))) ∧
    (b0.cyc = .none → exec (.ack d) s = .next s ∧ exec .err s = .next s ∧ exec .cycleTimeout s = .next s) ∧
    (∀ x xs, b0.cyc = .write → b0.wq = x :: xs → exec (.ack d) s = .next { s with brb := { b0 with cyc := .none, wq := xs } } ∧
      let bad (r : Host.Outcome State Fault Refusal) (st : Status) (m : Nat) : Prop := ∃ t, r = .next t ∧ t.brb = { b0 with cyc := .none, wq := xs } ∧
        (t.rd .brbStat).getLsbD m = true ∧ t.rd .brbLasterr = BitVec.ofNat 32 (st.code * 0x1000000 + x.addr) ∧
        t.rd .brbLasterrp = x.part.setWidth 32 ∧ (t.rd .supAlmstat).getLsbD 14 = true ∧ t.mem = s.mem
      bad (exec .err s) .fault 3 ∧ bad (exec .cycleTimeout s) .timeout 2) ∧
    (∀ j x, b0.cyc = .fetch (some j) → rackEntry s j = some x → (x.wide = true → x.got.length = 1) → (x.wide = false → x.got = []) →
      (∃ t, exec (.ack d) s = .next t ∧ rackEntry t j = some { x with got := x.got ++ [d], state := .ended .ok } ∧ t.brb.cyc = .none ∧ t.brb.wq = b0.wq) ∧
      (∃ t g, exec .err s = .next t ∧ rackEntry t j = some { x with got := x.got ++ [g], state := .ended .fault } ∧ t.brb.cyc = .none) ∧
      (∃ t g, exec .cycleTimeout s = .next t ∧ rackEntry t j = some { x with got := x.got ++ [g], state := .ended .timeout } ∧ t.brb.cyc = .none)) ∧
    (∀ x st, rackEntry s i = some x → x.state = .ended st → ∃ t, exec (.unclaimedEntryExpiry i) s = .next t ∧ rackEntry t i = none ∧
      (t.rd .brbStat).getLsbD 1 = true ∧ t.brb.wq = b0.wq ∧ t.mem = s.mem) ∧
    (rackEntry s i = none → exec (.unclaimedEntryExpiry i) s = .next s) ∧
    (b0.sem = none → take = .next ({ s with brb := { b0 with sem := some ⟨k, p⟩ } }.answer .ok (BitVec.ofNat 32 Status.ok.code)) ∧ give = .next (s.reply .denied)) ∧
    (∀ x, b0.sem = some x → x.slot = k → x.part = p → take = .next (s.answer .ok (BitVec.ofNat 32 Status.ok.code)) ∧
      give = .next ({ s with brb := { b0 with sem := none } }.reply .ok)) ∧
    (∀ x, b0.sem = some x → x.slot ≠ k ∨ x.part ≠ p → take = .next (s.answer .ok (BitVec.ofNat 32 Status.busy.code)) ∧ give = .next (s.reply .denied)) ∧
    (b0.irq.getLsbD k = b → exec (.irqChange k b) s = .next s) ∧
    (b0.irq.getLsbD k ≠ b → ∃ t, exec (.irqChange k b) s = .next t ∧ t.brb.irq.getLsbD k = b ∧ (∀ j : Fin 8, j ≠ k → t.brb.irq.getLsbD j = b0.irq.getLsbD j) ∧
      ((s.rdA .brbIrqCtlS k).getLsbD 31 = true → (s.rdA .brbIrqCtlS k).getLsbD 30 = true → b = true →
        (t.rd .brbIrqStat k).getLsbD 31 = true ∧
        ((s.rd .brbIrqStat k).getLsbD 31 = false → t.rd .brbIrqTsLo k = lo32 (s.stampAt 11 1000) ∧ t.rd .brbIrqTsHi k = hi32 (s.stampAt 11 1000)) ∧
        ((s.rd .brbIrqStat k).getLsbD 31 = true → (t.rd .brbIrqStat k).getLsbD 30 = true ∧ t.rd .brbIrqTsLo k = s.rd .brbIrqTsLo k))) ∧
    (∃ t, exec (.irqStampRead (.part p) k) s = .next t ∧ t.rsp = { st := .ok, val := s.rd .brbIrqTsLo k } ∧
      t.rdB 0 .brbIrqTsHi k = s.rd .brbIrqTsHi k ∧ (t.rd .brbIrqStat k).getLsbD 31 = false ∧ t.brb = b0 ∧ t.mem = s.mem) ∧
    (let ctl (r0 rp : Host.Outcome State Fault Refusal) : Prop := (p ≠ 0 → rp = .next (s.reply .denied)) ∧ (fld v 8 8 = 0 → r0 = .next (s.reply .denied)) ∧
       (fld v 8 8 ≠ 0 → ∃ t, r0 = .next t ∧ t.rsp = { st := .ok, val := 0 } ∧ t.rd .brbCtl = Reg.merge .brbCtl (s.rd .brbCtl) v ∧
         t.brb = { b0 with live := b0.live || v.getLsbD 31, pulse := b0.pulse || v.getLsbD 30 } ∧ t.pins.brst = (t.brb.live && !t.brb.pulse))
     ctl (exec (.bridgeEnable (.part 0) v) s) (exec (.bridgeEnable (.part p) v) s) ∧ ctl (exec (.busReset (.part 0) v) s) (exec (.busReset (.part p) v) s)) ∧
    (∃ t, exec .busResetEnd s = .next t ∧ t.brb = { b0 with pulse := false } ∧ t.pins.brst = b0.live ∧ t.regs = s.regs) ∧
    (∃ t u, exec (.bridgeEnable (.part 0) 0x80001400) s = .next t ∧ exec (.busReset (.part 0) 0xC0001400) t = .next u ∧ u.pins.brst = false)

/-- Each of FUSE_PROGRAM, FUSE_PROGRAM_DONE, KEY_LOAD, MANIFEST, BILLET, SEAL, ERASE, MIRROR, ACTIVATE, CANCEL, CONFIRM, SLOAD, SSTORE, ACTIVATION_INSTANT and CONFIRMATION_TIMEOUT answers the next state named here, under conditions on the state and the operands alone. FPROG needs its key, no running word, no PFAIL, a listed and unlocked word; what reads back programmed is added to the cells and the shadow and nothing is ever cleared; a confirmed image with ADVSVN starts raising its counter. KLOAD answers KEYEMPTY without a wrapping key, CRC for a bad blob, else writes the slot. Every update command is DENIED to others and with a wrong key; MANIFEST, BILLET, SEAL, ERASE, MIRROR, ACTIVATE, CANCEL, CONFIRM, SLOAD and SSTORE put their status into USTAT, and change the slots, the pending activation or the settings only when it is OK (MIRROR copies what it can). At its instant an activation is abandoned with BUSY, STALE or VERSION, or makes the slot TRIAL, ACTIVE to FALLBACK, FALLBACK to VALID, with a warm reset; a timeout makes TRIAL BAD and FALLBACK ACTIVE. -/
def Obligations.FusesKeysAndFieldUpdate : Prop :=
  ∀ (s : State) (v took : Word) (p : Part) (k8 : BitVec 8),
    let w0 : Who := .part 0
    let c := uComp s
    let k := uSlot s
    let x := s.slot c k
    let on := s.onlineMask
    let ua := (s.rd .secUaddr).toNat
    let i := fld v 0 7
    let ends (r : Host.Outcome State Fault Refusal) (st : Status) (sec : Secure) : Prop := ∃ t, r = .next t ∧ t.rsp = { st := .ok, val := 0 } ∧
      fld (t.rd .secUstat) 0 8 = st.code ∧ t.sec = sec ∧ t.mem = s.mem ∧ t.engs = s.engs ∧ t.fuses = s.fuses
    let slotIs (y : Slot) : Secure := { s.sec with slots := Tab.set {} s.sec.slots (3 * c + k) y }
    (p ≠ 0 → let q : Who := .part p
      let no (r : Host.Outcome State Fault Refusal) : Prop := r = .next (s.reply .denied)
      no (exec (.manifest q k8) s) ∧ no (exec (.billet q k8) s) ∧ no (exec (.sealImage q k8) s) ∧ no (exec (.erase q k8) s) ∧ no (exec (.mirror q k8) s) ∧
      no (exec (.activate q k8) s) ∧ no (exec (.cancel q k8) s) ∧ no (exec (.confirm q k8) s) ∧ no (exec (.sload q k8) s) ∧ no (exec (.sstore q k8) s) ∧
      no (exec (.fuseProgram q v) s) ∧ no (exec (.keyLoad q v) s)) ∧
    (k8 ≠ 0x69 → let no (r : Host.Outcome State Fault Refusal) : Prop := r = .next (s.reply .denied)
      no (exec (.manifest w0 k8) s) ∧ no (exec (.billet w0 k8) s) ∧ no (exec (.sealImage w0 k8) s) ∧ no (exec (.erase w0 k8) s) ∧ no (exec (.mirror w0 k8) s) ∧
      no (exec (.activate w0 k8) s) ∧ no (exec (.cancel w0 k8) s) ∧ no (exec (.confirm w0 k8) s) ∧ no (exec (.sload w0 k8) s) ∧ no (exec (.sstore w0 k8) s)) ∧
    (fld v 24 8 ≠ 0x96 → exec (.fuseProgram w0 v) s = .next (s.reply .denied)) ∧
    (fld v 24 8 = 0x96 →
      (s.fuses.prog ≠ none ∨ s.pins.pfail = true → exec (.fuseProgram w0 v) s = .next (s.reply .busy)) ∧
      (s.fuses.prog = none → s.pins.pfail = false →
        (fuseBits i = 0 ∨ (∃ z ∈ sections, z.has i = true ∧ sectionLocked s z = true) → exec (.fuseProgram w0 v) s = .next (s.reply .denied)) ∧
        (fuseBits i ≠ 0 → i ≠ 0 → (∀ z ∈ sections, z.has i = true → sectionLocked s z = false) → s.schEn = false ∨ (64 ≤ i ∧ i ≤ 95) →
          exec (.fuseProgram w0 v) s = .next ({ s with fuses := { s.fuses with prog := some (i, s.rd .secFpdata &&& fuseBits i) } }.reply .ok)))) ∧
    (s.fuses.prog = none → exec (.fuseProgramDone took) s = .next s) ∧
    (∀ j u, s.fuses.prog = some (j, u) → ∃ t, exec (.fuseProgramDone took) s = .next t ∧
      (s.sec.raising = none → s.sec.raise = [] → t.fuses.prog = none ∧ t.sec = s.sec) ∧
      (∀ a, s.sec.raising = some a → u &&& took ≠ u → t.fuses.prog = none ∧ t.sec = { s.sec with raising := none, raiseBad := true }) ∧
      fld (t.rd .secFstat) 0 8 = (if u &&& took = u then Status.ok else .fault).code ∧
      ∀ m, let add (old : Word) : Word := if m = j then old ||| (u &&& took) else old
        t.fuse m = add (s.fuse m) ∧ Tab.get 0 t.fuses.cellA m = add (Tab.get 0 s.fuses.cellA m) ∧ Tab.get 0 t.fuses.cellB m = add (Tab.get 0 s.fuses.cellB m)) ∧
    (v.getLsbD 31 = true →
      ((s.fuse 0).getLsbD 19 = false → exec (.keyLoad w0 v) s = .next ((s.wr .secKlstat (BitVec.ofNat 32 Status.keyEmpty.code)).reply .ok)) ∧
      (∀ bs, (s.fuse 0).getLsbD 19 = true → partRead 0 (s.rd .secKladdr).toNat 48 s = (.ok, bs, s) →
        let h := BitVec.ofNat 32 (leNat (bs.take 4))
        let typ := fld (s.rd .sheKsCtl (fld v 0 5)) 24 2
        let key := keyUnwrap (wordBytes (sectionWords s ⟨19, 44, 51, 59⟩)) (bs.drop 8)
        (fld h 24 8 ≠ 1 ∨ fld h 0 2 ≠ typ → exec (.keyLoad w0 v) s = .next ((s.wr .secKlstat (BitVec.ofNat 32 Status.denied.code)).reply .ok)) ∧
        (fld h 24 8 = 1 → fld h 0 2 = typ → (key = none → exec (.keyLoad w0 v) s = .next ((s.wr .secKlstat (BitVec.ofNat 32 Status.crc.code)).reply .ok)) ∧
          (key ≠ none → ∃ t, exec (.keyLoad w0 v) s = .next t ∧ t.rd .secKlstat = BitVec.ofNat 32 Status.ok.code ∧ t.rsp.st = .ok ∧ t.mem = s.mem ∧
            ∀ m, m ≠ fld v 0 5 → Tab.get 0 t.she.keys m = Tab.get 0 s.she.keys m)))) ∧
    (k = 3 ∨ x.state.inUse = true → ends (exec (.manifest w0 0x69) s) .denied s.sec ∧ ends (exec (.erase w0 0x69) s) .denied s.sec) ∧
    (k ≠ 3 → x.state.inUse = false →
      (on = 0 → ends (exec (.erase w0 0x69) s) .fault s.sec) ∧ (on ≠ 0 → ends (exec (.erase w0 0x69) s) .ok (slotIs {})) ∧
      ∀ h m, partRead 0 ua 0x80 s = (.ok, h, s) → partRead 0 ua (0xC0 + 32 * min (manN h) 3584) s = (.ok, m, s) →
        (∀ st, manCheck s c m = st → st ≠ .ok → ends (exec (.manifest w0 0x69) s) st s.sec) ∧
        (manCheck s c m = .ok → (manComp m ≠ c → ends (exec (.manifest w0 0x69) s) .denied s.sec) ∧
          (manComp m = c → on ≠ 0 → ends (exec (.manifest w0 0x69) s) .ok (slotIs { state := .staging, man := m, links := on })))) ∧
    (k = 3 ∨ x.state ≠ .staging → ends (exec (.billet w0 0x69) s) .denied s.sec ∧ ends (exec (.sealImage w0 0x69) s) .denied s.sec) ∧
    (k ≠ 3 → x.state = .staging →
      (missing x ≠ [] → ends (exec (.sealImage w0 0x69) s) .denied s.sec) ∧
      (missing x = [] → on ≠ 0 → ends (exec (.sealImage w0 0x69) s) .ok (slotIs { x with state := .valid })) ∧
      (manN x.man ≤ uArg s → ends (exec (.billet w0 0x69) s) .size s.sec) ∧
      (uArg s < manN x.man →
        (s.pins.pfail = true ∨ s.pwr.updHeld = true → ends (exec (.billet w0 0x69) s) .busy s.sec) ∧
        (s.pins.pfail = false → s.pwr.updHeld = false → ∀ bs, partRead 0 ua (billetLen x.man (uArg s)) s = (.ok, bs, s) →
          (sha256 bs ≠ slice x.man (0x80 + 32 * uArg s) 32 → ends (exec (.billet w0 0x69) s) .crc s.sec) ∧
          (sha256 bs = slice x.man (0x80 + 32 * uArg s) 32 → on ≠ 0 → ends (exec (.billet w0 0x69) s) .ok
            (slotIs { x with billets := Tab.set [] x.billets (uArg s) bs, links := x.links &&& on }))))) ∧
    (on = 0 → ends (exec (.mirror w0 0x69) s) .fault s.sec) ∧
    (on ≠ 0 → (∀ d j, d < 4 → j < 3 → (s.slot d j).state = .empty ∨ (s.slot d j).state = .staging ∨ (s.slot d j).links &&& on ≠ 0) →
      ∃ t, exec (.mirror w0 0x69) s = .next t ∧ fld (t.rd .secUstat) 0 8 = Status.ok.code ∧ t.mem = s.mem ∧ ∀ d j, d < 4 → j < 3 →
        t.slot d j = if (s.slot d j).state = .empty ∨ (s.slot d j).state = .staging then s.slot d j
          else { s.slot d j with links := (s.slot d j).links ||| on }) ∧
    (k = 3 ∨ x.state ≠ .valid ∨ actTime s < s.now + 1000000000 ∨ trialSlot s ≠ none ∨ s.sec.pend ≠ none ∨ bundleWaits s c k = true →
      ends (exec (.activate w0 0x69) s) .denied s.sec) ∧
    (k ≠ 3 → x.state = .valid → s.now + 1000000000 ≤ actTime s → trialSlot s = none → s.sec.pend = none → bundleWaits s c k = false →
      (compatible (activeSet s c k) = false → ends (exec (.activate w0 0x69) s) .version s.sec) ∧
      (compatible (activeSet s c k) = true → on ≠ 0 → ends (exec (.activate w0 0x69) s) .ok { s.sec with pend := some ⟨c, k, actTime s⟩ })) ∧
    (s.sec.pend = none → ends (exec (.cancel w0 0x69) s) .denied s.sec ∧ exec .activationInstant s = .next s) ∧
    (s.sec.pend ≠ none → ends (exec (.cancel w0 0x69) s) .ok { s.sec with pend := none }) ∧
    (trialSlot s = none → ends (exec (.confirm w0 0x69) s) .denied s.sec ∧ exec .confirmationTimeout s = .next s) ∧
    (∀ d j, trialSlot s = some (d, j) → manAdv (s.slot d j).man = false → ends (exec (.confirm w0 0x69) s) .ok
      { s.sec with slots := Tab.set {} s.sec.slots (3 * d + j) { s.slot d j with state := .active }, trial := none }) ∧
    (∀ d j y, trialSlot s = some (d, j) → manAdv (s.slot d j).man = true → s.sec.raise = [] → s.fuses.prog = none →
      raiseStep s d (manSvn (s.slot d j).man) = some y → ∃ t, exec (.confirm w0 0x69) s = .next t ∧ fld (t.rd .secUstat) 0 8 = Status.ok.code ∧
        (t.slot d j).state = .active ∧ t.sec.trial = none ∧ t.sec.raising = some d ∧ t.fuses.prog = some y ∧ t.mem = s.mem) ∧
    (on = 0 → ends (exec (.sload w0 0x69) s) .fault s.sec ∧ (uArg s ≤ 2 ^ 24 - 64 → ends (exec (.sstore w0 0x69) s) .fault s.sec)) ∧
    (2 ^ 24 - 64 < uArg s → ends (exec (.sstore w0 0x69) s) .size s.sec) ∧
    (on ≠ 0 → (let y := s.settings c
        let r := partWrite 0 ua ((List.range 64).map (Config.settingsHead y.ver y.data.length) ++ y.data) s
        exec (.sload w0 0x69) s = .next ((setUstat r.1 r.2).reply .ok)) ∧
      ∀ bs, uArg s ≤ 2 ^ 24 - 64 → partRead 0 ua (64 + uArg s) s = (.ok, bs, s) → ends (exec (.sstore w0 0x69) s) .ok
        { s.sec with sets := Tab.set {} s.sec.sets c { ver := ((inUseMan s c).map (fun m => manF m 0x32 2)).getD 0, data := bs.drop 64 } }) ∧
    (∀ a, s.sec.pend = some a →
      (s.now < a.time ∨ s.pwr.fatal = true ∨ s.pwr.state ≠ .run ∨ inReset s = true → exec .activationInstant s = .next s) ∧
      (a.time ≤ s.now → s.pwr.state = .run → inReset s = false → s.pwr.fatal = false →
        let drop (st : Status) : Prop := ∃ t, exec .activationInstant s = .next t ∧ t.sec = { s.sec with pend := none } ∧ fld (t.rd .secUstat) 0 8 = st.code ∧ t.engs = s.engs
        (s.pins.pfail = true → drop .busy) ∧ (s.pins.pfail = false → tbSrc s ≠ 0 → drop .stale) ∧
        (s.pins.pfail = false → tbSrc s = 0 → compatible (activeSet s a.comp a.slot) = false → drop .version) ∧
        (s.pins.pfail = false → tbSrc s = 0 → a.comp < 4 → a.slot < 3 → (s.slot a.comp a.slot).state = .valid → compatible (activeSet s a.comp a.slot) = true →
          s.pwr.flush = none → tbHeld s = false → s.pwr.browned = false → ∃ t, exec .activationInstant s = .next t ∧ t.sec.pend = none ∧ t.engs = [] ∧ (t.rd .supRstcause).getLsbD 5 = true ∧
            ∀ j, j < 3 → (t.slot a.comp j).state = if j = a.slot then .trial else
              match (s.slot a.comp j).state with
              | .active => .fallback
              | .fallback => .valid
              | y => y))) ∧
    (∀ d j, trialSlot s = some (d, j) → s.sec.trial ≠ none → s.pwr.flush = none → s.pwr.fatal = false → tbHeld s = false → s.pwr.browned = false → ∃ t, exec .confirmationTimeout s = .next t ∧
      t.sec.trial = none ∧ t.engs = [] ∧ (t.slot d j).state = .bad ∧
      ∀ m, m < 3 → m ≠ j → (t.slot d m).state = if (s.slot d m).state = .fallback then .active else (s.slot d m).state)

/-- Each of TEMPERATURE_SAMPLE, FABRIC_CHECK_DISAGREEMENT, TEST_EN_HIGH, KICK, FOUNDRY_WATCHDOG_EXPIRY, MAINTENANCE_TRANSMIT, MAINTENANCE_RECEIVE, MDIO_GO, MDIO_COMPLETE, UART_TRANSMIT, UART_BYTE_SENT, UART_READ, UART_RECEIVE and PIN_OWNERSHIP_WRITE answers the next state named here, under conditions on the state and the operands alone. Outside pewter a sample is kept in TEMP; at or above WARN it alarms once until both dies are 5 degrees below; two at or above 135 in a row of one die are fatal, and so are a disagreement of the fabric's copies and TEST_EN, each with its cause, FAULT_L low and the outputs in their safe values. KICK with LIM or KTO 0 is DENIED and restarts the count while the scheduler is disabled; a watchdog that is due counts, alarms and resets warm. The maintenance MAC sends the entries up to the tail and stores a frame that has an entry; MDIO runs one operation; the console FIFOs hold 16 bytes. A pin entry is set once, for a permitted kind and class, and cleared when unused. -/
def Obligations.SupervisionAndMaintenance : Prop :=
  ∀ (s : State) (l f d : BitVec 16) (v : Word) (p : Part) (b : Byte) (i : BitVec 8) (fr : List Byte),
    let w : Who := .part 0
    let q : Who := .part p
    let warn : Int := fld (s.rd .supTlim) 0 8
    let hot := atLeast l warn = true ∨ atLeast f warn = true
    let cool := atLeast l (warn - 5) = false ∧ atLeast f (warn - 5) = false
    let dead := (s.sup.hotL = true ∧ atLeast l 135 = true) ∨ (s.sup.hotF = true ∧ atLeast f 135 = true)
    let halts (r : Host.Outcome State Fault Refusal) (n : Nat) : Prop := ∃ t, r = .next t ∧ t.pwr.fatal = true ∧ faultLow t = true ∧
      t.dio.fsafe = true ∧ t.dio.wdg = false ∧ t.sup.kto = none ∧ (t.rd .supFatal).getLsbD n = true ∧ (t.rd .supRstcause).getLsbD 8 = true
    let mt := exec (.maintenanceTransmit w v) s
    let mr := exec (.maintenanceReceive fr) s
    let own := exec (.pinOwnershipWrite w i v) s
    let x := v &&& 0x800033FF
    let old := s.rd .supPinown i.toNat
    (p ≠ 0 → let no (r : Host.Outcome State Fault Refusal) : Prop := r = .next (s.reply .denied)
      no (exec (.kick q v) s) ∧ no (exec (.maintenanceTransmit q v) s) ∧ no (exec (.mdioGo q v) s) ∧ no (exec (.uartTransmit q v) s) ∧ no (exec (.pinOwnershipWrite q i v) s)) ∧
    (tbHeld s = true → exec (.temperatureSample l f) s = .next s ∧ exec (.uartReceive b) s = .next s) ∧
    (s.pwr.state = .pewter → exec (.temperatureSample l f) s = .next s) ∧
    (tbHeld s = false → s.pwr.state ≠ .pewter →
      (¬ dead → ∃ t, exec (.temperatureSample l f) s = .next t ∧ t.rd .supTemp = f ++ l ∧ t.mem = s.mem ∧ t.engs = s.engs ∧ t.pwr = s.pwr ∧
        t.sup = { s.sup with hotL := atLeast l 135, hotF := atLeast f 135, warn := if hot then true else if cool then false else s.sup.warn } ∧
        (hot → s.sup.warn = false → (t.rd .supAlmstat).getLsbD 0 = true) ∧ (¬ hot ∨ s.sup.warn = true → t.rd .supAlmstat = s.rd .supAlmstat)) ∧
      (dead → s.pwr.fatal = false → halts (exec (.temperatureSample l f) s) 3)) ∧
    (s.pwr.fatal = false → halts (exec .fabricCheckDisagreement s) 2 ∧ halts (exec .testEnHigh s) 1) ∧
    (∃ t, exec .testEnHigh s = .next t ∧ t.pins.testEn = true) ∧
    (fld v 16 8 = 0 ∨ fld v 0 16 = 0 → exec (.kick w v) s = .next (s.reply .denied)) ∧
    (fld v 16 8 ≠ 0 → fld v 0 16 ≠ 0 →
      let s1 := s.put .supFwdg (v ||| 0x80000000)
      (s.schEn = false → s.pwr.fatal = false → exec (.kick w v) s = .next ({ s1 with sup := { s.sup with kto := some (fld v 0 16) } }.reply .ok)) ∧
      (s.schEn = true ∨ s.pwr.fatal = true → exec (.kick w v) s = .next (s1.reply .ok))) ∧
    (let due := if s.schEn then decide (fld (s.rd .supFwdg) 16 8 ≤ s.sup.misses) else s.sup.kto.isSome
     (due = false ∨ s.pwr.fatal = true → exec .foundryWatchdogExpiry s = .next s) ∧
     (due = true → s.pwr.fatal = false → inReset s = false → s.pwr.flush = none → tbHeld s = false → s.pwr.browned = false → ∃ t, exec .foundryWatchdogExpiry s = .next t ∧
       t.engs = [] ∧ t.parts = [] ∧ t.pins.rstout = false ∧ (t.rd .supRstcause).getLsbD 6 = true ∧ t.mem = s.mem)) ∧
    (let s1 := s.wr .supMntTxtail v
     let n := 2 ^ fld (s.rd .supMntCtl) 4 4
     let h := (s.rd .supMntTxhead).toNat % n
     let va := (s.rd .supMntTxbase).toNat + 32 * h
     (mntOn s = false ∨ h = v.toNat % n → mt = .next (s1.reply .ok)) ∧
     (mntOn s = true → h ≠ v.toNat % n → (h + 1) % n = v.toNat % n → ringOk s1 0 va = true → ∀ e g, partRead 0 va 8 s1 = (.ok, e, s1) →
       let len := fld (entryWord e 1) 0 16
       14 ≤ len → len ≤ 1992 → partRead 0 (entryWord e 0).toNat len s1 = (.ok, g, s1) → ∃ t, mt = .next t ∧ t.rsp = { st := .ok, val := 0 } ∧
         t.sup = { s.sup with mtx := g } ∧ t.rd .supMntTxhead = BitVec.ofNat 32 ((h + 1) % n) ∧
         t.mem = (partWrite 0 (va + 8) (leBytes 4 (2 ^ 31) ++ leBytes 4 0 ++ leBytes 8 0) { s1 with sup := { s.sup with mtx := g } }).2.mem)) ∧
    (let n := 2 ^ fld (s.rd .supMntCtl) 8 4
     let h := (s.rd .supMntRxhead).toNat % n
     let va := (s.rd .supMntRxbase).toNat + 32 * h
     let full := h = (s.rd .supMntRxtail).toNat % n
     (mntOn s = false ∨ full → mr = .next s) ∧
     (mntOn s = true → ¬ full → ∀ e s2, entryRead 0 va s = (.ok, e, s) → fr.length ≤ fld (entryWord e 1) 0 16 →
       partWrite 0 (entryWord e 0).toNat fr s = (.ok, s2) → mr = .next ((partWrite 0 (va + 4) (leBytes 4 (fr.length % 65536) ++ leBytes 4 (2 ^ 31) ++
         leBytes 4 0 ++ leBytes 8 0 ++ leBytes 8 0) s2).2.wr .supMntRxhead (BitVec.ofNat 32 ((h + 1) % n))))) ∧
    (s.sup.mdio ≠ none → exec (.mdioGo w v) s = .next (s.reply .busy)) ∧
    (s.sup.mdio = none → exec (.mdioComplete d) s = .next s ∧
      exec (.mdioGo w v) s = .next ({ s.put .supMntMdio (v ||| 0x80000000) with sup := { s.sup with mdio := some (v.getLsbD 30) } }.reply .ok)) ∧
    (∀ wr, s.sup.mdio = some wr → ∃ t, exec (.mdioComplete d) s = .next t ∧ t.sup = { s.sup with mdio := none } ∧ (t.rd .supMntMdio).getLsbD 31 = false ∧
      (wr = false → fld (t.rd .supMntMdio) 0 16 = d.toNat) ∧ (wr = true → fld (t.rd .supMntMdio) 0 16 = fld (s.rd .supMntMdio) 0 16) ∧ t.mem = s.mem) ∧
    (16 ≤ s.sup.utx.length → exec (.uartTransmit w v) s = .next (s.reply .full)) ∧
    (s.sup.utx.length < 16 → exec (.uartTransmit w v) s = .next ({ s with sup := { s.sup with utx := s.sup.utx ++ [v.setWidth 8] } }.reply .ok)) ∧
    (exec .uartByteSent s = .next { s with sup := { s.sup with utx := s.sup.utx.drop 1 } }) ∧
    (s.sup.urx = [] → exec (.uartRead q) s = .next ({ s with sup := { s.sup with rxLost := false } }.answer .ok 0)) ∧
    (∀ y ys, s.sup.urx = y :: ys → exec (.uartRead q) s = .next ({ s with sup := { s.sup with urx := ys, rxLost := false } }.answer .ok (0x80000000 ||| y.setWidth 32))) ∧
    (tbHeld s = false → ∃ t, exec (.uartReceive b) s = .next t ∧ (t.rd .supWakesrc).getLsbD 5 = true ∧
      t.sup = if s.pwr.state ≠ .run then s.sup else if 16 ≤ s.sup.urx.length then { s.sup with rxLost := true } else { s.sup with urx := s.sup.urx ++ [b] }) ∧
    (220 ≤ i.toNat ∨ (fld x 12 2 ≠ 0 ∧ fld x 0 10 ≠ 0) → own = .next (s.reply .denied)) ∧
    (i.toNat < 220 → (fld x 12 2 = 0 ∨ fld x 0 10 = 0) →
      (x.getLsbD 31 = false → (old.getLsbD 31 = true ∧ entryBusy s i.toNat = true → own = .next (s.reply .busy)) ∧
        (old.getLsbD 31 = false ∨ entryBusy s i.toNat = false → own = .next ((s.wr .supPinown x i.toNat).reply .ok))) ∧
      (x.getLsbD 31 = true → old.getLsbD 31 = true → (old = x → own = .next (s.reply .ok)) ∧
        (old ≠ x → own = .next ((recordDenied 0 i.toNat s).reply .denied))) ∧
      (x.getLsbD 31 = true → old.getLsbD 31 = false →
        (kindOk i.toNat (fld x 12 2) = false ∨ (fld x 12 2 = 0 ∧ entryS s i.toNat = true ∧ pdCls (ctlA s (fld x 0 10)) ≠ 1) → own = .next (s.reply .denied)) ∧
        (kindOk i.toNat (fld x 12 2) = true →
          fld x 12 2 ≠ 0 ∨ entryS s i.toNat = false ∨ (pdCls (ctlS s (fld x 0 10)) = 1 ∧ pdCls (ctlA s (fld x 0 10)) = 1) →
          own = .next ((s.wr .supPinown x i.toNat).reply .ok))))
end

