-- ==== Sys2Proof/Laws/Tables.lean ====
section
/-!
SUPPORT. Sparse tables: what a set table gives, and that every table operation keeps the canonical form; with it, every
update of a byte keeps memory canonical.
-/

namespace Sys2Proof.Machine

variable {α : Type}

theorem Tab.get_erase (d : α) (t : Tab α) (i j : Nat) :
    Tab.get d (Tab.erase t i) j = if j = i then d else Tab.get d t j := by
  induction t with
  | nil => simp [Tab.erase, Tab.get]
  | cons p t ih =>
    obtain ⟨k, v⟩ := p
    simp only [Tab.erase]
    split
    · subst_vars; rw [ih]; split <;> simp_all [Tab.get]
    · simp only [Tab.get]; split
      · rename_i h1 h2; subst h2; simp [Ne.symm h1]
      · exact ih

theorem Tab.get_insert (d : α) (t : Tab α) (i j : Nat) (v : α) (h : ∀ p ∈ t, p.1 ≠ i) :
    Tab.get d (Tab.insert t i v) j = if j = i then v else Tab.get d t j := by
  induction t with
  | nil => simp [Tab.insert, Tab.get]
  | cons p t ih =>
    obtain ⟨k, w⟩ := p
    simp only [Tab.insert]
    split
    · simp [Tab.get]
    · simp only [Tab.get]
      have hk : k ≠ i := h (k, w) (by simp)
      split
      · subst_vars; simp [hk]
      · exact ih (fun p hp => h p (by simp [hp]))

theorem Tab.erase_keys (t : Tab α) (i : Nat) : ∀ p ∈ Tab.erase t i, p.1 ≠ i := by
  induction t with
  | nil => simp [Tab.erase]
  | cons q t ih =>
    obtain ⟨k, v⟩ := q
    simp only [Tab.erase]
    split
    · exact ih
    · rename_i h
      intro p hp
      simp only [List.mem_cons] at hp
      rcases hp with rfl | hp
      · exact fun e => h e.symm
      · exact ih p hp

/-- The entry of a table after one key is set. -/
theorem Tab.get_set [DecidableEq α] (d : α) (t : Tab α) (i j : Nat) (v : α) :
    Tab.get d (Tab.set d t i v) j = if j = i then v else Tab.get d t j := by
  simp only [Tab.set]
  split
  · rename_i h; rw [Tab.get_erase, h]
  · rw [Tab.get_insert _ _ _ _ _ (Tab.erase_keys t i), Tab.get_erase]; split <;> simp_all

/-- Setting one key leaves the entry of another, whatever default it is read with. -/
theorem Tab.get_set_ne [DecidableEq α] (d d' : α) (t : Tab α) {i j : Nat} (v : α) (h : j ≠ i) :
    Tab.get d' (Tab.set d t i v) j = Tab.get d' t j := by
  simp only [Tab.set]
  split
  · rw [Tab.get_erase, if_neg h]
  · rw [Tab.get_insert _ _ _ _ _ (Tab.erase_keys t i), if_neg h, Tab.get_erase, if_neg h]

theorem Tab.rising_mono (t : Tab α) : ∀ {b c : Nat}, b ≤ c → Tab.rising c t = true → Tab.rising b t = true := by
  cases t with
  | nil => intros; rfl
  | cons p t =>
    intro b c h
    simp only [Tab.rising, Bool.and_eq_true, decide_eq_true_eq]
    exact fun ⟨h1, h2⟩ => ⟨Nat.le_trans h h1, h2⟩

theorem Tab.rising_erase (i : Nat) (t : Tab α) : ∀ {b : Nat}, Tab.rising b t = true → Tab.rising b (Tab.erase t i) = true := by
  induction t with
  | nil => intros; rfl
  | cons p t ih =>
    obtain ⟨k, v⟩ := p
    intro b h
    simp only [Tab.rising, Bool.and_eq_true, decide_eq_true_eq] at h
    simp only [Tab.erase]
    split
    · exact Tab.rising_mono _ (by omega) (ih h.2)
    · simp only [Tab.rising, Bool.and_eq_true, decide_eq_true_eq]
      exact ⟨h.1, ih h.2⟩

theorem Tab.rising_insert (i : Nat) (v : α) (t : Tab α) :
    ∀ {b : Nat}, b ≤ i → (∀ p ∈ t, p.1 ≠ i) → Tab.rising b t = true → Tab.rising b (Tab.insert t i v) = true := by
  induction t with
  | nil => intro b hb _ _; simp [Tab.insert, Tab.rising, hb]
  | cons p t ih =>
    obtain ⟨k, w⟩ := p
    intro b hb hn h
    simp only [Tab.rising, Bool.and_eq_true, decide_eq_true_eq] at h
    simp only [Tab.insert]
    split
    · rename_i hlt
      simp only [Tab.rising, Bool.and_eq_true, decide_eq_true_eq]
      exact ⟨hb, hlt, h.2⟩
    · rename_i hlt
      have hk : k ≠ i := hn (k, w) (by simp)
      simp only [Tab.rising, Bool.and_eq_true, decide_eq_true_eq]
      exact ⟨h.1, ih (by omega) (fun p hp => hn p (by simp [hp])) h.2⟩

theorem Tab.mem_erase {i : Nat} {t : Tab α} {p : Nat × α} (h : p ∈ Tab.erase t i) : p ∈ t := by
  induction t with
  | nil => simp [Tab.erase] at h
  | cons q t ih =>
    obtain ⟨k, v⟩ := q
    simp only [Tab.erase] at h
    split at h
    · exact List.mem_cons_of_mem _ (ih h)
    · simp only [List.mem_cons] at h ⊢
      exact h.imp_right ih

theorem Tab.mem_insert {i : Nat} {v : α} {t : Tab α} {p : Nat × α} (h : p ∈ Tab.insert t i v) : p = (i, v) ∨ p ∈ t := by
  induction t with
  | nil => simp [Tab.insert] at h; exact .inl h
  | cons q t ih =>
    obtain ⟨k, w⟩ := q
    simp only [Tab.insert] at h
    split at h
    · simp only [List.mem_cons] at h ⊢
      exact h
    · simp only [List.mem_cons] at h ⊢
      rcases h with h | h
      · exact .inr (.inl h)
      · rcases ih h with h | h
        · exact .inl h
        · exact .inr (.inr h)

/-- Setting a key keeps a table canonical. -/
theorem Tab.wf_set [DecidableEq α] (d : α) (t : Tab α) (i : Nat) (v : α) (h : Tab.wf d t = true) :
    Tab.wf d (Tab.set d t i v) = true := by
  simp only [Tab.wf, Bool.and_eq_true, List.all_eq_true, Bool.not_eq_true', decide_eq_false_iff_not] at h ⊢
  simp only [Tab.set]
  split
  · exact ⟨Tab.rising_erase i t h.1, fun p hp => h.2 p (Tab.mem_erase hp)⟩
  · rename_i hv
    refine ⟨Tab.rising_insert i v _ (Nat.zero_le _) (Tab.erase_keys t i) (Tab.rising_erase i t h.1), fun p hp => ?_⟩
    rcases Tab.mem_insert hp with rfl | hp
    · exact hv
    · exact h.2 p (Tab.mem_erase hp)

/-! ### Memory -/

/-- Setting a byte keeps memory canonical. -/
theorem State.setByte_wf (s : State) (a : Nat) (b : Byte) (h : Memory.wf s.mem = true) :
    Memory.wf (s.setByte a b).mem = true := Tab.wf_set 0 s.mem a b h

/-- Setting bytes keeps memory canonical. -/
theorem State.setBytes_wf (bs : List Byte) : ∀ (a : Nat) (s : State), Memory.wf s.mem = true →
    Memory.wf (State.setBytes a bs s).mem = true := by
  induction bs with
  | nil => intro a s h; exact h
  | cons b bs ih => intro a s h; exact ih (a + 1) _ (State.setByte_wf s a b h)

/-- Setting a word keeps memory canonical. -/
theorem State.setWord_wf (s : State) (a : Nat) (v : Word) (h : Memory.wf s.mem = true) :
    Memory.wf (s.setWord a v).mem = true := State.setBytes_wf _ a s h

/-- A byte just set reads the value set; every other byte reads as before. -/
theorem State.byte_setByte (s : State) (a b : Nat) (x : Byte) :
    (s.setByte a x).byte b = if b = a then x else s.byte b := Tab.get_set 0 s.mem a b x

end Sys2Proof.Machine
end

