-- ==== Sys2Proof/Laws/State.lean ====
section
/-!
SUPPORT. What each named update of the state leaves alone, one lemma per field, and what it sets.
-/

namespace Sys2Proof.Machine

/-! ### answer -/
@[simp] theorem State.answer_pending (s : State) (st : Status) (v : Word) : (State.answer st v s).pending = s.pending := rfl
@[simp] theorem State.answer_free (s : State) (st : Status) (v : Word) : (State.answer st v s).free = s.free := rfl
@[simp] theorem State.answer_mem (s : State) (st : Status) (v : Word) : (State.answer st v s).mem = s.mem := rfl
@[simp] theorem State.answer_poison (s : State) (st : Status) (v : Word) : (State.answer st v s).poison = s.poison := rfl
@[simp] theorem State.answer_ecc (s : State) (st : Status) (v : Word) : (State.answer st v s).ecc = s.ecc := rfl
@[simp] theorem State.answer_regs (s : State) (st : Status) (v : Word) : (State.answer st v s).regs = s.regs := rfl
@[simp] theorem State.answer_pins (s : State) (st : Status) (v : Word) : (State.answer st v s).pins = s.pins := rfl
@[simp] theorem State.answer_pwr (s : State) (st : Status) (v : Word) : (State.answer st v s).pwr = s.pwr := rfl
@[simp] theorem State.answer_fuses (s : State) (st : Status) (v : Word) : (State.answer st v s).fuses = s.fuses := rfl
@[simp] theorem State.answer_clk (s : State) (st : Status) (v : Word) : (State.answer st v s).clk = s.clk := rfl
@[simp] theorem State.answer_tb (s : State) (st : Status) (v : Word) : (State.answer st v s).tb = s.tb := rfl
@[simp] theorem State.answer_triads (s : State) (st : Status) (v : Word) : (State.answer st v s).triads = s.triads := rfl
@[simp] theorem State.answer_engs (s : State) (st : Status) (v : Word) : (State.answer st v s).engs = s.engs := rfl
@[simp] theorem State.answer_parts (s : State) (st : Status) (v : Word) : (State.answer st v s).parts = s.parts := rfl
@[simp] theorem State.answer_sch (s : State) (st : Status) (v : Word) : (State.answer st v s).sch = s.sch := rfl
@[simp] theorem State.answer_arb (s : State) (st : Status) (v : Word) : (State.answer st v s).arb = s.arb := rfl
@[simp] theorem State.answer_she (s : State) (st : Status) (v : Word) : (State.answer st v s).she = s.she := rfl
@[simp] theorem State.answer_eth (s : State) (st : Status) (v : Word) : (State.answer st v s).eth = s.eth := rfl
@[simp] theorem State.answer_stn (s : State) (st : Status) (v : Word) : (State.answer st v s).stn = s.stn := rfl
@[simp] theorem State.answer_cans (s : State) (st : Status) (v : Word) : (State.answer st v s).cans = s.cans := rfl
@[simp] theorem State.answer_dio (s : State) (st : Status) (v : Word) : (State.answer st v s).dio = s.dio := rfl
@[simp] theorem State.answer_alp (s : State) (st : Status) (v : Word) : (State.answer st v s).alp = s.alp := rfl
@[simp] theorem State.answer_sto (s : State) (st : Status) (v : Word) : (State.answer st v s).sto = s.sto := rfl
@[simp] theorem State.answer_brb (s : State) (st : Status) (v : Word) : (State.answer st v s).brb = s.brb := rfl
@[simp] theorem State.answer_sec (s : State) (st : Status) (v : Word) : (State.answer st v s).sec = s.sec := rfl
@[simp] theorem State.answer_sup (s : State) (st : Status) (v : Word) : (State.answer st v s).sup = s.sup := rfl

/-! ### reply -/
@[simp] theorem State.reply_pending (s : State) (st : Status) : (State.reply st s).pending = s.pending := rfl
@[simp] theorem State.reply_free (s : State) (st : Status) : (State.reply st s).free = s.free := rfl
@[simp] theorem State.reply_mem (s : State) (st : Status) : (State.reply st s).mem = s.mem := rfl
@[simp] theorem State.reply_poison (s : State) (st : Status) : (State.reply st s).poison = s.poison := rfl
@[simp] theorem State.reply_ecc (s : State) (st : Status) : (State.reply st s).ecc = s.ecc := rfl
@[simp] theorem State.reply_regs (s : State) (st : Status) : (State.reply st s).regs = s.regs := rfl
@[simp] theorem State.reply_pins (s : State) (st : Status) : (State.reply st s).pins = s.pins := rfl
@[simp] theorem State.reply_pwr (s : State) (st : Status) : (State.reply st s).pwr = s.pwr := rfl
@[simp] theorem State.reply_fuses (s : State) (st : Status) : (State.reply st s).fuses = s.fuses := rfl
@[simp] theorem State.reply_clk (s : State) (st : Status) : (State.reply st s).clk = s.clk := rfl
@[simp] theorem State.reply_tb (s : State) (st : Status) : (State.reply st s).tb = s.tb := rfl
@[simp] theorem State.reply_triads (s : State) (st : Status) : (State.reply st s).triads = s.triads := rfl
@[simp] theorem State.reply_engs (s : State) (st : Status) : (State.reply st s).engs = s.engs := rfl
@[simp] theorem State.reply_parts (s : State) (st : Status) : (State.reply st s).parts = s.parts := rfl
@[simp] theorem State.reply_sch (s : State) (st : Status) : (State.reply st s).sch = s.sch := rfl
@[simp] theorem State.reply_arb (s : State) (st : Status) : (State.reply st s).arb = s.arb := rfl
@[simp] theorem State.reply_she (s : State) (st : Status) : (State.reply st s).she = s.she := rfl
@[simp] theorem State.reply_eth (s : State) (st : Status) : (State.reply st s).eth = s.eth := rfl
@[simp] theorem State.reply_stn (s : State) (st : Status) : (State.reply st s).stn = s.stn := rfl
@[simp] theorem State.reply_cans (s : State) (st : Status) : (State.reply st s).cans = s.cans := rfl
@[simp] theorem State.reply_dio (s : State) (st : Status) : (State.reply st s).dio = s.dio := rfl
@[simp] theorem State.reply_alp (s : State) (st : Status) : (State.reply st s).alp = s.alp := rfl
@[simp] theorem State.reply_sto (s : State) (st : Status) : (State.reply st s).sto = s.sto := rfl
@[simp] theorem State.reply_brb (s : State) (st : Status) : (State.reply st s).brb = s.brb := rfl
@[simp] theorem State.reply_sec (s : State) (st : Status) : (State.reply st s).sec = s.sec := rfl
@[simp] theorem State.reply_sup (s : State) (st : Status) : (State.reply st s).sup = s.sup := rfl

/-! ### spend -/
@[simp] theorem State.spend_pending (s : State) : (State.spend s).pending = s.pending := rfl
@[simp] theorem State.spend_rsp (s : State) : (State.spend s).rsp = s.rsp := rfl
@[simp] theorem State.spend_mem (s : State) : (State.spend s).mem = s.mem := rfl
@[simp] theorem State.spend_poison (s : State) : (State.spend s).poison = s.poison := rfl
@[simp] theorem State.spend_ecc (s : State) : (State.spend s).ecc = s.ecc := rfl
@[simp] theorem State.spend_regs (s : State) : (State.spend s).regs = s.regs := rfl
@[simp] theorem State.spend_pins (s : State) : (State.spend s).pins = s.pins := rfl
@[simp] theorem State.spend_pwr (s : State) : (State.spend s).pwr = s.pwr := rfl
@[simp] theorem State.spend_fuses (s : State) : (State.spend s).fuses = s.fuses := rfl
@[simp] theorem State.spend_clk (s : State) : (State.spend s).clk = s.clk := rfl
@[simp] theorem State.spend_tb (s : State) : (State.spend s).tb = s.tb := rfl
@[simp] theorem State.spend_triads (s : State) : (State.spend s).triads = s.triads := rfl
@[simp] theorem State.spend_engs (s : State) : (State.spend s).engs = s.engs := rfl
@[simp] theorem State.spend_parts (s : State) : (State.spend s).parts = s.parts := rfl
@[simp] theorem State.spend_sch (s : State) : (State.spend s).sch = s.sch := rfl
@[simp] theorem State.spend_arb (s : State) : (State.spend s).arb = s.arb := rfl
@[simp] theorem State.spend_she (s : State) : (State.spend s).she = s.she := rfl
@[simp] theorem State.spend_eth (s : State) : (State.spend s).eth = s.eth := rfl
@[simp] theorem State.spend_stn (s : State) : (State.spend s).stn = s.stn := rfl
@[simp] theorem State.spend_cans (s : State) : (State.spend s).cans = s.cans := rfl
@[simp] theorem State.spend_dio (s : State) : (State.spend s).dio = s.dio := rfl
@[simp] theorem State.spend_alp (s : State) : (State.spend s).alp = s.alp := rfl
@[simp] theorem State.spend_sto (s : State) : (State.spend s).sto = s.sto := rfl
@[simp] theorem State.spend_brb (s : State) : (State.spend s).brb = s.brb := rfl
@[simp] theorem State.spend_sec (s : State) : (State.spend s).sec = s.sec := rfl
@[simp] theorem State.spend_sup (s : State) : (State.spend s).sup = s.sup := rfl

/-! ### wr -/
@[simp] theorem State.wr_pending (s : State) (r : Reg) (v : Word) (i j : Nat) : (State.wr r v s i j).pending = s.pending := rfl
@[simp] theorem State.wr_rsp (s : State) (r : Reg) (v : Word) (i j : Nat) : (State.wr r v s i j).rsp = s.rsp := rfl
@[simp] theorem State.wr_free (s : State) (r : Reg) (v : Word) (i j : Nat) : (State.wr r v s i j).free = s.free := rfl
@[simp] theorem State.wr_mem (s : State) (r : Reg) (v : Word) (i j : Nat) : (State.wr r v s i j).mem = s.mem := rfl
@[simp] theorem State.wr_poison (s : State) (r : Reg) (v : Word) (i j : Nat) : (State.wr r v s i j).poison = s.poison := rfl
@[simp] theorem State.wr_ecc (s : State) (r : Reg) (v : Word) (i j : Nat) : (State.wr r v s i j).ecc = s.ecc := rfl
@[simp] theorem State.wr_pins (s : State) (r : Reg) (v : Word) (i j : Nat) : (State.wr r v s i j).pins = s.pins := rfl
@[simp] theorem State.wr_pwr (s : State) (r : Reg) (v : Word) (i j : Nat) : (State.wr r v s i j).pwr = s.pwr := rfl
@[simp] theorem State.wr_fuses (s : State) (r : Reg) (v : Word) (i j : Nat) : (State.wr r v s i j).fuses = s.fuses := rfl
@[simp] theorem State.wr_clk (s : State) (r : Reg) (v : Word) (i j : Nat) : (State.wr r v s i j).clk = s.clk := rfl
@[simp] theorem State.wr_tb (s : State) (r : Reg) (v : Word) (i j : Nat) : (State.wr r v s i j).tb = s.tb := rfl
@[simp] theorem State.wr_triads (s : State) (r : Reg) (v : Word) (i j : Nat) : (State.wr r v s i j).triads = s.triads := rfl
@[simp] theorem State.wr_engs (s : State) (r : Reg) (v : Word) (i j : Nat) : (State.wr r v s i j).engs = s.engs := rfl
@[simp] theorem State.wr_parts (s : State) (r : Reg) (v : Word) (i j : Nat) : (State.wr r v s i j).parts = s.parts := rfl
@[simp] theorem State.wr_sch (s : State) (r : Reg) (v : Word) (i j : Nat) : (State.wr r v s i j).sch = s.sch := rfl
@[simp] theorem State.wr_arb (s : State) (r : Reg) (v : Word) (i j : Nat) : (State.wr r v s i j).arb = s.arb := rfl
@[simp] theorem State.wr_she (s : State) (r : Reg) (v : Word) (i j : Nat) : (State.wr r v s i j).she = s.she := rfl
@[simp] theorem State.wr_eth (s : State) (r : Reg) (v : Word) (i j : Nat) : (State.wr r v s i j).eth = s.eth := rfl
@[simp] theorem State.wr_stn (s : State) (r : Reg) (v : Word) (i j : Nat) : (State.wr r v s i j).stn = s.stn := rfl
@[simp] theorem State.wr_cans (s : State) (r : Reg) (v : Word) (i j : Nat) : (State.wr r v s i j).cans = s.cans := rfl
@[simp] theorem State.wr_dio (s : State) (r : Reg) (v : Word) (i j : Nat) : (State.wr r v s i j).dio = s.dio := rfl
@[simp] theorem State.wr_alp (s : State) (r : Reg) (v : Word) (i j : Nat) : (State.wr r v s i j).alp = s.alp := rfl
@[simp] theorem State.wr_sto (s : State) (r : Reg) (v : Word) (i j : Nat) : (State.wr r v s i j).sto = s.sto := rfl
@[simp] theorem State.wr_brb (s : State) (r : Reg) (v : Word) (i j : Nat) : (State.wr r v s i j).brb = s.brb := rfl
@[simp] theorem State.wr_sec (s : State) (r : Reg) (v : Word) (i j : Nat) : (State.wr r v s i j).sec = s.sec := rfl
@[simp] theorem State.wr_sup (s : State) (r : Reg) (v : Word) (i j : Nat) : (State.wr r v s i j).sup = s.sup := rfl

/-! ### wrA -/
@[simp] theorem State.wrA_pending (s : State) (r : Reg) (v : Word) (i j : Nat) : (State.wrA r v s i j).pending = s.pending := rfl
@[simp] theorem State.wrA_rsp (s : State) (r : Reg) (v : Word) (i j : Nat) : (State.wrA r v s i j).rsp = s.rsp := rfl
@[simp] theorem State.wrA_free (s : State) (r : Reg) (v : Word) (i j : Nat) : (State.wrA r v s i j).free = s.free := rfl
@[simp] theorem State.wrA_mem (s : State) (r : Reg) (v : Word) (i j : Nat) : (State.wrA r v s i j).mem = s.mem := rfl
@[simp] theorem State.wrA_poison (s : State) (r : Reg) (v : Word) (i j : Nat) : (State.wrA r v s i j).poison = s.poison := rfl
@[simp] theorem State.wrA_ecc (s : State) (r : Reg) (v : Word) (i j : Nat) : (State.wrA r v s i j).ecc = s.ecc := rfl
@[simp] theorem State.wrA_pins (s : State) (r : Reg) (v : Word) (i j : Nat) : (State.wrA r v s i j).pins = s.pins := rfl
@[simp] theorem State.wrA_pwr (s : State) (r : Reg) (v : Word) (i j : Nat) : (State.wrA r v s i j).pwr = s.pwr := rfl
@[simp] theorem State.wrA_fuses (s : State) (r : Reg) (v : Word) (i j : Nat) : (State.wrA r v s i j).fuses = s.fuses := rfl
@[simp] theorem State.wrA_clk (s : State) (r : Reg) (v : Word) (i j : Nat) : (State.wrA r v s i j).clk = s.clk := rfl
@[simp] theorem State.wrA_tb (s : State) (r : Reg) (v : Word) (i j : Nat) : (State.wrA r v s i j).tb = s.tb := rfl
@[simp] theorem State.wrA_triads (s : State) (r : Reg) (v : Word) (i j : Nat) : (State.wrA r v s i j).triads = s.triads := rfl
@[simp] theorem State.wrA_engs (s : State) (r : Reg) (v : Word) (i j : Nat) : (State.wrA r v s i j).engs = s.engs := rfl
@[simp] theorem State.wrA_parts (s : State) (r : Reg) (v : Word) (i j : Nat) : (State.wrA r v s i j).parts = s.parts := rfl
@[simp] theorem State.wrA_sch (s : State) (r : Reg) (v : Word) (i j : Nat) : (State.wrA r v s i j).sch = s.sch := rfl
@[simp] theorem State.wrA_arb (s : State) (r : Reg) (v : Word) (i j : Nat) : (State.wrA r v s i j).arb = s.arb := rfl
@[simp] theorem State.wrA_she (s : State) (r : Reg) (v : Word) (i j : Nat) : (State.wrA r v s i j).she = s.she := rfl
@[simp] theorem State.wrA_eth (s : State) (r : Reg) (v : Word) (i j : Nat) : (State.wrA r v s i j).eth = s.eth := rfl
@[simp] theorem State.wrA_stn (s : State) (r : Reg) (v : Word) (i j : Nat) : (State.wrA r v s i j).stn = s.stn := rfl
@[simp] theorem State.wrA_cans (s : State) (r : Reg) (v : Word) (i j : Nat) : (State.wrA r v s i j).cans = s.cans := rfl
@[simp] theorem State.wrA_dio (s : State) (r : Reg) (v : Word) (i j : Nat) : (State.wrA r v s i j).dio = s.dio := rfl
@[simp] theorem State.wrA_alp (s : State) (r : Reg) (v : Word) (i j : Nat) : (State.wrA r v s i j).alp = s.alp := rfl
@[simp] theorem State.wrA_sto (s : State) (r : Reg) (v : Word) (i j : Nat) : (State.wrA r v s i j).sto = s.sto := rfl
@[simp] theorem State.wrA_brb (s : State) (r : Reg) (v : Word) (i j : Nat) : (State.wrA r v s i j).brb = s.brb := rfl
@[simp] theorem State.wrA_sec (s : State) (r : Reg) (v : Word) (i j : Nat) : (State.wrA r v s i j).sec = s.sec := rfl
@[simp] theorem State.wrA_sup (s : State) (r : Reg) (v : Word) (i j : Nat) : (State.wrA r v s i j).sup = s.sup := rfl

/-! ### swap -/
@[simp] theorem State.swap_pending (s : State) (r : Reg) (i j : Nat) : (State.swap r s i j).pending = s.pending := rfl
@[simp] theorem State.swap_rsp (s : State) (r : Reg) (i j : Nat) : (State.swap r s i j).rsp = s.rsp := rfl
@[simp] theorem State.swap_free (s : State) (r : Reg) (i j : Nat) : (State.swap r s i j).free = s.free := rfl
@[simp] theorem State.swap_mem (s : State) (r : Reg) (i j : Nat) : (State.swap r s i j).mem = s.mem := rfl
@[simp] theorem State.swap_poison (s : State) (r : Reg) (i j : Nat) : (State.swap r s i j).poison = s.poison := rfl
@[simp] theorem State.swap_ecc (s : State) (r : Reg) (i j : Nat) : (State.swap r s i j).ecc = s.ecc := rfl
@[simp] theorem State.swap_pins (s : State) (r : Reg) (i j : Nat) : (State.swap r s i j).pins = s.pins := rfl
@[simp] theorem State.swap_pwr (s : State) (r : Reg) (i j : Nat) : (State.swap r s i j).pwr = s.pwr := rfl
@[simp] theorem State.swap_fuses (s : State) (r : Reg) (i j : Nat) : (State.swap r s i j).fuses = s.fuses := rfl
@[simp] theorem State.swap_clk (s : State) (r : Reg) (i j : Nat) : (State.swap r s i j).clk = s.clk := rfl
@[simp] theorem State.swap_tb (s : State) (r : Reg) (i j : Nat) : (State.swap r s i j).tb = s.tb := rfl
@[simp] theorem State.swap_triads (s : State) (r : Reg) (i j : Nat) : (State.swap r s i j).triads = s.triads := rfl
@[simp] theorem State.swap_engs (s : State) (r : Reg) (i j : Nat) : (State.swap r s i j).engs = s.engs := rfl
@[simp] theorem State.swap_parts (s : State) (r : Reg) (i j : Nat) : (State.swap r s i j).parts = s.parts := rfl
@[simp] theorem State.swap_sch (s : State) (r : Reg) (i j : Nat) : (State.swap r s i j).sch = s.sch := rfl
@[simp] theorem State.swap_arb (s : State) (r : Reg) (i j : Nat) : (State.swap r s i j).arb = s.arb := rfl
@[simp] theorem State.swap_she (s : State) (r : Reg) (i j : Nat) : (State.swap r s i j).she = s.she := rfl
@[simp] theorem State.swap_eth (s : State) (r : Reg) (i j : Nat) : (State.swap r s i j).eth = s.eth := rfl
@[simp] theorem State.swap_stn (s : State) (r : Reg) (i j : Nat) : (State.swap r s i j).stn = s.stn := rfl
@[simp] theorem State.swap_cans (s : State) (r : Reg) (i j : Nat) : (State.swap r s i j).cans = s.cans := rfl
@[simp] theorem State.swap_dio (s : State) (r : Reg) (i j : Nat) : (State.swap r s i j).dio = s.dio := rfl
@[simp] theorem State.swap_alp (s : State) (r : Reg) (i j : Nat) : (State.swap r s i j).alp = s.alp := rfl
@[simp] theorem State.swap_sto (s : State) (r : Reg) (i j : Nat) : (State.swap r s i j).sto = s.sto := rfl
@[simp] theorem State.swap_brb (s : State) (r : Reg) (i j : Nat) : (State.swap r s i j).brb = s.brb := rfl
@[simp] theorem State.swap_sec (s : State) (r : Reg) (i j : Nat) : (State.swap r s i j).sec = s.sec := rfl
@[simp] theorem State.swap_sup (s : State) (r : Reg) (i j : Nat) : (State.swap r s i j).sup = s.sup := rfl

/-! ### swapAll -/
@[simp] theorem State.swapAll_pending (s : State) (p : Nat → Bool) (off : Nat) : (State.swapAll p off s).pending = s.pending := rfl
@[simp] theorem State.swapAll_rsp (s : State) (p : Nat → Bool) (off : Nat) : (State.swapAll p off s).rsp = s.rsp := rfl
@[simp] theorem State.swapAll_free (s : State) (p : Nat → Bool) (off : Nat) : (State.swapAll p off s).free = s.free := rfl
@[simp] theorem State.swapAll_mem (s : State) (p : Nat → Bool) (off : Nat) : (State.swapAll p off s).mem = s.mem := rfl
@[simp] theorem State.swapAll_poison (s : State) (p : Nat → Bool) (off : Nat) : (State.swapAll p off s).poison = s.poison := rfl
@[simp] theorem State.swapAll_ecc (s : State) (p : Nat → Bool) (off : Nat) : (State.swapAll p off s).ecc = s.ecc := rfl
@[simp] theorem State.swapAll_pins (s : State) (p : Nat → Bool) (off : Nat) : (State.swapAll p off s).pins = s.pins := rfl
@[simp] theorem State.swapAll_pwr (s : State) (p : Nat → Bool) (off : Nat) : (State.swapAll p off s).pwr = s.pwr := rfl
@[simp] theorem State.swapAll_fuses (s : State) (p : Nat → Bool) (off : Nat) : (State.swapAll p off s).fuses = s.fuses := rfl
@[simp] theorem State.swapAll_clk (s : State) (p : Nat → Bool) (off : Nat) : (State.swapAll p off s).clk = s.clk := rfl
@[simp] theorem State.swapAll_tb (s : State) (p : Nat → Bool) (off : Nat) : (State.swapAll p off s).tb = s.tb := rfl
@[simp] theorem State.swapAll_triads (s : State) (p : Nat → Bool) (off : Nat) : (State.swapAll p off s).triads = s.triads := rfl
@[simp] theorem State.swapAll_engs (s : State) (p : Nat → Bool) (off : Nat) : (State.swapAll p off s).engs = s.engs := rfl
@[simp] theorem State.swapAll_parts (s : State) (p : Nat → Bool) (off : Nat) : (State.swapAll p off s).parts = s.parts := rfl
@[simp] theorem State.swapAll_sch (s : State) (p : Nat → Bool) (off : Nat) : (State.swapAll p off s).sch = s.sch := rfl
@[simp] theorem State.swapAll_arb (s : State) (p : Nat → Bool) (off : Nat) : (State.swapAll p off s).arb = s.arb := rfl
@[simp] theorem State.swapAll_she (s : State) (p : Nat → Bool) (off : Nat) : (State.swapAll p off s).she = s.she := rfl
@[simp] theorem State.swapAll_eth (s : State) (p : Nat → Bool) (off : Nat) : (State.swapAll p off s).eth = s.eth := rfl
@[simp] theorem State.swapAll_stn (s : State) (p : Nat → Bool) (off : Nat) : (State.swapAll p off s).stn = s.stn := rfl
@[simp] theorem State.swapAll_cans (s : State) (p : Nat → Bool) (off : Nat) : (State.swapAll p off s).cans = s.cans := rfl
@[simp] theorem State.swapAll_dio (s : State) (p : Nat → Bool) (off : Nat) : (State.swapAll p off s).dio = s.dio := rfl
@[simp] theorem State.swapAll_alp (s : State) (p : Nat → Bool) (off : Nat) : (State.swapAll p off s).alp = s.alp := rfl
@[simp] theorem State.swapAll_sto (s : State) (p : Nat → Bool) (off : Nat) : (State.swapAll p off s).sto = s.sto := rfl
@[simp] theorem State.swapAll_brb (s : State) (p : Nat → Bool) (off : Nat) : (State.swapAll p off s).brb = s.brb := rfl
@[simp] theorem State.swapAll_sec (s : State) (p : Nat → Bool) (off : Nat) : (State.swapAll p off s).sec = s.sec := rfl
@[simp] theorem State.swapAll_sup (s : State) (p : Nat → Bool) (off : Nat) : (State.swapAll p off s).sup = s.sup := rfl

/-! ### wrB -/
@[simp] theorem State.wrB_pending (s : State) (b : Nat) (r : Reg) (v : Word) (i : Nat) : (State.wrB b r v s i).pending = s.pending := rfl
@[simp] theorem State.wrB_rsp (s : State) (b : Nat) (r : Reg) (v : Word) (i : Nat) : (State.wrB b r v s i).rsp = s.rsp := rfl
@[simp] theorem State.wrB_free (s : State) (b : Nat) (r : Reg) (v : Word) (i : Nat) : (State.wrB b r v s i).free = s.free := rfl
@[simp] theorem State.wrB_mem (s : State) (b : Nat) (r : Reg) (v : Word) (i : Nat) : (State.wrB b r v s i).mem = s.mem := rfl
@[simp] theorem State.wrB_poison (s : State) (b : Nat) (r : Reg) (v : Word) (i : Nat) : (State.wrB b r v s i).poison = s.poison := rfl
@[simp] theorem State.wrB_ecc (s : State) (b : Nat) (r : Reg) (v : Word) (i : Nat) : (State.wrB b r v s i).ecc = s.ecc := rfl
@[simp] theorem State.wrB_pins (s : State) (b : Nat) (r : Reg) (v : Word) (i : Nat) : (State.wrB b r v s i).pins = s.pins := rfl
@[simp] theorem State.wrB_pwr (s : State) (b : Nat) (r : Reg) (v : Word) (i : Nat) : (State.wrB b r v s i).pwr = s.pwr := rfl
@[simp] theorem State.wrB_fuses (s : State) (b : Nat) (r : Reg) (v : Word) (i : Nat) : (State.wrB b r v s i).fuses = s.fuses := rfl
@[simp] theorem State.wrB_clk (s : State) (b : Nat) (r : Reg) (v : Word) (i : Nat) : (State.wrB b r v s i).clk = s.clk := rfl
@[simp] theorem State.wrB_tb (s : State) (b : Nat) (r : Reg) (v : Word) (i : Nat) : (State.wrB b r v s i).tb = s.tb := rfl
@[simp] theorem State.wrB_triads (s : State) (b : Nat) (r : Reg) (v : Word) (i : Nat) : (State.wrB b r v s i).triads = s.triads := rfl
@[simp] theorem State.wrB_engs (s : State) (b : Nat) (r : Reg) (v : Word) (i : Nat) : (State.wrB b r v s i).engs = s.engs := rfl
@[simp] theorem State.wrB_parts (s : State) (b : Nat) (r : Reg) (v : Word) (i : Nat) : (State.wrB b r v s i).parts = s.parts := rfl
@[simp] theorem State.wrB_sch (s : State) (b : Nat) (r : Reg) (v : Word) (i : Nat) : (State.wrB b r v s i).sch = s.sch := rfl
@[simp] theorem State.wrB_arb (s : State) (b : Nat) (r : Reg) (v : Word) (i : Nat) : (State.wrB b r v s i).arb = s.arb := rfl
@[simp] theorem State.wrB_she (s : State) (b : Nat) (r : Reg) (v : Word) (i : Nat) : (State.wrB b r v s i).she = s.she := rfl
@[simp] theorem State.wrB_eth (s : State) (b : Nat) (r : Reg) (v : Word) (i : Nat) : (State.wrB b r v s i).eth = s.eth := rfl
@[simp] theorem State.wrB_stn (s : State) (b : Nat) (r : Reg) (v : Word) (i : Nat) : (State.wrB b r v s i).stn = s.stn := rfl
@[simp] theorem State.wrB_cans (s : State) (b : Nat) (r : Reg) (v : Word) (i : Nat) : (State.wrB b r v s i).cans = s.cans := rfl
@[simp] theorem State.wrB_dio (s : State) (b : Nat) (r : Reg) (v : Word) (i : Nat) : (State.wrB b r v s i).dio = s.dio := rfl
@[simp] theorem State.wrB_alp (s : State) (b : Nat) (r : Reg) (v : Word) (i : Nat) : (State.wrB b r v s i).alp = s.alp := rfl
@[simp] theorem State.wrB_sto (s : State) (b : Nat) (r : Reg) (v : Word) (i : Nat) : (State.wrB b r v s i).sto = s.sto := rfl
@[simp] theorem State.wrB_brb (s : State) (b : Nat) (r : Reg) (v : Word) (i : Nat) : (State.wrB b r v s i).brb = s.brb := rfl
@[simp] theorem State.wrB_sec (s : State) (b : Nat) (r : Reg) (v : Word) (i : Nat) : (State.wrB b r v s i).sec = s.sec := rfl
@[simp] theorem State.wrB_sup (s : State) (b : Nat) (r : Reg) (v : Word) (i : Nat) : (State.wrB b r v s i).sup = s.sup := rfl

/-! ### wrBA -/
@[simp] theorem State.wrBA_pending (s : State) (b : Nat) (r : Reg) (v : Word) (i : Nat) : (State.wrBA b r v s i).pending = s.pending := rfl
@[simp] theorem State.wrBA_rsp (s : State) (b : Nat) (r : Reg) (v : Word) (i : Nat) : (State.wrBA b r v s i).rsp = s.rsp := rfl
@[simp] theorem State.wrBA_free (s : State) (b : Nat) (r : Reg) (v : Word) (i : Nat) : (State.wrBA b r v s i).free = s.free := rfl
@[simp] theorem State.wrBA_mem (s : State) (b : Nat) (r : Reg) (v : Word) (i : Nat) : (State.wrBA b r v s i).mem = s.mem := rfl
@[simp] theorem State.wrBA_poison (s : State) (b : Nat) (r : Reg) (v : Word) (i : Nat) : (State.wrBA b r v s i).poison = s.poison := rfl
@[simp] theorem State.wrBA_ecc (s : State) (b : Nat) (r : Reg) (v : Word) (i : Nat) : (State.wrBA b r v s i).ecc = s.ecc := rfl
@[simp] theorem State.wrBA_pins (s : State) (b : Nat) (r : Reg) (v : Word) (i : Nat) : (State.wrBA b r v s i).pins = s.pins := rfl
@[simp] theorem State.wrBA_pwr (s : State) (b : Nat) (r : Reg) (v : Word) (i : Nat) : (State.wrBA b r v s i).pwr = s.pwr := rfl
@[simp] theorem State.wrBA_fuses (s : State) (b : Nat) (r : Reg) (v : Word) (i : Nat) : (State.wrBA b r v s i).fuses = s.fuses := rfl
@[simp] theorem State.wrBA_clk (s : State) (b : Nat) (r : Reg) (v : Word) (i : Nat) : (State.wrBA b r v s i).clk = s.clk := rfl
@[simp] theorem State.wrBA_tb (s : State) (b : Nat) (r : Reg) (v : Word) (i : Nat) : (State.wrBA b r v s i).tb = s.tb := rfl
@[simp] theorem State.wrBA_triads (s : State) (b : Nat) (r : Reg) (v : Word) (i : Nat) : (State.wrBA b r v s i).triads = s.triads := rfl
@[simp] theorem State.wrBA_engs (s : State) (b : Nat) (r : Reg) (v : Word) (i : Nat) : (State.wrBA b r v s i).engs = s.engs := rfl
@[simp] theorem State.wrBA_parts (s : State) (b : Nat) (r : Reg) (v : Word) (i : Nat) : (State.wrBA b r v s i).parts = s.parts := rfl
@[simp] theorem State.wrBA_sch (s : State) (b : Nat) (r : Reg) (v : Word) (i : Nat) : (State.wrBA b r v s i).sch = s.sch := rfl
@[simp] theorem State.wrBA_arb (s : State) (b : Nat) (r : Reg) (v : Word) (i : Nat) : (State.wrBA b r v s i).arb = s.arb := rfl
@[simp] theorem State.wrBA_she (s : State) (b : Nat) (r : Reg) (v : Word) (i : Nat) : (State.wrBA b r v s i).she = s.she := rfl
@[simp] theorem State.wrBA_eth (s : State) (b : Nat) (r : Reg) (v : Word) (i : Nat) : (State.wrBA b r v s i).eth = s.eth := rfl
@[simp] theorem State.wrBA_stn (s : State) (b : Nat) (r : Reg) (v : Word) (i : Nat) : (State.wrBA b r v s i).stn = s.stn := rfl
@[simp] theorem State.wrBA_cans (s : State) (b : Nat) (r : Reg) (v : Word) (i : Nat) : (State.wrBA b r v s i).cans = s.cans := rfl
@[simp] theorem State.wrBA_dio (s : State) (b : Nat) (r : Reg) (v : Word) (i : Nat) : (State.wrBA b r v s i).dio = s.dio := rfl
@[simp] theorem State.wrBA_alp (s : State) (b : Nat) (r : Reg) (v : Word) (i : Nat) : (State.wrBA b r v s i).alp = s.alp := rfl
@[simp] theorem State.wrBA_sto (s : State) (b : Nat) (r : Reg) (v : Word) (i : Nat) : (State.wrBA b r v s i).sto = s.sto := rfl
@[simp] theorem State.wrBA_brb (s : State) (b : Nat) (r : Reg) (v : Word) (i : Nat) : (State.wrBA b r v s i).brb = s.brb := rfl
@[simp] theorem State.wrBA_sec (s : State) (b : Nat) (r : Reg) (v : Word) (i : Nat) : (State.wrBA b r v s i).sec = s.sec := rfl
@[simp] theorem State.wrBA_sup (s : State) (b : Nat) (r : Reg) (v : Word) (i : Nat) : (State.wrBA b r v s i).sup = s.sup := rfl

/-! ### setBits -/
@[simp] theorem State.setBits_pending (s : State) (r : Reg) (m : Word) (i j : Nat) : (State.setBits r m s i j).pending = s.pending := rfl
@[simp] theorem State.setBits_rsp (s : State) (r : Reg) (m : Word) (i j : Nat) : (State.setBits r m s i j).rsp = s.rsp := rfl
@[simp] theorem State.setBits_free (s : State) (r : Reg) (m : Word) (i j : Nat) : (State.setBits r m s i j).free = s.free := rfl
@[simp] theorem State.setBits_mem (s : State) (r : Reg) (m : Word) (i j : Nat) : (State.setBits r m s i j).mem = s.mem := rfl
@[simp] theorem State.setBits_poison (s : State) (r : Reg) (m : Word) (i j : Nat) : (State.setBits r m s i j).poison = s.poison := rfl
@[simp] theorem State.setBits_ecc (s : State) (r : Reg) (m : Word) (i j : Nat) : (State.setBits r m s i j).ecc = s.ecc := rfl
@[simp] theorem State.setBits_pins (s : State) (r : Reg) (m : Word) (i j : Nat) : (State.setBits r m s i j).pins = s.pins := rfl
@[simp] theorem State.setBits_pwr (s : State) (r : Reg) (m : Word) (i j : Nat) : (State.setBits r m s i j).pwr = s.pwr := rfl
@[simp] theorem State.setBits_fuses (s : State) (r : Reg) (m : Word) (i j : Nat) : (State.setBits r m s i j).fuses = s.fuses := rfl
@[simp] theorem State.setBits_clk (s : State) (r : Reg) (m : Word) (i j : Nat) : (State.setBits r m s i j).clk = s.clk := rfl
@[simp] theorem State.setBits_tb (s : State) (r : Reg) (m : Word) (i j : Nat) : (State.setBits r m s i j).tb = s.tb := rfl
@[simp] theorem State.setBits_triads (s : State) (r : Reg) (m : Word) (i j : Nat) : (State.setBits r m s i j).triads = s.triads := rfl
@[simp] theorem State.setBits_engs (s : State) (r : Reg) (m : Word) (i j : Nat) : (State.setBits r m s i j).engs = s.engs := rfl
@[simp] theorem State.setBits_parts (s : State) (r : Reg) (m : Word) (i j : Nat) : (State.setBits r m s i j).parts = s.parts := rfl
@[simp] theorem State.setBits_sch (s : State) (r : Reg) (m : Word) (i j : Nat) : (State.setBits r m s i j).sch = s.sch := rfl
@[simp] theorem State.setBits_arb (s : State) (r : Reg) (m : Word) (i j : Nat) : (State.setBits r m s i j).arb = s.arb := rfl
@[simp] theorem State.setBits_she (s : State) (r : Reg) (m : Word) (i j : Nat) : (State.setBits r m s i j).she = s.she := rfl
@[simp] theorem State.setBits_eth (s : State) (r : Reg) (m : Word) (i j : Nat) : (State.setBits r m s i j).eth = s.eth := rfl
@[simp] theorem State.setBits_stn (s : State) (r : Reg) (m : Word) (i j : Nat) : (State.setBits r m s i j).stn = s.stn := rfl
@[simp] theorem State.setBits_cans (s : State) (r : Reg) (m : Word) (i j : Nat) : (State.setBits r m s i j).cans = s.cans := rfl
@[simp] theorem State.setBits_dio (s : State) (r : Reg) (m : Word) (i j : Nat) : (State.setBits r m s i j).dio = s.dio := rfl
@[simp] theorem State.setBits_alp (s : State) (r : Reg) (m : Word) (i j : Nat) : (State.setBits r m s i j).alp = s.alp := rfl
@[simp] theorem State.setBits_sto (s : State) (r : Reg) (m : Word) (i j : Nat) : (State.setBits r m s i j).sto = s.sto := rfl
@[simp] theorem State.setBits_brb (s : State) (r : Reg) (m : Word) (i j : Nat) : (State.setBits r m s i j).brb = s.brb := rfl
@[simp] theorem State.setBits_sec (s : State) (r : Reg) (m : Word) (i j : Nat) : (State.setBits r m s i j).sec = s.sec := rfl
@[simp] theorem State.setBits_sup (s : State) (r : Reg) (m : Word) (i j : Nat) : (State.setBits r m s i j).sup = s.sup := rfl

/-! ### clrBits -/
@[simp] theorem State.clrBits_pending (s : State) (r : Reg) (m : Word) (i j : Nat) : (State.clrBits r m s i j).pending = s.pending := rfl
@[simp] theorem State.clrBits_rsp (s : State) (r : Reg) (m : Word) (i j : Nat) : (State.clrBits r m s i j).rsp = s.rsp := rfl
@[simp] theorem State.clrBits_free (s : State) (r : Reg) (m : Word) (i j : Nat) : (State.clrBits r m s i j).free = s.free := rfl
@[simp] theorem State.clrBits_mem (s : State) (r : Reg) (m : Word) (i j : Nat) : (State.clrBits r m s i j).mem = s.mem := rfl
@[simp] theorem State.clrBits_poison (s : State) (r : Reg) (m : Word) (i j : Nat) : (State.clrBits r m s i j).poison = s.poison := rfl
@[simp] theorem State.clrBits_ecc (s : State) (r : Reg) (m : Word) (i j : Nat) : (State.clrBits r m s i j).ecc = s.ecc := rfl
@[simp] theorem State.clrBits_pins (s : State) (r : Reg) (m : Word) (i j : Nat) : (State.clrBits r m s i j).pins = s.pins := rfl
@[simp] theorem State.clrBits_pwr (s : State) (r : Reg) (m : Word) (i j : Nat) : (State.clrBits r m s i j).pwr = s.pwr := rfl
@[simp] theorem State.clrBits_fuses (s : State) (r : Reg) (m : Word) (i j : Nat) : (State.clrBits r m s i j).fuses = s.fuses := rfl
@[simp] theorem State.clrBits_clk (s : State) (r : Reg) (m : Word) (i j : Nat) : (State.clrBits r m s i j).clk = s.clk := rfl
@[simp] theorem State.clrBits_tb (s : State) (r : Reg) (m : Word) (i j : Nat) : (State.clrBits r m s i j).tb = s.tb := rfl
@[simp] theorem State.clrBits_triads (s : State) (r : Reg) (m : Word) (i j : Nat) : (State.clrBits r m s i j).triads = s.triads := rfl
@[simp] theorem State.clrBits_engs (s : State) (r : Reg) (m : Word) (i j : Nat) : (State.clrBits r m s i j).engs = s.engs := rfl
@[simp] theorem State.clrBits_parts (s : State) (r : Reg) (m : Word) (i j : Nat) : (State.clrBits r m s i j).parts = s.parts := rfl
@[simp] theorem State.clrBits_sch (s : State) (r : Reg) (m : Word) (i j : Nat) : (State.clrBits r m s i j).sch = s.sch := rfl
@[simp] theorem State.clrBits_arb (s : State) (r : Reg) (m : Word) (i j : Nat) : (State.clrBits r m s i j).arb = s.arb := rfl
@[simp] theorem State.clrBits_she (s : State) (r : Reg) (m : Word) (i j : Nat) : (State.clrBits r m s i j).she = s.she := rfl
@[simp] theorem State.clrBits_eth (s : State) (r : Reg) (m : Word) (i j : Nat) : (State.clrBits r m s i j).eth = s.eth := rfl
@[simp] theorem State.clrBits_stn (s : State) (r : Reg) (m : Word) (i j : Nat) : (State.clrBits r m s i j).stn = s.stn := rfl
@[simp] theorem State.clrBits_cans (s : State) (r : Reg) (m : Word) (i j : Nat) : (State.clrBits r m s i j).cans = s.cans := rfl
@[simp] theorem State.clrBits_dio (s : State) (r : Reg) (m : Word) (i j : Nat) : (State.clrBits r m s i j).dio = s.dio := rfl
@[simp] theorem State.clrBits_alp (s : State) (r : Reg) (m : Word) (i j : Nat) : (State.clrBits r m s i j).alp = s.alp := rfl
@[simp] theorem State.clrBits_sto (s : State) (r : Reg) (m : Word) (i j : Nat) : (State.clrBits r m s i j).sto = s.sto := rfl
@[simp] theorem State.clrBits_brb (s : State) (r : Reg) (m : Word) (i j : Nat) : (State.clrBits r m s i j).brb = s.brb := rfl
@[simp] theorem State.clrBits_sec (s : State) (r : Reg) (m : Word) (i j : Nat) : (State.clrBits r m s i j).sec = s.sec := rfl
@[simp] theorem State.clrBits_sup (s : State) (r : Reg) (m : Word) (i j : Nat) : (State.clrBits r m s i j).sup = s.sup := rfl

/-! ### put -/
@[simp] theorem State.put_pending (s : State) (r : Reg) (v : Word) (i j : Nat) : (State.put r v s i j).pending = s.pending := rfl
@[simp] theorem State.put_rsp (s : State) (r : Reg) (v : Word) (i j : Nat) : (State.put r v s i j).rsp = s.rsp := rfl
@[simp] theorem State.put_free (s : State) (r : Reg) (v : Word) (i j : Nat) : (State.put r v s i j).free = s.free := rfl
@[simp] theorem State.put_mem (s : State) (r : Reg) (v : Word) (i j : Nat) : (State.put r v s i j).mem = s.mem := rfl
@[simp] theorem State.put_poison (s : State) (r : Reg) (v : Word) (i j : Nat) : (State.put r v s i j).poison = s.poison := rfl
@[simp] theorem State.put_ecc (s : State) (r : Reg) (v : Word) (i j : Nat) : (State.put r v s i j).ecc = s.ecc := rfl
@[simp] theorem State.put_pins (s : State) (r : Reg) (v : Word) (i j : Nat) : (State.put r v s i j).pins = s.pins := rfl
@[simp] theorem State.put_pwr (s : State) (r : Reg) (v : Word) (i j : Nat) : (State.put r v s i j).pwr = s.pwr := rfl
@[simp] theorem State.put_fuses (s : State) (r : Reg) (v : Word) (i j : Nat) : (State.put r v s i j).fuses = s.fuses := rfl
@[simp] theorem State.put_clk (s : State) (r : Reg) (v : Word) (i j : Nat) : (State.put r v s i j).clk = s.clk := rfl
@[simp] theorem State.put_tb (s : State) (r : Reg) (v : Word) (i j : Nat) : (State.put r v s i j).tb = s.tb := rfl
@[simp] theorem State.put_triads (s : State) (r : Reg) (v : Word) (i j : Nat) : (State.put r v s i j).triads = s.triads := rfl
@[simp] theorem State.put_engs (s : State) (r : Reg) (v : Word) (i j : Nat) : (State.put r v s i j).engs = s.engs := rfl
@[simp] theorem State.put_parts (s : State) (r : Reg) (v : Word) (i j : Nat) : (State.put r v s i j).parts = s.parts := rfl
@[simp] theorem State.put_sch (s : State) (r : Reg) (v : Word) (i j : Nat) : (State.put r v s i j).sch = s.sch := rfl
@[simp] theorem State.put_arb (s : State) (r : Reg) (v : Word) (i j : Nat) : (State.put r v s i j).arb = s.arb := rfl
@[simp] theorem State.put_she (s : State) (r : Reg) (v : Word) (i j : Nat) : (State.put r v s i j).she = s.she := rfl
@[simp] theorem State.put_eth (s : State) (r : Reg) (v : Word) (i j : Nat) : (State.put r v s i j).eth = s.eth := rfl
@[simp] theorem State.put_stn (s : State) (r : Reg) (v : Word) (i j : Nat) : (State.put r v s i j).stn = s.stn := rfl
@[simp] theorem State.put_cans (s : State) (r : Reg) (v : Word) (i j : Nat) : (State.put r v s i j).cans = s.cans := rfl
@[simp] theorem State.put_dio (s : State) (r : Reg) (v : Word) (i j : Nat) : (State.put r v s i j).dio = s.dio := rfl
@[simp] theorem State.put_alp (s : State) (r : Reg) (v : Word) (i j : Nat) : (State.put r v s i j).alp = s.alp := rfl
@[simp] theorem State.put_sto (s : State) (r : Reg) (v : Word) (i j : Nat) : (State.put r v s i j).sto = s.sto := rfl
@[simp] theorem State.put_brb (s : State) (r : Reg) (v : Word) (i j : Nat) : (State.put r v s i j).brb = s.brb := rfl
@[simp] theorem State.put_sec (s : State) (r : Reg) (v : Word) (i j : Nat) : (State.put r v s i j).sec = s.sec := rfl
@[simp] theorem State.put_sup (s : State) (r : Reg) (v : Word) (i j : Nat) : (State.put r v s i j).sup = s.sup := rfl

/-! ### count -/
@[simp] theorem State.count_pending (s : State) (r : Reg) (n i j : Nat) : (State.count r n s i j).pending = s.pending := rfl
@[simp] theorem State.count_rsp (s : State) (r : Reg) (n i j : Nat) : (State.count r n s i j).rsp = s.rsp := rfl
@[simp] theorem State.count_free (s : State) (r : Reg) (n i j : Nat) : (State.count r n s i j).free = s.free := rfl
@[simp] theorem State.count_mem (s : State) (r : Reg) (n i j : Nat) : (State.count r n s i j).mem = s.mem := rfl
@[simp] theorem State.count_poison (s : State) (r : Reg) (n i j : Nat) : (State.count r n s i j).poison = s.poison := rfl
@[simp] theorem State.count_ecc (s : State) (r : Reg) (n i j : Nat) : (State.count r n s i j).ecc = s.ecc := rfl
@[simp] theorem State.count_pins (s : State) (r : Reg) (n i j : Nat) : (State.count r n s i j).pins = s.pins := rfl
@[simp] theorem State.count_pwr (s : State) (r : Reg) (n i j : Nat) : (State.count r n s i j).pwr = s.pwr := rfl
@[simp] theorem State.count_fuses (s : State) (r : Reg) (n i j : Nat) : (State.count r n s i j).fuses = s.fuses := rfl
@[simp] theorem State.count_clk (s : State) (r : Reg) (n i j : Nat) : (State.count r n s i j).clk = s.clk := rfl
@[simp] theorem State.count_tb (s : State) (r : Reg) (n i j : Nat) : (State.count r n s i j).tb = s.tb := rfl
@[simp] theorem State.count_triads (s : State) (r : Reg) (n i j : Nat) : (State.count r n s i j).triads = s.triads := rfl
@[simp] theorem State.count_engs (s : State) (r : Reg) (n i j : Nat) : (State.count r n s i j).engs = s.engs := rfl
@[simp] theorem State.count_parts (s : State) (r : Reg) (n i j : Nat) : (State.count r n s i j).parts = s.parts := rfl
@[simp] theorem State.count_sch (s : State) (r : Reg) (n i j : Nat) : (State.count r n s i j).sch = s.sch := rfl
@[simp] theorem State.count_arb (s : State) (r : Reg) (n i j : Nat) : (State.count r n s i j).arb = s.arb := rfl
@[simp] theorem State.count_she (s : State) (r : Reg) (n i j : Nat) : (State.count r n s i j).she = s.she := rfl
@[simp] theorem State.count_eth (s : State) (r : Reg) (n i j : Nat) : (State.count r n s i j).eth = s.eth := rfl
@[simp] theorem State.count_stn (s : State) (r : Reg) (n i j : Nat) : (State.count r n s i j).stn = s.stn := rfl
@[simp] theorem State.count_cans (s : State) (r : Reg) (n i j : Nat) : (State.count r n s i j).cans = s.cans := rfl
@[simp] theorem State.count_dio (s : State) (r : Reg) (n i j : Nat) : (State.count r n s i j).dio = s.dio := rfl
@[simp] theorem State.count_alp (s : State) (r : Reg) (n i j : Nat) : (State.count r n s i j).alp = s.alp := rfl
@[simp] theorem State.count_sto (s : State) (r : Reg) (n i j : Nat) : (State.count r n s i j).sto = s.sto := rfl
@[simp] theorem State.count_brb (s : State) (r : Reg) (n i j : Nat) : (State.count r n s i j).brb = s.brb := rfl
@[simp] theorem State.count_sec (s : State) (r : Reg) (n i j : Nat) : (State.count r n s i j).sec = s.sec := rfl
@[simp] theorem State.count_sup (s : State) (r : Reg) (n i j : Nat) : (State.count r n s i j).sup = s.sup := rfl

/-! ### count16 -/
@[simp] theorem State.count16_pending (s : State) (r : Reg) (lo i j : Nat) : (State.count16 r lo s i j).pending = s.pending := rfl
@[simp] theorem State.count16_rsp (s : State) (r : Reg) (lo i j : Nat) : (State.count16 r lo s i j).rsp = s.rsp := rfl
@[simp] theorem State.count16_free (s : State) (r : Reg) (lo i j : Nat) : (State.count16 r lo s i j).free = s.free := rfl
@[simp] theorem State.count16_mem (s : State) (r : Reg) (lo i j : Nat) : (State.count16 r lo s i j).mem = s.mem := rfl
@[simp] theorem State.count16_poison (s : State) (r : Reg) (lo i j : Nat) : (State.count16 r lo s i j).poison = s.poison := rfl
@[simp] theorem State.count16_ecc (s : State) (r : Reg) (lo i j : Nat) : (State.count16 r lo s i j).ecc = s.ecc := rfl
@[simp] theorem State.count16_pins (s : State) (r : Reg) (lo i j : Nat) : (State.count16 r lo s i j).pins = s.pins := rfl
@[simp] theorem State.count16_pwr (s : State) (r : Reg) (lo i j : Nat) : (State.count16 r lo s i j).pwr = s.pwr := rfl
@[simp] theorem State.count16_fuses (s : State) (r : Reg) (lo i j : Nat) : (State.count16 r lo s i j).fuses = s.fuses := rfl
@[simp] theorem State.count16_clk (s : State) (r : Reg) (lo i j : Nat) : (State.count16 r lo s i j).clk = s.clk := rfl
@[simp] theorem State.count16_tb (s : State) (r : Reg) (lo i j : Nat) : (State.count16 r lo s i j).tb = s.tb := rfl
@[simp] theorem State.count16_triads (s : State) (r : Reg) (lo i j : Nat) : (State.count16 r lo s i j).triads = s.triads := rfl
@[simp] theorem State.count16_engs (s : State) (r : Reg) (lo i j : Nat) : (State.count16 r lo s i j).engs = s.engs := rfl
@[simp] theorem State.count16_parts (s : State) (r : Reg) (lo i j : Nat) : (State.count16 r lo s i j).parts = s.parts := rfl
@[simp] theorem State.count16_sch (s : State) (r : Reg) (lo i j : Nat) : (State.count16 r lo s i j).sch = s.sch := rfl
@[simp] theorem State.count16_arb (s : State) (r : Reg) (lo i j : Nat) : (State.count16 r lo s i j).arb = s.arb := rfl
@[simp] theorem State.count16_she (s : State) (r : Reg) (lo i j : Nat) : (State.count16 r lo s i j).she = s.she := rfl
@[simp] theorem State.count16_eth (s : State) (r : Reg) (lo i j : Nat) : (State.count16 r lo s i j).eth = s.eth := rfl
@[simp] theorem State.count16_stn (s : State) (r : Reg) (lo i j : Nat) : (State.count16 r lo s i j).stn = s.stn := rfl
@[simp] theorem State.count16_cans (s : State) (r : Reg) (lo i j : Nat) : (State.count16 r lo s i j).cans = s.cans := rfl
@[simp] theorem State.count16_dio (s : State) (r : Reg) (lo i j : Nat) : (State.count16 r lo s i j).dio = s.dio := rfl
@[simp] theorem State.count16_alp (s : State) (r : Reg) (lo i j : Nat) : (State.count16 r lo s i j).alp = s.alp := rfl
@[simp] theorem State.count16_sto (s : State) (r : Reg) (lo i j : Nat) : (State.count16 r lo s i j).sto = s.sto := rfl
@[simp] theorem State.count16_brb (s : State) (r : Reg) (lo i j : Nat) : (State.count16 r lo s i j).brb = s.brb := rfl
@[simp] theorem State.count16_sec (s : State) (r : Reg) (lo i j : Nat) : (State.count16 r lo s i j).sec = s.sec := rfl
@[simp] theorem State.count16_sup (s : State) (r : Reg) (lo i j : Nat) : (State.count16 r lo s i j).sup = s.sup := rfl

/-! ### setTriad -/
@[simp] theorem State.setTriad_pending (s : State) (t : Nat) (x : Triad) : (State.setTriad t x s).pending = s.pending := rfl
@[simp] theorem State.setTriad_rsp (s : State) (t : Nat) (x : Triad) : (State.setTriad t x s).rsp = s.rsp := rfl
@[simp] theorem State.setTriad_free (s : State) (t : Nat) (x : Triad) : (State.setTriad t x s).free = s.free := rfl
@[simp] theorem State.setTriad_mem (s : State) (t : Nat) (x : Triad) : (State.setTriad t x s).mem = s.mem := rfl
@[simp] theorem State.setTriad_poison (s : State) (t : Nat) (x : Triad) : (State.setTriad t x s).poison = s.poison := rfl
@[simp] theorem State.setTriad_ecc (s : State) (t : Nat) (x : Triad) : (State.setTriad t x s).ecc = s.ecc := rfl
@[simp] theorem State.setTriad_regs (s : State) (t : Nat) (x : Triad) : (State.setTriad t x s).regs = s.regs := rfl
@[simp] theorem State.setTriad_pins (s : State) (t : Nat) (x : Triad) : (State.setTriad t x s).pins = s.pins := rfl
@[simp] theorem State.setTriad_pwr (s : State) (t : Nat) (x : Triad) : (State.setTriad t x s).pwr = s.pwr := rfl
@[simp] theorem State.setTriad_fuses (s : State) (t : Nat) (x : Triad) : (State.setTriad t x s).fuses = s.fuses := rfl
@[simp] theorem State.setTriad_clk (s : State) (t : Nat) (x : Triad) : (State.setTriad t x s).clk = s.clk := rfl
@[simp] theorem State.setTriad_tb (s : State) (t : Nat) (x : Triad) : (State.setTriad t x s).tb = s.tb := rfl
@[simp] theorem State.setTriad_engs (s : State) (t : Nat) (x : Triad) : (State.setTriad t x s).engs = s.engs := rfl
@[simp] theorem State.setTriad_parts (s : State) (t : Nat) (x : Triad) : (State.setTriad t x s).parts = s.parts := rfl
@[simp] theorem State.setTriad_sch (s : State) (t : Nat) (x : Triad) : (State.setTriad t x s).sch = s.sch := rfl
@[simp] theorem State.setTriad_arb (s : State) (t : Nat) (x : Triad) : (State.setTriad t x s).arb = s.arb := rfl
@[simp] theorem State.setTriad_she (s : State) (t : Nat) (x : Triad) : (State.setTriad t x s).she = s.she := rfl
@[simp] theorem State.setTriad_eth (s : State) (t : Nat) (x : Triad) : (State.setTriad t x s).eth = s.eth := rfl
@[simp] theorem State.setTriad_stn (s : State) (t : Nat) (x : Triad) : (State.setTriad t x s).stn = s.stn := rfl
@[simp] theorem State.setTriad_cans (s : State) (t : Nat) (x : Triad) : (State.setTriad t x s).cans = s.cans := rfl
@[simp] theorem State.setTriad_dio (s : State) (t : Nat) (x : Triad) : (State.setTriad t x s).dio = s.dio := rfl
@[simp] theorem State.setTriad_alp (s : State) (t : Nat) (x : Triad) : (State.setTriad t x s).alp = s.alp := rfl
@[simp] theorem State.setTriad_sto (s : State) (t : Nat) (x : Triad) : (State.setTriad t x s).sto = s.sto := rfl
@[simp] theorem State.setTriad_brb (s : State) (t : Nat) (x : Triad) : (State.setTriad t x s).brb = s.brb := rfl
@[simp] theorem State.setTriad_sec (s : State) (t : Nat) (x : Triad) : (State.setTriad t x s).sec = s.sec := rfl
@[simp] theorem State.setTriad_sup (s : State) (t : Nat) (x : Triad) : (State.setTriad t x s).sup = s.sup := rfl

/-! ### setEng -/
@[simp] theorem State.setEng_pending (s : State) (e : Nat) (x : Engine) : (State.setEng e x s).pending = s.pending := rfl
@[simp] theorem State.setEng_rsp (s : State) (e : Nat) (x : Engine) : (State.setEng e x s).rsp = s.rsp := rfl
@[simp] theorem State.setEng_free (s : State) (e : Nat) (x : Engine) : (State.setEng e x s).free = s.free := rfl
@[simp] theorem State.setEng_mem (s : State) (e : Nat) (x : Engine) : (State.setEng e x s).mem = s.mem := rfl
@[simp] theorem State.setEng_poison (s : State) (e : Nat) (x : Engine) : (State.setEng e x s).poison = s.poison := rfl
@[simp] theorem State.setEng_ecc (s : State) (e : Nat) (x : Engine) : (State.setEng e x s).ecc = s.ecc := rfl
@[simp] theorem State.setEng_regs (s : State) (e : Nat) (x : Engine) : (State.setEng e x s).regs = s.regs := rfl
@[simp] theorem State.setEng_pins (s : State) (e : Nat) (x : Engine) : (State.setEng e x s).pins = s.pins := rfl
@[simp] theorem State.setEng_pwr (s : State) (e : Nat) (x : Engine) : (State.setEng e x s).pwr = s.pwr := rfl
@[simp] theorem State.setEng_fuses (s : State) (e : Nat) (x : Engine) : (State.setEng e x s).fuses = s.fuses := rfl
@[simp] theorem State.setEng_clk (s : State) (e : Nat) (x : Engine) : (State.setEng e x s).clk = s.clk := rfl
@[simp] theorem State.setEng_tb (s : State) (e : Nat) (x : Engine) : (State.setEng e x s).tb = s.tb := rfl
@[simp] theorem State.setEng_triads (s : State) (e : Nat) (x : Engine) : (State.setEng e x s).triads = s.triads := rfl
@[simp] theorem State.setEng_parts (s : State) (e : Nat) (x : Engine) : (State.setEng e x s).parts = s.parts := rfl
@[simp] theorem State.setEng_sch (s : State) (e : Nat) (x : Engine) : (State.setEng e x s).sch = s.sch := rfl
@[simp] theorem State.setEng_arb (s : State) (e : Nat) (x : Engine) : (State.setEng e x s).arb = s.arb := rfl
@[simp] theorem State.setEng_she (s : State) (e : Nat) (x : Engine) : (State.setEng e x s).she = s.she := rfl
@[simp] theorem State.setEng_eth (s : State) (e : Nat) (x : Engine) : (State.setEng e x s).eth = s.eth := rfl
@[simp] theorem State.setEng_stn (s : State) (e : Nat) (x : Engine) : (State.setEng e x s).stn = s.stn := rfl
@[simp] theorem State.setEng_cans (s : State) (e : Nat) (x : Engine) : (State.setEng e x s).cans = s.cans := rfl
@[simp] theorem State.setEng_dio (s : State) (e : Nat) (x : Engine) : (State.setEng e x s).dio = s.dio := rfl
@[simp] theorem State.setEng_alp (s : State) (e : Nat) (x : Engine) : (State.setEng e x s).alp = s.alp := rfl
@[simp] theorem State.setEng_sto (s : State) (e : Nat) (x : Engine) : (State.setEng e x s).sto = s.sto := rfl
@[simp] theorem State.setEng_brb (s : State) (e : Nat) (x : Engine) : (State.setEng e x s).brb = s.brb := rfl
@[simp] theorem State.setEng_sec (s : State) (e : Nat) (x : Engine) : (State.setEng e x s).sec = s.sec := rfl
@[simp] theorem State.setEng_sup (s : State) (e : Nat) (x : Engine) : (State.setEng e x s).sup = s.sup := rfl

/-! ### setPart -/
@[simp] theorem State.setPart_pending (s : State) (n : Nat) (x : Partn) : (State.setPart n x s).pending = s.pending := rfl
@[simp] theorem State.setPart_rsp (s : State) (n : Nat) (x : Partn) : (State.setPart n x s).rsp = s.rsp := rfl
@[simp] theorem State.setPart_free (s : State) (n : Nat) (x : Partn) : (State.setPart n x s).free = s.free := rfl
@[simp] theorem State.setPart_mem (s : State) (n : Nat) (x : Partn) : (State.setPart n x s).mem = s.mem := rfl
@[simp] theorem State.setPart_poison (s : State) (n : Nat) (x : Partn) : (State.setPart n x s).poison = s.poison := rfl
@[simp] theorem State.setPart_ecc (s : State) (n : Nat) (x : Partn) : (State.setPart n x s).ecc = s.ecc := rfl
@[simp] theorem State.setPart_regs (s : State) (n : Nat) (x : Partn) : (State.setPart n x s).regs = s.regs := rfl
@[simp] theorem State.setPart_pins (s : State) (n : Nat) (x : Partn) : (State.setPart n x s).pins = s.pins := rfl
@[simp] theorem State.setPart_pwr (s : State) (n : Nat) (x : Partn) : (State.setPart n x s).pwr = s.pwr := rfl
@[simp] theorem State.setPart_fuses (s : State) (n : Nat) (x : Partn) : (State.setPart n x s).fuses = s.fuses := rfl
@[simp] theorem State.setPart_clk (s : State) (n : Nat) (x : Partn) : (State.setPart n x s).clk = s.clk := rfl
@[simp] theorem State.setPart_tb (s : State) (n : Nat) (x : Partn) : (State.setPart n x s).tb = s.tb := rfl
@[simp] theorem State.setPart_triads (s : State) (n : Nat) (x : Partn) : (State.setPart n x s).triads = s.triads := rfl
@[simp] theorem State.setPart_engs (s : State) (n : Nat) (x : Partn) : (State.setPart n x s).engs = s.engs := rfl
@[simp] theorem State.setPart_sch (s : State) (n : Nat) (x : Partn) : (State.setPart n x s).sch = s.sch := rfl
@[simp] theorem State.setPart_arb (s : State) (n : Nat) (x : Partn) : (State.setPart n x s).arb = s.arb := rfl
@[simp] theorem State.setPart_she (s : State) (n : Nat) (x : Partn) : (State.setPart n x s).she = s.she := rfl
@[simp] theorem State.setPart_eth (s : State) (n : Nat) (x : Partn) : (State.setPart n x s).eth = s.eth := rfl
@[simp] theorem State.setPart_stn (s : State) (n : Nat) (x : Partn) : (State.setPart n x s).stn = s.stn := rfl
@[simp] theorem State.setPart_cans (s : State) (n : Nat) (x : Partn) : (State.setPart n x s).cans = s.cans := rfl
@[simp] theorem State.setPart_dio (s : State) (n : Nat) (x : Partn) : (State.setPart n x s).dio = s.dio := rfl
@[simp] theorem State.setPart_alp (s : State) (n : Nat) (x : Partn) : (State.setPart n x s).alp = s.alp := rfl
@[simp] theorem State.setPart_sto (s : State) (n : Nat) (x : Partn) : (State.setPart n x s).sto = s.sto := rfl
@[simp] theorem State.setPart_brb (s : State) (n : Nat) (x : Partn) : (State.setPart n x s).brb = s.brb := rfl
@[simp] theorem State.setPart_sec (s : State) (n : Nat) (x : Partn) : (State.setPart n x s).sec = s.sec := rfl
@[simp] theorem State.setPart_sup (s : State) (n : Nat) (x : Partn) : (State.setPart n x s).sup = s.sup := rfl

/-! ### setCan -/
@[simp] theorem State.setCan_pending (s : State) (n : Nat) (x : Can) : (State.setCan n x s).pending = s.pending := rfl
@[simp] theorem State.setCan_rsp (s : State) (n : Nat) (x : Can) : (State.setCan n x s).rsp = s.rsp := rfl
@[simp] theorem State.setCan_free (s : State) (n : Nat) (x : Can) : (State.setCan n x s).free = s.free := rfl
@[simp] theorem State.setCan_mem (s : State) (n : Nat) (x : Can) : (State.setCan n x s).mem = s.mem := rfl
@[simp] theorem State.setCan_poison (s : State) (n : Nat) (x : Can) : (State.setCan n x s).poison = s.poison := rfl
@[simp] theorem State.setCan_ecc (s : State) (n : Nat) (x : Can) : (State.setCan n x s).ecc = s.ecc := rfl
@[simp] theorem State.setCan_regs (s : State) (n : Nat) (x : Can) : (State.setCan n x s).regs = s.regs := rfl
@[simp] theorem State.setCan_pins (s : State) (n : Nat) (x : Can) : (State.setCan n x s).pins = s.pins := rfl
@[simp] theorem State.setCan_pwr (s : State) (n : Nat) (x : Can) : (State.setCan n x s).pwr = s.pwr := rfl
@[simp] theorem State.setCan_fuses (s : State) (n : Nat) (x : Can) : (State.setCan n x s).fuses = s.fuses := rfl
@[simp] theorem State.setCan_clk (s : State) (n : Nat) (x : Can) : (State.setCan n x s).clk = s.clk := rfl
@[simp] theorem State.setCan_tb (s : State) (n : Nat) (x : Can) : (State.setCan n x s).tb = s.tb := rfl
@[simp] theorem State.setCan_triads (s : State) (n : Nat) (x : Can) : (State.setCan n x s).triads = s.triads := rfl
@[simp] theorem State.setCan_engs (s : State) (n : Nat) (x : Can) : (State.setCan n x s).engs = s.engs := rfl
@[simp] theorem State.setCan_parts (s : State) (n : Nat) (x : Can) : (State.setCan n x s).parts = s.parts := rfl
@[simp] theorem State.setCan_sch (s : State) (n : Nat) (x : Can) : (State.setCan n x s).sch = s.sch := rfl
@[simp] theorem State.setCan_arb (s : State) (n : Nat) (x : Can) : (State.setCan n x s).arb = s.arb := rfl
@[simp] theorem State.setCan_she (s : State) (n : Nat) (x : Can) : (State.setCan n x s).she = s.she := rfl
@[simp] theorem State.setCan_eth (s : State) (n : Nat) (x : Can) : (State.setCan n x s).eth = s.eth := rfl
@[simp] theorem State.setCan_stn (s : State) (n : Nat) (x : Can) : (State.setCan n x s).stn = s.stn := rfl
@[simp] theorem State.setCan_dio (s : State) (n : Nat) (x : Can) : (State.setCan n x s).dio = s.dio := rfl
@[simp] theorem State.setCan_alp (s : State) (n : Nat) (x : Can) : (State.setCan n x s).alp = s.alp := rfl
@[simp] theorem State.setCan_sto (s : State) (n : Nat) (x : Can) : (State.setCan n x s).sto = s.sto := rfl
@[simp] theorem State.setCan_brb (s : State) (n : Nat) (x : Can) : (State.setCan n x s).brb = s.brb := rfl
@[simp] theorem State.setCan_sec (s : State) (n : Nat) (x : Can) : (State.setCan n x s).sec = s.sec := rfl
@[simp] theorem State.setCan_sup (s : State) (n : Nat) (x : Can) : (State.setCan n x s).sup = s.sup := rfl

/-! ### setDi -/
@[simp] theorem State.setDi_pending (s : State) (c : Nat) (x : Di) : (State.setDi c x s).pending = s.pending := rfl
@[simp] theorem State.setDi_rsp (s : State) (c : Nat) (x : Di) : (State.setDi c x s).rsp = s.rsp := rfl
@[simp] theorem State.setDi_free (s : State) (c : Nat) (x : Di) : (State.setDi c x s).free = s.free := rfl
@[simp] theorem State.setDi_mem (s : State) (c : Nat) (x : Di) : (State.setDi c x s).mem = s.mem := rfl
@[simp] theorem State.setDi_poison (s : State) (c : Nat) (x : Di) : (State.setDi c x s).poison = s.poison := rfl
@[simp] theorem State.setDi_ecc (s : State) (c : Nat) (x : Di) : (State.setDi c x s).ecc = s.ecc := rfl
@[simp] theorem State.setDi_regs (s : State) (c : Nat) (x : Di) : (State.setDi c x s).regs = s.regs := rfl
@[simp] theorem State.setDi_pins (s : State) (c : Nat) (x : Di) : (State.setDi c x s).pins = s.pins := rfl
@[simp] theorem State.setDi_pwr (s : State) (c : Nat) (x : Di) : (State.setDi c x s).pwr = s.pwr := rfl
@[simp] theorem State.setDi_fuses (s : State) (c : Nat) (x : Di) : (State.setDi c x s).fuses = s.fuses := rfl
@[simp] theorem State.setDi_clk (s : State) (c : Nat) (x : Di) : (State.setDi c x s).clk = s.clk := rfl
@[simp] theorem State.setDi_tb (s : State) (c : Nat) (x : Di) : (State.setDi c x s).tb = s.tb := rfl
@[simp] theorem State.setDi_triads (s : State) (c : Nat) (x : Di) : (State.setDi c x s).triads = s.triads := rfl
@[simp] theorem State.setDi_engs (s : State) (c : Nat) (x : Di) : (State.setDi c x s).engs = s.engs := rfl
@[simp] theorem State.setDi_parts (s : State) (c : Nat) (x : Di) : (State.setDi c x s).parts = s.parts := rfl
@[simp] theorem State.setDi_sch (s : State) (c : Nat) (x : Di) : (State.setDi c x s).sch = s.sch := rfl
@[simp] theorem State.setDi_arb (s : State) (c : Nat) (x : Di) : (State.setDi c x s).arb = s.arb := rfl
@[simp] theorem State.setDi_she (s : State) (c : Nat) (x : Di) : (State.setDi c x s).she = s.she := rfl
@[simp] theorem State.setDi_eth (s : State) (c : Nat) (x : Di) : (State.setDi c x s).eth = s.eth := rfl
@[simp] theorem State.setDi_stn (s : State) (c : Nat) (x : Di) : (State.setDi c x s).stn = s.stn := rfl
@[simp] theorem State.setDi_cans (s : State) (c : Nat) (x : Di) : (State.setDi c x s).cans = s.cans := rfl
@[simp] theorem State.setDi_alp (s : State) (c : Nat) (x : Di) : (State.setDi c x s).alp = s.alp := rfl
@[simp] theorem State.setDi_sto (s : State) (c : Nat) (x : Di) : (State.setDi c x s).sto = s.sto := rfl
@[simp] theorem State.setDi_brb (s : State) (c : Nat) (x : Di) : (State.setDi c x s).brb = s.brb := rfl
@[simp] theorem State.setDi_sec (s : State) (c : Nat) (x : Di) : (State.setDi c x s).sec = s.sec := rfl
@[simp] theorem State.setDi_sup (s : State) (c : Nat) (x : Di) : (State.setDi c x s).sup = s.sup := rfl

/-! ### setDout -/
@[simp] theorem State.setDout_pending (s : State) (c : Nat) (x : Do) : (State.setDout c x s).pending = s.pending := rfl
@[simp] theorem State.setDout_rsp (s : State) (c : Nat) (x : Do) : (State.setDout c x s).rsp = s.rsp := rfl
@[simp] theorem State.setDout_free (s : State) (c : Nat) (x : Do) : (State.setDout c x s).free = s.free := rfl
@[simp] theorem State.setDout_mem (s : State) (c : Nat) (x : Do) : (State.setDout c x s).mem = s.mem := rfl
@[simp] theorem State.setDout_poison (s : State) (c : Nat) (x : Do) : (State.setDout c x s).poison = s.poison := rfl
@[simp] theorem State.setDout_ecc (s : State) (c : Nat) (x : Do) : (State.setDout c x s).ecc = s.ecc := rfl
@[simp] theorem State.setDout_regs (s : State) (c : Nat) (x : Do) : (State.setDout c x s).regs = s.regs := rfl
@[simp] theorem State.setDout_pins (s : State) (c : Nat) (x : Do) : (State.setDout c x s).pins = s.pins := rfl
@[simp] theorem State.setDout_pwr (s : State) (c : Nat) (x : Do) : (State.setDout c x s).pwr = s.pwr := rfl
@[simp] theorem State.setDout_fuses (s : State) (c : Nat) (x : Do) : (State.setDout c x s).fuses = s.fuses := rfl
@[simp] theorem State.setDout_clk (s : State) (c : Nat) (x : Do) : (State.setDout c x s).clk = s.clk := rfl
@[simp] theorem State.setDout_tb (s : State) (c : Nat) (x : Do) : (State.setDout c x s).tb = s.tb := rfl
@[simp] theorem State.setDout_triads (s : State) (c : Nat) (x : Do) : (State.setDout c x s).triads = s.triads := rfl
@[simp] theorem State.setDout_engs (s : State) (c : Nat) (x : Do) : (State.setDout c x s).engs = s.engs := rfl
@[simp] theorem State.setDout_parts (s : State) (c : Nat) (x : Do) : (State.setDout c x s).parts = s.parts := rfl
@[simp] theorem State.setDout_sch (s : State) (c : Nat) (x : Do) : (State.setDout c x s).sch = s.sch := rfl
@[simp] theorem State.setDout_arb (s : State) (c : Nat) (x : Do) : (State.setDout c x s).arb = s.arb := rfl
@[simp] theorem State.setDout_she (s : State) (c : Nat) (x : Do) : (State.setDout c x s).she = s.she := rfl
@[simp] theorem State.setDout_eth (s : State) (c : Nat) (x : Do) : (State.setDout c x s).eth = s.eth := rfl
@[simp] theorem State.setDout_stn (s : State) (c : Nat) (x : Do) : (State.setDout c x s).stn = s.stn := rfl
@[simp] theorem State.setDout_cans (s : State) (c : Nat) (x : Do) : (State.setDout c x s).cans = s.cans := rfl
@[simp] theorem State.setDout_alp (s : State) (c : Nat) (x : Do) : (State.setDout c x s).alp = s.alp := rfl
@[simp] theorem State.setDout_sto (s : State) (c : Nat) (x : Do) : (State.setDout c x s).sto = s.sto := rfl
@[simp] theorem State.setDout_brb (s : State) (c : Nat) (x : Do) : (State.setDout c x s).brb = s.brb := rfl
@[simp] theorem State.setDout_sec (s : State) (c : Nat) (x : Do) : (State.setDout c x s).sec = s.sec := rfl
@[simp] theorem State.setDout_sup (s : State) (c : Nat) (x : Do) : (State.setDout c x s).sup = s.sup := rfl

/-! ### setLoop -/
@[simp] theorem State.setLoop_pending (s : State) (c : Nat) (x : Loop) : (State.setLoop c x s).pending = s.pending := rfl
@[simp] theorem State.setLoop_rsp (s : State) (c : Nat) (x : Loop) : (State.setLoop c x s).rsp = s.rsp := rfl
@[simp] theorem State.setLoop_free (s : State) (c : Nat) (x : Loop) : (State.setLoop c x s).free = s.free := rfl
@[simp] theorem State.setLoop_mem (s : State) (c : Nat) (x : Loop) : (State.setLoop c x s).mem = s.mem := rfl
@[simp] theorem State.setLoop_poison (s : State) (c : Nat) (x : Loop) : (State.setLoop c x s).poison = s.poison := rfl
@[simp] theorem State.setLoop_ecc (s : State) (c : Nat) (x : Loop) : (State.setLoop c x s).ecc = s.ecc := rfl
@[simp] theorem State.setLoop_regs (s : State) (c : Nat) (x : Loop) : (State.setLoop c x s).regs = s.regs := rfl
@[simp] theorem State.setLoop_pins (s : State) (c : Nat) (x : Loop) : (State.setLoop c x s).pins = s.pins := rfl
@[simp] theorem State.setLoop_pwr (s : State) (c : Nat) (x : Loop) : (State.setLoop c x s).pwr = s.pwr := rfl
@[simp] theorem State.setLoop_fuses (s : State) (c : Nat) (x : Loop) : (State.setLoop c x s).fuses = s.fuses := rfl
@[simp] theorem State.setLoop_clk (s : State) (c : Nat) (x : Loop) : (State.setLoop c x s).clk = s.clk := rfl
@[simp] theorem State.setLoop_tb (s : State) (c : Nat) (x : Loop) : (State.setLoop c x s).tb = s.tb := rfl
@[simp] theorem State.setLoop_triads (s : State) (c : Nat) (x : Loop) : (State.setLoop c x s).triads = s.triads := rfl
@[simp] theorem State.setLoop_engs (s : State) (c : Nat) (x : Loop) : (State.setLoop c x s).engs = s.engs := rfl
@[simp] theorem State.setLoop_parts (s : State) (c : Nat) (x : Loop) : (State.setLoop c x s).parts = s.parts := rfl
@[simp] theorem State.setLoop_sch (s : State) (c : Nat) (x : Loop) : (State.setLoop c x s).sch = s.sch := rfl
@[simp] theorem State.setLoop_arb (s : State) (c : Nat) (x : Loop) : (State.setLoop c x s).arb = s.arb := rfl
@[simp] theorem State.setLoop_she (s : State) (c : Nat) (x : Loop) : (State.setLoop c x s).she = s.she := rfl
@[simp] theorem State.setLoop_eth (s : State) (c : Nat) (x : Loop) : (State.setLoop c x s).eth = s.eth := rfl
@[simp] theorem State.setLoop_stn (s : State) (c : Nat) (x : Loop) : (State.setLoop c x s).stn = s.stn := rfl
@[simp] theorem State.setLoop_cans (s : State) (c : Nat) (x : Loop) : (State.setLoop c x s).cans = s.cans := rfl
@[simp] theorem State.setLoop_dio (s : State) (c : Nat) (x : Loop) : (State.setLoop c x s).dio = s.dio := rfl
@[simp] theorem State.setLoop_sto (s : State) (c : Nat) (x : Loop) : (State.setLoop c x s).sto = s.sto := rfl
@[simp] theorem State.setLoop_brb (s : State) (c : Nat) (x : Loop) : (State.setLoop c x s).brb = s.brb := rfl
@[simp] theorem State.setLoop_sec (s : State) (c : Nat) (x : Loop) : (State.setLoop c x s).sec = s.sec := rfl
@[simp] theorem State.setLoop_sup (s : State) (c : Nat) (x : Loop) : (State.setLoop c x s).sup = s.sup := rfl

/-! ### setLink -/
@[simp] theorem State.setLink_pending (s : State) (l : Nat) (x : SLink) : (State.setLink l x s).pending = s.pending := rfl
@[simp] theorem State.setLink_rsp (s : State) (l : Nat) (x : SLink) : (State.setLink l x s).rsp = s.rsp := rfl
@[simp] theorem State.setLink_free (s : State) (l : Nat) (x : SLink) : (State.setLink l x s).free = s.free := rfl
@[simp] theorem State.setLink_mem (s : State) (l : Nat) (x : SLink) : (State.setLink l x s).mem = s.mem := rfl
@[simp] theorem State.setLink_poison (s : State) (l : Nat) (x : SLink) : (State.setLink l x s).poison = s.poison := rfl
@[simp] theorem State.setLink_ecc (s : State) (l : Nat) (x : SLink) : (State.setLink l x s).ecc = s.ecc := rfl
@[simp] theorem State.setLink_regs (s : State) (l : Nat) (x : SLink) : (State.setLink l x s).regs = s.regs := rfl
@[simp] theorem State.setLink_pins (s : State) (l : Nat) (x : SLink) : (State.setLink l x s).pins = s.pins := rfl
@[simp] theorem State.setLink_pwr (s : State) (l : Nat) (x : SLink) : (State.setLink l x s).pwr = s.pwr := rfl
@[simp] theorem State.setLink_fuses (s : State) (l : Nat) (x : SLink) : (State.setLink l x s).fuses = s.fuses := rfl
@[simp] theorem State.setLink_clk (s : State) (l : Nat) (x : SLink) : (State.setLink l x s).clk = s.clk := rfl
@[simp] theorem State.setLink_tb (s : State) (l : Nat) (x : SLink) : (State.setLink l x s).tb = s.tb := rfl
@[simp] theorem State.setLink_triads (s : State) (l : Nat) (x : SLink) : (State.setLink l x s).triads = s.triads := rfl
@[simp] theorem State.setLink_engs (s : State) (l : Nat) (x : SLink) : (State.setLink l x s).engs = s.engs := rfl
@[simp] theorem State.setLink_parts (s : State) (l : Nat) (x : SLink) : (State.setLink l x s).parts = s.parts := rfl
@[simp] theorem State.setLink_sch (s : State) (l : Nat) (x : SLink) : (State.setLink l x s).sch = s.sch := rfl
@[simp] theorem State.setLink_arb (s : State) (l : Nat) (x : SLink) : (State.setLink l x s).arb = s.arb := rfl
@[simp] theorem State.setLink_she (s : State) (l : Nat) (x : SLink) : (State.setLink l x s).she = s.she := rfl
@[simp] theorem State.setLink_eth (s : State) (l : Nat) (x : SLink) : (State.setLink l x s).eth = s.eth := rfl
@[simp] theorem State.setLink_stn (s : State) (l : Nat) (x : SLink) : (State.setLink l x s).stn = s.stn := rfl
@[simp] theorem State.setLink_cans (s : State) (l : Nat) (x : SLink) : (State.setLink l x s).cans = s.cans := rfl
@[simp] theorem State.setLink_dio (s : State) (l : Nat) (x : SLink) : (State.setLink l x s).dio = s.dio := rfl
@[simp] theorem State.setLink_alp (s : State) (l : Nat) (x : SLink) : (State.setLink l x s).alp = s.alp := rfl
@[simp] theorem State.setLink_brb (s : State) (l : Nat) (x : SLink) : (State.setLink l x s).brb = s.brb := rfl
@[simp] theorem State.setLink_sec (s : State) (l : Nat) (x : SLink) : (State.setLink l x s).sec = s.sec := rfl
@[simp] theorem State.setLink_sup (s : State) (l : Nat) (x : SLink) : (State.setLink l x s).sup = s.sup := rfl

/-! ### setStream -/
@[simp] theorem State.setStream_pending (s : State) (n : Nat) (x : Stream) : (State.setStream n x s).pending = s.pending := rfl
@[simp] theorem State.setStream_rsp (s : State) (n : Nat) (x : Stream) : (State.setStream n x s).rsp = s.rsp := rfl
@[simp] theorem State.setStream_free (s : State) (n : Nat) (x : Stream) : (State.setStream n x s).free = s.free := rfl
@[simp] theorem State.setStream_mem (s : State) (n : Nat) (x : Stream) : (State.setStream n x s).mem = s.mem := rfl
@[simp] theorem State.setStream_poison (s : State) (n : Nat) (x : Stream) : (State.setStream n x s).poison = s.poison := rfl
@[simp] theorem State.setStream_ecc (s : State) (n : Nat) (x : Stream) : (State.setStream n x s).ecc = s.ecc := rfl
@[simp] theorem State.setStream_regs (s : State) (n : Nat) (x : Stream) : (State.setStream n x s).regs = s.regs := rfl
@[simp] theorem State.setStream_pins (s : State) (n : Nat) (x : Stream) : (State.setStream n x s).pins = s.pins := rfl
@[simp] theorem State.setStream_pwr (s : State) (n : Nat) (x : Stream) : (State.setStream n x s).pwr = s.pwr := rfl
@[simp] theorem State.setStream_fuses (s : State) (n : Nat) (x : Stream) : (State.setStream n x s).fuses = s.fuses := rfl
@[simp] theorem State.setStream_clk (s : State) (n : Nat) (x : Stream) : (State.setStream n x s).clk = s.clk := rfl
@[simp] theorem State.setStream_tb (s : State) (n : Nat) (x : Stream) : (State.setStream n x s).tb = s.tb := rfl
@[simp] theorem State.setStream_triads (s : State) (n : Nat) (x : Stream) : (State.setStream n x s).triads = s.triads := rfl
@[simp] theorem State.setStream_engs (s : State) (n : Nat) (x : Stream) : (State.setStream n x s).engs = s.engs := rfl
@[simp] theorem State.setStream_parts (s : State) (n : Nat) (x : Stream) : (State.setStream n x s).parts = s.parts := rfl
@[simp] theorem State.setStream_sch (s : State) (n : Nat) (x : Stream) : (State.setStream n x s).sch = s.sch := rfl
@[simp] theorem State.setStream_arb (s : State) (n : Nat) (x : Stream) : (State.setStream n x s).arb = s.arb := rfl
@[simp] theorem State.setStream_she (s : State) (n : Nat) (x : Stream) : (State.setStream n x s).she = s.she := rfl
@[simp] theorem State.setStream_eth (s : State) (n : Nat) (x : Stream) : (State.setStream n x s).eth = s.eth := rfl
@[simp] theorem State.setStream_stn (s : State) (n : Nat) (x : Stream) : (State.setStream n x s).stn = s.stn := rfl
@[simp] theorem State.setStream_cans (s : State) (n : Nat) (x : Stream) : (State.setStream n x s).cans = s.cans := rfl
@[simp] theorem State.setStream_dio (s : State) (n : Nat) (x : Stream) : (State.setStream n x s).dio = s.dio := rfl
@[simp] theorem State.setStream_alp (s : State) (n : Nat) (x : Stream) : (State.setStream n x s).alp = s.alp := rfl
@[simp] theorem State.setStream_brb (s : State) (n : Nat) (x : Stream) : (State.setStream n x s).brb = s.brb := rfl
@[simp] theorem State.setStream_sec (s : State) (n : Nat) (x : Stream) : (State.setStream n x s).sec = s.sec := rfl
@[simp] theorem State.setStream_sup (s : State) (n : Nat) (x : Stream) : (State.setStream n x s).sup = s.sup := rfl

/-! ### setPair -/
@[simp] theorem State.setPair_pending (s : State) (k : Nat) (x : Pair) : (State.setPair k x s).pending = s.pending := rfl
@[simp] theorem State.setPair_rsp (s : State) (k : Nat) (x : Pair) : (State.setPair k x s).rsp = s.rsp := rfl
@[simp] theorem State.setPair_free (s : State) (k : Nat) (x : Pair) : (State.setPair k x s).free = s.free := rfl
@[simp] theorem State.setPair_mem (s : State) (k : Nat) (x : Pair) : (State.setPair k x s).mem = s.mem := rfl
@[simp] theorem State.setPair_poison (s : State) (k : Nat) (x : Pair) : (State.setPair k x s).poison = s.poison := rfl
@[simp] theorem State.setPair_ecc (s : State) (k : Nat) (x : Pair) : (State.setPair k x s).ecc = s.ecc := rfl
@[simp] theorem State.setPair_regs (s : State) (k : Nat) (x : Pair) : (State.setPair k x s).regs = s.regs := rfl
@[simp] theorem State.setPair_pins (s : State) (k : Nat) (x : Pair) : (State.setPair k x s).pins = s.pins := rfl
@[simp] theorem State.setPair_pwr (s : State) (k : Nat) (x : Pair) : (State.setPair k x s).pwr = s.pwr := rfl
@[simp] theorem State.setPair_fuses (s : State) (k : Nat) (x : Pair) : (State.setPair k x s).fuses = s.fuses := rfl
@[simp] theorem State.setPair_clk (s : State) (k : Nat) (x : Pair) : (State.setPair k x s).clk = s.clk := rfl
@[simp] theorem State.setPair_tb (s : State) (k : Nat) (x : Pair) : (State.setPair k x s).tb = s.tb := rfl
@[simp] theorem State.setPair_triads (s : State) (k : Nat) (x : Pair) : (State.setPair k x s).triads = s.triads := rfl
@[simp] theorem State.setPair_engs (s : State) (k : Nat) (x : Pair) : (State.setPair k x s).engs = s.engs := rfl
@[simp] theorem State.setPair_parts (s : State) (k : Nat) (x : Pair) : (State.setPair k x s).parts = s.parts := rfl
@[simp] theorem State.setPair_sch (s : State) (k : Nat) (x : Pair) : (State.setPair k x s).sch = s.sch := rfl
@[simp] theorem State.setPair_arb (s : State) (k : Nat) (x : Pair) : (State.setPair k x s).arb = s.arb := rfl
@[simp] theorem State.setPair_she (s : State) (k : Nat) (x : Pair) : (State.setPair k x s).she = s.she := rfl
@[simp] theorem State.setPair_stn (s : State) (k : Nat) (x : Pair) : (State.setPair k x s).stn = s.stn := rfl
@[simp] theorem State.setPair_cans (s : State) (k : Nat) (x : Pair) : (State.setPair k x s).cans = s.cans := rfl
@[simp] theorem State.setPair_dio (s : State) (k : Nat) (x : Pair) : (State.setPair k x s).dio = s.dio := rfl
@[simp] theorem State.setPair_alp (s : State) (k : Nat) (x : Pair) : (State.setPair k x s).alp = s.alp := rfl
@[simp] theorem State.setPair_sto (s : State) (k : Nat) (x : Pair) : (State.setPair k x s).sto = s.sto := rfl
@[simp] theorem State.setPair_brb (s : State) (k : Nat) (x : Pair) : (State.setPair k x s).brb = s.brb := rfl
@[simp] theorem State.setPair_sec (s : State) (k : Nat) (x : Pair) : (State.setPair k x s).sec = s.sec := rfl
@[simp] theorem State.setPair_sup (s : State) (k : Nat) (x : Pair) : (State.setPair k x s).sup = s.sup := rfl

/-! ### setSlot -/
@[simp] theorem State.setSlot_pending (s : State) (c k : Nat) (x : Slot) : (State.setSlot c k x s).pending = s.pending := rfl
@[simp] theorem State.setSlot_rsp (s : State) (c k : Nat) (x : Slot) : (State.setSlot c k x s).rsp = s.rsp := rfl
@[simp] theorem State.setSlot_free (s : State) (c k : Nat) (x : Slot) : (State.setSlot c k x s).free = s.free := rfl
@[simp] theorem State.setSlot_mem (s : State) (c k : Nat) (x : Slot) : (State.setSlot c k x s).mem = s.mem := rfl
@[simp] theorem State.setSlot_poison (s : State) (c k : Nat) (x : Slot) : (State.setSlot c k x s).poison = s.poison := rfl
@[simp] theorem State.setSlot_ecc (s : State) (c k : Nat) (x : Slot) : (State.setSlot c k x s).ecc = s.ecc := rfl
@[simp] theorem State.setSlot_regs (s : State) (c k : Nat) (x : Slot) : (State.setSlot c k x s).regs = s.regs := rfl
@[simp] theorem State.setSlot_pins (s : State) (c k : Nat) (x : Slot) : (State.setSlot c k x s).pins = s.pins := rfl
@[simp] theorem State.setSlot_pwr (s : State) (c k : Nat) (x : Slot) : (State.setSlot c k x s).pwr = s.pwr := rfl
@[simp] theorem State.setSlot_fuses (s : State) (c k : Nat) (x : Slot) : (State.setSlot c k x s).fuses = s.fuses := rfl
@[simp] theorem State.setSlot_clk (s : State) (c k : Nat) (x : Slot) : (State.setSlot c k x s).clk = s.clk := rfl
@[simp] theorem State.setSlot_tb (s : State) (c k : Nat) (x : Slot) : (State.setSlot c k x s).tb = s.tb := rfl
@[simp] theorem State.setSlot_triads (s : State) (c k : Nat) (x : Slot) : (State.setSlot c k x s).triads = s.triads := rfl
@[simp] theorem State.setSlot_engs (s : State) (c k : Nat) (x : Slot) : (State.setSlot c k x s).engs = s.engs := rfl
@[simp] theorem State.setSlot_parts (s : State) (c k : Nat) (x : Slot) : (State.setSlot c k x s).parts = s.parts := rfl
@[simp] theorem State.setSlot_sch (s : State) (c k : Nat) (x : Slot) : (State.setSlot c k x s).sch = s.sch := rfl
@[simp] theorem State.setSlot_arb (s : State) (c k : Nat) (x : Slot) : (State.setSlot c k x s).arb = s.arb := rfl
@[simp] theorem State.setSlot_she (s : State) (c k : Nat) (x : Slot) : (State.setSlot c k x s).she = s.she := rfl
@[simp] theorem State.setSlot_eth (s : State) (c k : Nat) (x : Slot) : (State.setSlot c k x s).eth = s.eth := rfl
@[simp] theorem State.setSlot_stn (s : State) (c k : Nat) (x : Slot) : (State.setSlot c k x s).stn = s.stn := rfl
@[simp] theorem State.setSlot_cans (s : State) (c k : Nat) (x : Slot) : (State.setSlot c k x s).cans = s.cans := rfl
@[simp] theorem State.setSlot_dio (s : State) (c k : Nat) (x : Slot) : (State.setSlot c k x s).dio = s.dio := rfl
@[simp] theorem State.setSlot_alp (s : State) (c k : Nat) (x : Slot) : (State.setSlot c k x s).alp = s.alp := rfl
@[simp] theorem State.setSlot_sto (s : State) (c k : Nat) (x : Slot) : (State.setSlot c k x s).sto = s.sto := rfl
@[simp] theorem State.setSlot_brb (s : State) (c k : Nat) (x : Slot) : (State.setSlot c k x s).brb = s.brb := rfl
@[simp] theorem State.setSlot_sup (s : State) (c k : Nat) (x : Slot) : (State.setSlot c k x s).sup = s.sup := rfl

/-! ### setByte -/
@[simp] theorem State.setByte_pending (s : State) (a : Nat) (b : Byte) : (State.setByte a b s).pending = s.pending := rfl
@[simp] theorem State.setByte_rsp (s : State) (a : Nat) (b : Byte) : (State.setByte a b s).rsp = s.rsp := rfl
@[simp] theorem State.setByte_free (s : State) (a : Nat) (b : Byte) : (State.setByte a b s).free = s.free := rfl
@[simp] theorem State.setByte_poison (s : State) (a : Nat) (b : Byte) : (State.setByte a b s).poison = s.poison := rfl
@[simp] theorem State.setByte_ecc (s : State) (a : Nat) (b : Byte) : (State.setByte a b s).ecc = s.ecc := rfl
@[simp] theorem State.setByte_regs (s : State) (a : Nat) (b : Byte) : (State.setByte a b s).regs = s.regs := rfl
@[simp] theorem State.setByte_pins (s : State) (a : Nat) (b : Byte) : (State.setByte a b s).pins = s.pins := rfl
@[simp] theorem State.setByte_pwr (s : State) (a : Nat) (b : Byte) : (State.setByte a b s).pwr = s.pwr := rfl
@[simp] theorem State.setByte_fuses (s : State) (a : Nat) (b : Byte) : (State.setByte a b s).fuses = s.fuses := rfl
@[simp] theorem State.setByte_clk (s : State) (a : Nat) (b : Byte) : (State.setByte a b s).clk = s.clk := rfl
@[simp] theorem State.setByte_tb (s : State) (a : Nat) (b : Byte) : (State.setByte a b s).tb = s.tb := rfl
@[simp] theorem State.setByte_triads (s : State) (a : Nat) (b : Byte) : (State.setByte a b s).triads = s.triads := rfl
@[simp] theorem State.setByte_engs (s : State) (a : Nat) (b : Byte) : (State.setByte a b s).engs = s.engs := rfl
@[simp] theorem State.setByte_parts (s : State) (a : Nat) (b : Byte) : (State.setByte a b s).parts = s.parts := rfl
@[simp] theorem State.setByte_sch (s : State) (a : Nat) (b : Byte) : (State.setByte a b s).sch = s.sch := rfl
@[simp] theorem State.setByte_arb (s : State) (a : Nat) (b : Byte) : (State.setByte a b s).arb = s.arb := rfl
@[simp] theorem State.setByte_she (s : State) (a : Nat) (b : Byte) : (State.setByte a b s).she = s.she := rfl
@[simp] theorem State.setByte_eth (s : State) (a : Nat) (b : Byte) : (State.setByte a b s).eth = s.eth := rfl
@[simp] theorem State.setByte_stn (s : State) (a : Nat) (b : Byte) : (State.setByte a b s).stn = s.stn := rfl
@[simp] theorem State.setByte_cans (s : State) (a : Nat) (b : Byte) : (State.setByte a b s).cans = s.cans := rfl
@[simp] theorem State.setByte_dio (s : State) (a : Nat) (b : Byte) : (State.setByte a b s).dio = s.dio := rfl
@[simp] theorem State.setByte_alp (s : State) (a : Nat) (b : Byte) : (State.setByte a b s).alp = s.alp := rfl
@[simp] theorem State.setByte_sto (s : State) (a : Nat) (b : Byte) : (State.setByte a b s).sto = s.sto := rfl
@[simp] theorem State.setByte_brb (s : State) (a : Nat) (b : Byte) : (State.setByte a b s).brb = s.brb := rfl
@[simp] theorem State.setByte_sec (s : State) (a : Nat) (b : Byte) : (State.setByte a b s).sec = s.sec := rfl
@[simp] theorem State.setByte_sup (s : State) (a : Nat) (b : Byte) : (State.setByte a b s).sup = s.sup := rfl

/-! ### setClk -/
@[simp] theorem State.setClk_pending (s : State) (x : Clocks) : (State.setClk x s).pending = s.pending := rfl
@[simp] theorem State.setClk_rsp (s : State) (x : Clocks) : (State.setClk x s).rsp = s.rsp := rfl
@[simp] theorem State.setClk_free (s : State) (x : Clocks) : (State.setClk x s).free = s.free := rfl
@[simp] theorem State.setClk_mem (s : State) (x : Clocks) : (State.setClk x s).mem = s.mem := rfl
@[simp] theorem State.setClk_poison (s : State) (x : Clocks) : (State.setClk x s).poison = s.poison := rfl
@[simp] theorem State.setClk_ecc (s : State) (x : Clocks) : (State.setClk x s).ecc = s.ecc := rfl
@[simp] theorem State.setClk_regs (s : State) (x : Clocks) : (State.setClk x s).regs = s.regs := rfl
@[simp] theorem State.setClk_pins (s : State) (x : Clocks) : (State.setClk x s).pins = s.pins := rfl
@[simp] theorem State.setClk_pwr (s : State) (x : Clocks) : (State.setClk x s).pwr = s.pwr := rfl
@[simp] theorem State.setClk_fuses (s : State) (x : Clocks) : (State.setClk x s).fuses = s.fuses := rfl
@[simp] theorem State.setClk_tb (s : State) (x : Clocks) : (State.setClk x s).tb = s.tb := rfl
@[simp] theorem State.setClk_triads (s : State) (x : Clocks) : (State.setClk x s).triads = s.triads := rfl
@[simp] theorem State.setClk_engs (s : State) (x : Clocks) : (State.setClk x s).engs = s.engs := rfl
@[simp] theorem State.setClk_parts (s : State) (x : Clocks) : (State.setClk x s).parts = s.parts := rfl
@[simp] theorem State.setClk_sch (s : State) (x : Clocks) : (State.setClk x s).sch = s.sch := rfl
@[simp] theorem State.setClk_arb (s : State) (x : Clocks) : (State.setClk x s).arb = s.arb := rfl
@[simp] theorem State.setClk_she (s : State) (x : Clocks) : (State.setClk x s).she = s.she := rfl
@[simp] theorem State.setClk_eth (s : State) (x : Clocks) : (State.setClk x s).eth = s.eth := rfl
@[simp] theorem State.setClk_stn (s : State) (x : Clocks) : (State.setClk x s).stn = s.stn := rfl
@[simp] theorem State.setClk_cans (s : State) (x : Clocks) : (State.setClk x s).cans = s.cans := rfl
@[simp] theorem State.setClk_dio (s : State) (x : Clocks) : (State.setClk x s).dio = s.dio := rfl
@[simp] theorem State.setClk_alp (s : State) (x : Clocks) : (State.setClk x s).alp = s.alp := rfl
@[simp] theorem State.setClk_sto (s : State) (x : Clocks) : (State.setClk x s).sto = s.sto := rfl
@[simp] theorem State.setClk_brb (s : State) (x : Clocks) : (State.setClk x s).brb = s.brb := rfl
@[simp] theorem State.setClk_sec (s : State) (x : Clocks) : (State.setClk x s).sec = s.sec := rfl
@[simp] theorem State.setClk_sup (s : State) (x : Clocks) : (State.setClk x s).sup = s.sup := rfl

/-! ### setTb -/
@[simp] theorem State.setTb_pending (s : State) (x : TimeBase) : (State.setTb x s).pending = s.pending := rfl
@[simp] theorem State.setTb_rsp (s : State) (x : TimeBase) : (State.setTb x s).rsp = s.rsp := rfl
@[simp] theorem State.setTb_free (s : State) (x : TimeBase) : (State.setTb x s).free = s.free := rfl
@[simp] theorem State.setTb_mem (s : State) (x : TimeBase) : (State.setTb x s).mem = s.mem := rfl
@[simp] theorem State.setTb_poison (s : State) (x : TimeBase) : (State.setTb x s).poison = s.poison := rfl
@[simp] theorem State.setTb_ecc (s : State) (x : TimeBase) : (State.setTb x s).ecc = s.ecc := rfl
@[simp] theorem State.setTb_regs (s : State) (x : TimeBase) : (State.setTb x s).regs = s.regs := rfl
@[simp] theorem State.setTb_pins (s : State) (x : TimeBase) : (State.setTb x s).pins = s.pins := rfl
@[simp] theorem State.setTb_pwr (s : State) (x : TimeBase) : (State.setTb x s).pwr = s.pwr := rfl
@[simp] theorem State.setTb_fuses (s : State) (x : TimeBase) : (State.setTb x s).fuses = s.fuses := rfl
@[simp] theorem State.setTb_clk (s : State) (x : TimeBase) : (State.setTb x s).clk = s.clk := rfl
@[simp] theorem State.setTb_triads (s : State) (x : TimeBase) : (State.setTb x s).triads = s.triads := rfl
@[simp] theorem State.setTb_engs (s : State) (x : TimeBase) : (State.setTb x s).engs = s.engs := rfl
@[simp] theorem State.setTb_parts (s : State) (x : TimeBase) : (State.setTb x s).parts = s.parts := rfl
@[simp] theorem State.setTb_sch (s : State) (x : TimeBase) : (State.setTb x s).sch = s.sch := rfl
@[simp] theorem State.setTb_arb (s : State) (x : TimeBase) : (State.setTb x s).arb = s.arb := rfl
@[simp] theorem State.setTb_she (s : State) (x : TimeBase) : (State.setTb x s).she = s.she := rfl
@[simp] theorem State.setTb_eth (s : State) (x : TimeBase) : (State.setTb x s).eth = s.eth := rfl
@[simp] theorem State.setTb_stn (s : State) (x : TimeBase) : (State.setTb x s).stn = s.stn := rfl
@[simp] theorem State.setTb_cans (s : State) (x : TimeBase) : (State.setTb x s).cans = s.cans := rfl
@[simp] theorem State.setTb_dio (s : State) (x : TimeBase) : (State.setTb x s).dio = s.dio := rfl
@[simp] theorem State.setTb_alp (s : State) (x : TimeBase) : (State.setTb x s).alp = s.alp := rfl
@[simp] theorem State.setTb_sto (s : State) (x : TimeBase) : (State.setTb x s).sto = s.sto := rfl
@[simp] theorem State.setTb_brb (s : State) (x : TimeBase) : (State.setTb x s).brb = s.brb := rfl
@[simp] theorem State.setTb_sec (s : State) (x : TimeBase) : (State.setTb x s).sec = s.sec := rfl
@[simp] theorem State.setTb_sup (s : State) (x : TimeBase) : (State.setTb x s).sup = s.sup := rfl

/-! ### setPwr -/
@[simp] theorem State.setPwr_pending (s : State) (x : Power) : (State.setPwr x s).pending = s.pending := rfl
@[simp] theorem State.setPwr_rsp (s : State) (x : Power) : (State.setPwr x s).rsp = s.rsp := rfl
@[simp] theorem State.setPwr_free (s : State) (x : Power) : (State.setPwr x s).free = s.free := rfl
@[simp] theorem State.setPwr_mem (s : State) (x : Power) : (State.setPwr x s).mem = s.mem := rfl
@[simp] theorem State.setPwr_poison (s : State) (x : Power) : (State.setPwr x s).poison = s.poison := rfl
@[simp] theorem State.setPwr_ecc (s : State) (x : Power) : (State.setPwr x s).ecc = s.ecc := rfl
@[simp] theorem State.setPwr_regs (s : State) (x : Power) : (State.setPwr x s).regs = s.regs := rfl
@[simp] theorem State.setPwr_pins (s : State) (x : Power) : (State.setPwr x s).pins = s.pins := rfl
@[simp] theorem State.setPwr_fuses (s : State) (x : Power) : (State.setPwr x s).fuses = s.fuses := rfl
@[simp] theorem State.setPwr_clk (s : State) (x : Power) : (State.setPwr x s).clk = s.clk := rfl
@[simp] theorem State.setPwr_tb (s : State) (x : Power) : (State.setPwr x s).tb = s.tb := rfl
@[simp] theorem State.setPwr_triads (s : State) (x : Power) : (State.setPwr x s).triads = s.triads := rfl
@[simp] theorem State.setPwr_engs (s : State) (x : Power) : (State.setPwr x s).engs = s.engs := rfl
@[simp] theorem State.setPwr_parts (s : State) (x : Power) : (State.setPwr x s).parts = s.parts := rfl
@[simp] theorem State.setPwr_sch (s : State) (x : Power) : (State.setPwr x s).sch = s.sch := rfl
@[simp] theorem State.setPwr_arb (s : State) (x : Power) : (State.setPwr x s).arb = s.arb := rfl
@[simp] theorem State.setPwr_she (s : State) (x : Power) : (State.setPwr x s).she = s.she := rfl
@[simp] theorem State.setPwr_eth (s : State) (x : Power) : (State.setPwr x s).eth = s.eth := rfl
@[simp] theorem State.setPwr_stn (s : State) (x : Power) : (State.setPwr x s).stn = s.stn := rfl
@[simp] theorem State.setPwr_cans (s : State) (x : Power) : (State.setPwr x s).cans = s.cans := rfl
@[simp] theorem State.setPwr_dio (s : State) (x : Power) : (State.setPwr x s).dio = s.dio := rfl
@[simp] theorem State.setPwr_alp (s : State) (x : Power) : (State.setPwr x s).alp = s.alp := rfl
@[simp] theorem State.setPwr_sto (s : State) (x : Power) : (State.setPwr x s).sto = s.sto := rfl
@[simp] theorem State.setPwr_brb (s : State) (x : Power) : (State.setPwr x s).brb = s.brb := rfl
@[simp] theorem State.setPwr_sec (s : State) (x : Power) : (State.setPwr x s).sec = s.sec := rfl
@[simp] theorem State.setPwr_sup (s : State) (x : Power) : (State.setPwr x s).sup = s.sup := rfl

/-! ### setPins -/
@[simp] theorem State.setPins_pending (s : State) (x : Pins) : (State.setPins x s).pending = s.pending := rfl
@[simp] theorem State.setPins_rsp (s : State) (x : Pins) : (State.setPins x s).rsp = s.rsp := rfl
@[simp] theorem State.setPins_free (s : State) (x : Pins) : (State.setPins x s).free = s.free := rfl
@[simp] theorem State.setPins_mem (s : State) (x : Pins) : (State.setPins x s).mem = s.mem := rfl
@[simp] theorem State.setPins_poison (s : State) (x : Pins) : (State.setPins x s).poison = s.poison := rfl
@[simp] theorem State.setPins_ecc (s : State) (x : Pins) : (State.setPins x s).ecc = s.ecc := rfl
@[simp] theorem State.setPins_regs (s : State) (x : Pins) : (State.setPins x s).regs = s.regs := rfl
@[simp] theorem State.setPins_pwr (s : State) (x : Pins) : (State.setPins x s).pwr = s.pwr := rfl
@[simp] theorem State.setPins_fuses (s : State) (x : Pins) : (State.setPins x s).fuses = s.fuses := rfl
@[simp] theorem State.setPins_clk (s : State) (x : Pins) : (State.setPins x s).clk = s.clk := rfl
@[simp] theorem State.setPins_tb (s : State) (x : Pins) : (State.setPins x s).tb = s.tb := rfl
@[simp] theorem State.setPins_triads (s : State) (x : Pins) : (State.setPins x s).triads = s.triads := rfl
@[simp] theorem State.setPins_engs (s : State) (x : Pins) : (State.setPins x s).engs = s.engs := rfl
@[simp] theorem State.setPins_parts (s : State) (x : Pins) : (State.setPins x s).parts = s.parts := rfl
@[simp] theorem State.setPins_sch (s : State) (x : Pins) : (State.setPins x s).sch = s.sch := rfl
@[simp] theorem State.setPins_arb (s : State) (x : Pins) : (State.setPins x s).arb = s.arb := rfl
@[simp] theorem State.setPins_she (s : State) (x : Pins) : (State.setPins x s).she = s.she := rfl
@[simp] theorem State.setPins_eth (s : State) (x : Pins) : (State.setPins x s).eth = s.eth := rfl
@[simp] theorem State.setPins_stn (s : State) (x : Pins) : (State.setPins x s).stn = s.stn := rfl
@[simp] theorem State.setPins_cans (s : State) (x : Pins) : (State.setPins x s).cans = s.cans := rfl
@[simp] theorem State.setPins_dio (s : State) (x : Pins) : (State.setPins x s).dio = s.dio := rfl
@[simp] theorem State.setPins_alp (s : State) (x : Pins) : (State.setPins x s).alp = s.alp := rfl
@[simp] theorem State.setPins_sto (s : State) (x : Pins) : (State.setPins x s).sto = s.sto := rfl
@[simp] theorem State.setPins_brb (s : State) (x : Pins) : (State.setPins x s).brb = s.brb := rfl
@[simp] theorem State.setPins_sec (s : State) (x : Pins) : (State.setPins x s).sec = s.sec := rfl
@[simp] theorem State.setPins_sup (s : State) (x : Pins) : (State.setPins x s).sup = s.sup := rfl

/-! ### setSec -/
@[simp] theorem State.setSec_pending (s : State) (x : Secure) : (State.setSec x s).pending = s.pending := rfl
@[simp] theorem State.setSec_rsp (s : State) (x : Secure) : (State.setSec x s).rsp = s.rsp := rfl
@[simp] theorem State.setSec_free (s : State) (x : Secure) : (State.setSec x s).free = s.free := rfl
@[simp] theorem State.setSec_mem (s : State) (x : Secure) : (State.setSec x s).mem = s.mem := rfl
@[simp] theorem State.setSec_poison (s : State) (x : Secure) : (State.setSec x s).poison = s.poison := rfl
@[simp] theorem State.setSec_ecc (s : State) (x : Secure) : (State.setSec x s).ecc = s.ecc := rfl
@[simp] theorem State.setSec_regs (s : State) (x : Secure) : (State.setSec x s).regs = s.regs := rfl
@[simp] theorem State.setSec_pins (s : State) (x : Secure) : (State.setSec x s).pins = s.pins := rfl
@[simp] theorem State.setSec_pwr (s : State) (x : Secure) : (State.setSec x s).pwr = s.pwr := rfl
@[simp] theorem State.setSec_fuses (s : State) (x : Secure) : (State.setSec x s).fuses = s.fuses := rfl
@[simp] theorem State.setSec_clk (s : State) (x : Secure) : (State.setSec x s).clk = s.clk := rfl
@[simp] theorem State.setSec_tb (s : State) (x : Secure) : (State.setSec x s).tb = s.tb := rfl
@[simp] theorem State.setSec_triads (s : State) (x : Secure) : (State.setSec x s).triads = s.triads := rfl
@[simp] theorem State.setSec_engs (s : State) (x : Secure) : (State.setSec x s).engs = s.engs := rfl
@[simp] theorem State.setSec_parts (s : State) (x : Secure) : (State.setSec x s).parts = s.parts := rfl
@[simp] theorem State.setSec_sch (s : State) (x : Secure) : (State.setSec x s).sch = s.sch := rfl
@[simp] theorem State.setSec_arb (s : State) (x : Secure) : (State.setSec x s).arb = s.arb := rfl
@[simp] theorem State.setSec_she (s : State) (x : Secure) : (State.setSec x s).she = s.she := rfl
@[simp] theorem State.setSec_eth (s : State) (x : Secure) : (State.setSec x s).eth = s.eth := rfl
@[simp] theorem State.setSec_stn (s : State) (x : Secure) : (State.setSec x s).stn = s.stn := rfl
@[simp] theorem State.setSec_cans (s : State) (x : Secure) : (State.setSec x s).cans = s.cans := rfl
@[simp] theorem State.setSec_dio (s : State) (x : Secure) : (State.setSec x s).dio = s.dio := rfl
@[simp] theorem State.setSec_alp (s : State) (x : Secure) : (State.setSec x s).alp = s.alp := rfl
@[simp] theorem State.setSec_sto (s : State) (x : Secure) : (State.setSec x s).sto = s.sto := rfl
@[simp] theorem State.setSec_brb (s : State) (x : Secure) : (State.setSec x s).brb = s.brb := rfl
@[simp] theorem State.setSec_sup (s : State) (x : Secure) : (State.setSec x s).sup = s.sup := rfl

/-! ### setSup -/
@[simp] theorem State.setSup_pending (s : State) (x : Superv) : (State.setSup x s).pending = s.pending := rfl
@[simp] theorem State.setSup_rsp (s : State) (x : Superv) : (State.setSup x s).rsp = s.rsp := rfl
@[simp] theorem State.setSup_free (s : State) (x : Superv) : (State.setSup x s).free = s.free := rfl
@[simp] theorem State.setSup_mem (s : State) (x : Superv) : (State.setSup x s).mem = s.mem := rfl
@[simp] theorem State.setSup_poison (s : State) (x : Superv) : (State.setSup x s).poison = s.poison := rfl
@[simp] theorem State.setSup_ecc (s : State) (x : Superv) : (State.setSup x s).ecc = s.ecc := rfl
@[simp] theorem State.setSup_regs (s : State) (x : Superv) : (State.setSup x s).regs = s.regs := rfl
@[simp] theorem State.setSup_pins (s : State) (x : Superv) : (State.setSup x s).pins = s.pins := rfl
@[simp] theorem State.setSup_pwr (s : State) (x : Superv) : (State.setSup x s).pwr = s.pwr := rfl
@[simp] theorem State.setSup_fuses (s : State) (x : Superv) : (State.setSup x s).fuses = s.fuses := rfl
@[simp] theorem State.setSup_clk (s : State) (x : Superv) : (State.setSup x s).clk = s.clk := rfl
@[simp] theorem State.setSup_tb (s : State) (x : Superv) : (State.setSup x s).tb = s.tb := rfl
@[simp] theorem State.setSup_triads (s : State) (x : Superv) : (State.setSup x s).triads = s.triads := rfl
@[simp] theorem State.setSup_engs (s : State) (x : Superv) : (State.setSup x s).engs = s.engs := rfl
@[simp] theorem State.setSup_parts (s : State) (x : Superv) : (State.setSup x s).parts = s.parts := rfl
@[simp] theorem State.setSup_sch (s : State) (x : Superv) : (State.setSup x s).sch = s.sch := rfl
@[simp] theorem State.setSup_arb (s : State) (x : Superv) : (State.setSup x s).arb = s.arb := rfl
@[simp] theorem State.setSup_she (s : State) (x : Superv) : (State.setSup x s).she = s.she := rfl
@[simp] theorem State.setSup_eth (s : State) (x : Superv) : (State.setSup x s).eth = s.eth := rfl
@[simp] theorem State.setSup_stn (s : State) (x : Superv) : (State.setSup x s).stn = s.stn := rfl
@[simp] theorem State.setSup_cans (s : State) (x : Superv) : (State.setSup x s).cans = s.cans := rfl
@[simp] theorem State.setSup_dio (s : State) (x : Superv) : (State.setSup x s).dio = s.dio := rfl
@[simp] theorem State.setSup_alp (s : State) (x : Superv) : (State.setSup x s).alp = s.alp := rfl
@[simp] theorem State.setSup_sto (s : State) (x : Superv) : (State.setSup x s).sto = s.sto := rfl
@[simp] theorem State.setSup_brb (s : State) (x : Superv) : (State.setSup x s).brb = s.brb := rfl
@[simp] theorem State.setSup_sec (s : State) (x : Superv) : (State.setSup x s).sec = s.sec := rfl

/-! ### setFuses -/
@[simp] theorem State.setFuses_pending (s : State) (x : Fuses) : (State.setFuses x s).pending = s.pending := rfl
@[simp] theorem State.setFuses_rsp (s : State) (x : Fuses) : (State.setFuses x s).rsp = s.rsp := rfl
@[simp] theorem State.setFuses_free (s : State) (x : Fuses) : (State.setFuses x s).free = s.free := rfl
@[simp] theorem State.setFuses_mem (s : State) (x : Fuses) : (State.setFuses x s).mem = s.mem := rfl
@[simp] theorem State.setFuses_poison (s : State) (x : Fuses) : (State.setFuses x s).poison = s.poison := rfl
@[simp] theorem State.setFuses_ecc (s : State) (x : Fuses) : (State.setFuses x s).ecc = s.ecc := rfl
@[simp] theorem State.setFuses_regs (s : State) (x : Fuses) : (State.setFuses x s).regs = s.regs := rfl
@[simp] theorem State.setFuses_pins (s : State) (x : Fuses) : (State.setFuses x s).pins = s.pins := rfl
@[simp] theorem State.setFuses_pwr (s : State) (x : Fuses) : (State.setFuses x s).pwr = s.pwr := rfl
@[simp] theorem State.setFuses_clk (s : State) (x : Fuses) : (State.setFuses x s).clk = s.clk := rfl
@[simp] theorem State.setFuses_tb (s : State) (x : Fuses) : (State.setFuses x s).tb = s.tb := rfl
@[simp] theorem State.setFuses_triads (s : State) (x : Fuses) : (State.setFuses x s).triads = s.triads := rfl
@[simp] theorem State.setFuses_engs (s : State) (x : Fuses) : (State.setFuses x s).engs = s.engs := rfl
@[simp] theorem State.setFuses_parts (s : State) (x : Fuses) : (State.setFuses x s).parts = s.parts := rfl
@[simp] theorem State.setFuses_sch (s : State) (x : Fuses) : (State.setFuses x s).sch = s.sch := rfl
@[simp] theorem State.setFuses_arb (s : State) (x : Fuses) : (State.setFuses x s).arb = s.arb := rfl
@[simp] theorem State.setFuses_she (s : State) (x : Fuses) : (State.setFuses x s).she = s.she := rfl
@[simp] theorem State.setFuses_eth (s : State) (x : Fuses) : (State.setFuses x s).eth = s.eth := rfl
@[simp] theorem State.setFuses_stn (s : State) (x : Fuses) : (State.setFuses x s).stn = s.stn := rfl
@[simp] theorem State.setFuses_cans (s : State) (x : Fuses) : (State.setFuses x s).cans = s.cans := rfl
@[simp] theorem State.setFuses_dio (s : State) (x : Fuses) : (State.setFuses x s).dio = s.dio := rfl
@[simp] theorem State.setFuses_alp (s : State) (x : Fuses) : (State.setFuses x s).alp = s.alp := rfl
@[simp] theorem State.setFuses_sto (s : State) (x : Fuses) : (State.setFuses x s).sto = s.sto := rfl
@[simp] theorem State.setFuses_brb (s : State) (x : Fuses) : (State.setFuses x s).brb = s.brb := rfl
@[simp] theorem State.setFuses_sec (s : State) (x : Fuses) : (State.setFuses x s).sec = s.sec := rfl
@[simp] theorem State.setFuses_sup (s : State) (x : Fuses) : (State.setFuses x s).sup = s.sup := rfl

/-! ### setStn -/
@[simp] theorem State.setStn_pending (s : State) (x : Station) : (State.setStn x s).pending = s.pending := rfl
@[simp] theorem State.setStn_rsp (s : State) (x : Station) : (State.setStn x s).rsp = s.rsp := rfl
@[simp] theorem State.setStn_free (s : State) (x : Station) : (State.setStn x s).free = s.free := rfl
@[simp] theorem State.setStn_mem (s : State) (x : Station) : (State.setStn x s).mem = s.mem := rfl
@[simp] theorem State.setStn_poison (s : State) (x : Station) : (State.setStn x s).poison = s.poison := rfl
@[simp] theorem State.setStn_ecc (s : State) (x : Station) : (State.setStn x s).ecc = s.ecc := rfl
@[simp] theorem State.setStn_regs (s : State) (x : Station) : (State.setStn x s).regs = s.regs := rfl
@[simp] theorem State.setStn_pins (s : State) (x : Station) : (State.setStn x s).pins = s.pins := rfl
@[simp] theorem State.setStn_pwr (s : State) (x : Station) : (State.setStn x s).pwr = s.pwr := rfl
@[simp] theorem State.setStn_fuses (s : State) (x : Station) : (State.setStn x s).fuses = s.fuses := rfl
@[simp] theorem State.setStn_clk (s : State) (x : Station) : (State.setStn x s).clk = s.clk := rfl
@[simp] theorem State.setStn_tb (s : State) (x : Station) : (State.setStn x s).tb = s.tb := rfl
@[simp] theorem State.setStn_triads (s : State) (x : Station) : (State.setStn x s).triads = s.triads := rfl
@[simp] theorem State.setStn_engs (s : State) (x : Station) : (State.setStn x s).engs = s.engs := rfl
@[simp] theorem State.setStn_parts (s : State) (x : Station) : (State.setStn x s).parts = s.parts := rfl
@[simp] theorem State.setStn_sch (s : State) (x : Station) : (State.setStn x s).sch = s.sch := rfl
@[simp] theorem State.setStn_arb (s : State) (x : Station) : (State.setStn x s).arb = s.arb := rfl
@[simp] theorem State.setStn_she (s : State) (x : Station) : (State.setStn x s).she = s.she := rfl
@[simp] theorem State.setStn_eth (s : State) (x : Station) : (State.setStn x s).eth = s.eth := rfl
@[simp] theorem State.setStn_cans (s : State) (x : Station) : (State.setStn x s).cans = s.cans := rfl
@[simp] theorem State.setStn_dio (s : State) (x : Station) : (State.setStn x s).dio = s.dio := rfl
@[simp] theorem State.setStn_alp (s : State) (x : Station) : (State.setStn x s).alp = s.alp := rfl
@[simp] theorem State.setStn_sto (s : State) (x : Station) : (State.setStn x s).sto = s.sto := rfl
@[simp] theorem State.setStn_brb (s : State) (x : Station) : (State.setStn x s).brb = s.brb := rfl
@[simp] theorem State.setStn_sec (s : State) (x : Station) : (State.setStn x s).sec = s.sec := rfl
@[simp] theorem State.setStn_sup (s : State) (x : Station) : (State.setStn x s).sup = s.sup := rfl

/-! ### setTarget -/
@[simp] theorem State.setTarget_pending (s : State) (t : Nat) (x : Target) : (State.setTarget t x s).pending = s.pending := rfl
@[simp] theorem State.setTarget_rsp (s : State) (t : Nat) (x : Target) : (State.setTarget t x s).rsp = s.rsp := rfl
@[simp] theorem State.setTarget_free (s : State) (t : Nat) (x : Target) : (State.setTarget t x s).free = s.free := rfl
@[simp] theorem State.setTarget_mem (s : State) (t : Nat) (x : Target) : (State.setTarget t x s).mem = s.mem := rfl
@[simp] theorem State.setTarget_poison (s : State) (t : Nat) (x : Target) : (State.setTarget t x s).poison = s.poison := rfl
@[simp] theorem State.setTarget_ecc (s : State) (t : Nat) (x : Target) : (State.setTarget t x s).ecc = s.ecc := rfl
@[simp] theorem State.setTarget_regs (s : State) (t : Nat) (x : Target) : (State.setTarget t x s).regs = s.regs := rfl
@[simp] theorem State.setTarget_pins (s : State) (t : Nat) (x : Target) : (State.setTarget t x s).pins = s.pins := rfl
@[simp] theorem State.setTarget_pwr (s : State) (t : Nat) (x : Target) : (State.setTarget t x s).pwr = s.pwr := rfl
@[simp] theorem State.setTarget_fuses (s : State) (t : Nat) (x : Target) : (State.setTarget t x s).fuses = s.fuses := rfl
@[simp] theorem State.setTarget_clk (s : State) (t : Nat) (x : Target) : (State.setTarget t x s).clk = s.clk := rfl
@[simp] theorem State.setTarget_tb (s : State) (t : Nat) (x : Target) : (State.setTarget t x s).tb = s.tb := rfl
@[simp] theorem State.setTarget_triads (s : State) (t : Nat) (x : Target) : (State.setTarget t x s).triads = s.triads := rfl
@[simp] theorem State.setTarget_engs (s : State) (t : Nat) (x : Target) : (State.setTarget t x s).engs = s.engs := rfl
@[simp] theorem State.setTarget_parts (s : State) (t : Nat) (x : Target) : (State.setTarget t x s).parts = s.parts := rfl
@[simp] theorem State.setTarget_sch (s : State) (t : Nat) (x : Target) : (State.setTarget t x s).sch = s.sch := rfl
@[simp] theorem State.setTarget_she (s : State) (t : Nat) (x : Target) : (State.setTarget t x s).she = s.she := rfl
@[simp] theorem State.setTarget_eth (s : State) (t : Nat) (x : Target) : (State.setTarget t x s).eth = s.eth := rfl
@[simp] theorem State.setTarget_stn (s : State) (t : Nat) (x : Target) : (State.setTarget t x s).stn = s.stn := rfl
@[simp] theorem State.setTarget_cans (s : State) (t : Nat) (x : Target) : (State.setTarget t x s).cans = s.cans := rfl
@[simp] theorem State.setTarget_dio (s : State) (t : Nat) (x : Target) : (State.setTarget t x s).dio = s.dio := rfl
@[simp] theorem State.setTarget_alp (s : State) (t : Nat) (x : Target) : (State.setTarget t x s).alp = s.alp := rfl
@[simp] theorem State.setTarget_sto (s : State) (t : Nat) (x : Target) : (State.setTarget t x s).sto = s.sto := rfl
@[simp] theorem State.setTarget_brb (s : State) (t : Nat) (x : Target) : (State.setTarget t x s).brb = s.brb := rfl
@[simp] theorem State.setTarget_sec (s : State) (t : Nat) (x : Target) : (State.setTarget t x s).sec = s.sec := rfl
@[simp] theorem State.setTarget_sup (s : State) (t : Nat) (x : Target) : (State.setTarget t x s).sup = s.sup := rfl

/-! ### What the table updates set -/
@[simp] theorem State.setTriad_triad (s : State) (t u : Nat) (x : Triad) : (State.setTriad t x s).triad u = if u = t then x else s.triad u := by
  simp [State.setTriad, State.triad, Tab.get_set]
@[simp] theorem State.setEng_eng (s : State) (t u : Nat) (x : Engine) : (State.setEng t x s).eng u = if u = t then x else s.eng u := by
  simp [State.setEng, State.eng, Tab.get_set]
@[simp] theorem State.setPart_part (s : State) (t u : Nat) (x : Partn) : (State.setPart t x s).part u = if u = t then x else s.part u := by
  simp [State.setPart, State.part, Tab.get_set]
@[simp] theorem State.setCan_can (s : State) (t u : Nat) (x : Can) : (State.setCan t x s).can u = if u = t then x else s.can u := by
  simp [State.setCan, State.can, Tab.get_set]
@[simp] theorem State.setDi_di (s : State) (t u : Nat) (x : Di) : (State.setDi t x s).di u = if u = t then x else s.di u := by
  simp [State.setDi, State.di, Tab.get_set]
@[simp] theorem State.setDout_dout (s : State) (t u : Nat) (x : Do) : (State.setDout t x s).dout u = if u = t then x else s.dout u := by
  simp [State.setDout, State.dout, Tab.get_set]
@[simp] theorem State.setLoop_loop (s : State) (t u : Nat) (x : Loop) : (State.setLoop t x s).loop u = if u = t then x else s.loop u := by
  simp [State.setLoop, State.loop, Tab.get_set]
@[simp] theorem State.setLink_link (s : State) (t u : Nat) (x : SLink) : (State.setLink t x s).link u = if u = t then x else s.link u := by
  simp [State.setLink, State.link, Tab.get_set]
@[simp] theorem State.setStream_stream (s : State) (t u : Nat) (x : Stream) : (State.setStream t x s).stream u = if u = t then x else s.stream u := by
  simp [State.setStream, State.stream, Tab.get_set]
@[simp] theorem State.setPair_pair (s : State) (t u : Nat) (x : Pair) : (State.setPair t x s).pair u = if u = t then x else s.pair u := by
  simp [State.setPair, State.pair, Tab.get_set]
@[simp] theorem State.setTarget_target (s : State) (t u : Nat) (x : Target) : (State.setTarget t x s).target u = if u = t then x else s.target u := by
  simp [State.setTarget, State.target, Tab.get_set]
@[simp] theorem State.setByte_byte (s : State) (t u : Nat) (x : Byte) : (State.setByte t x s).byte u = if u = t then x else s.byte u := by
  simp [State.setByte, State.byte, Tab.get_set]

/-! ### Tables that an update leaves alone -/
@[simp] theorem State.answer_triad_id (s : State) (st : Status) (v : Word) (u : Nat) : (State.answer st v s).triad u = s.triad u := rfl
@[simp] theorem State.answer_eng_id (s : State) (st : Status) (v : Word) (u : Nat) : (State.answer st v s).eng u = s.eng u := rfl
@[simp] theorem State.answer_part_id (s : State) (st : Status) (v : Word) (u : Nat) : (State.answer st v s).part u = s.part u := rfl
@[simp] theorem State.answer_can_id (s : State) (st : Status) (v : Word) (u : Nat) : (State.answer st v s).can u = s.can u := rfl
@[simp] theorem State.answer_di_id (s : State) (st : Status) (v : Word) (u : Nat) : (State.answer st v s).di u = s.di u := rfl
@[simp] theorem State.answer_dout_id (s : State) (st : Status) (v : Word) (u : Nat) : (State.answer st v s).dout u = s.dout u := rfl
@[simp] theorem State.answer_loop_id (s : State) (st : Status) (v : Word) (u : Nat) : (State.answer st v s).loop u = s.loop u := rfl
@[simp] theorem State.answer_link_id (s : State) (st : Status) (v : Word) (u : Nat) : (State.answer st v s).link u = s.link u := rfl
@[simp] theorem State.answer_stream_id (s : State) (st : Status) (v : Word) (u : Nat) : (State.answer st v s).stream u = s.stream u := rfl
@[simp] theorem State.answer_pair_id (s : State) (st : Status) (v : Word) (u : Nat) : (State.answer st v s).pair u = s.pair u := rfl
@[simp] theorem State.answer_target_id (s : State) (st : Status) (v : Word) (u : Nat) : (State.answer st v s).target u = s.target u := rfl
@[simp] theorem State.answer_byte_id (s : State) (st : Status) (v : Word) (u : Nat) : (State.answer st v s).byte u = s.byte u := rfl
@[simp] theorem State.answer_rd (s : State) (st : Status) (v : Word) (q : Reg) (i1 j1 : Nat) : (State.answer st v s).rd q i1 j1 = s.rd q i1 j1 := rfl
@[simp] theorem State.answer_rdA (s : State) (st : Status) (v : Word) (q : Reg) (i1 j1 : Nat) : (State.answer st v s).rdA q i1 j1 = s.rdA q i1 j1 := rfl
@[simp] theorem State.answer_rdB (s : State) (st : Status) (v : Word) (b1 : Nat) (q : Reg) (i1 : Nat) : (State.answer st v s).rdB b1 q i1 = s.rdB b1 q i1 := rfl
@[simp] theorem State.reply_triad_id (s : State) (st : Status) (u : Nat) : (State.reply st s).triad u = s.triad u := rfl
@[simp] theorem State.reply_eng_id (s : State) (st : Status) (u : Nat) : (State.reply st s).eng u = s.eng u := rfl
@[simp] theorem State.reply_part_id (s : State) (st : Status) (u : Nat) : (State.reply st s).part u = s.part u := rfl
@[simp] theorem State.reply_can_id (s : State) (st : Status) (u : Nat) : (State.reply st s).can u = s.can u := rfl
@[simp] theorem State.reply_di_id (s : State) (st : Status) (u : Nat) : (State.reply st s).di u = s.di u := rfl
@[simp] theorem State.reply_dout_id (s : State) (st : Status) (u : Nat) : (State.reply st s).dout u = s.dout u := rfl
@[simp] theorem State.reply_loop_id (s : State) (st : Status) (u : Nat) : (State.reply st s).loop u = s.loop u := rfl
@[simp] theorem State.reply_link_id (s : State) (st : Status) (u : Nat) : (State.reply st s).link u = s.link u := rfl
@[simp] theorem State.reply_stream_id (s : State) (st : Status) (u : Nat) : (State.reply st s).stream u = s.stream u := rfl
@[simp] theorem State.reply_pair_id (s : State) (st : Status) (u : Nat) : (State.reply st s).pair u = s.pair u := rfl
@[simp] theorem State.reply_target_id (s : State) (st : Status) (u : Nat) : (State.reply st s).target u = s.target u := rfl
@[simp] theorem State.reply_byte_id (s : State) (st : Status) (u : Nat) : (State.reply st s).byte u = s.byte u := rfl
@[simp] theorem State.reply_rd (s : State) (st : Status) (q : Reg) (i1 j1 : Nat) : (State.reply st s).rd q i1 j1 = s.rd q i1 j1 := rfl
@[simp] theorem State.reply_rdA (s : State) (st : Status) (q : Reg) (i1 j1 : Nat) : (State.reply st s).rdA q i1 j1 = s.rdA q i1 j1 := rfl
@[simp] theorem State.reply_rdB (s : State) (st : Status) (b1 : Nat) (q : Reg) (i1 : Nat) : (State.reply st s).rdB b1 q i1 = s.rdB b1 q i1 := rfl
@[simp] theorem State.spend_triad_id (s : State) (u : Nat) : (State.spend s).triad u = s.triad u := rfl
@[simp] theorem State.spend_eng_id (s : State) (u : Nat) : (State.spend s).eng u = s.eng u := rfl
@[simp] theorem State.spend_part_id (s : State) (u : Nat) : (State.spend s).part u = s.part u := rfl
@[simp] theorem State.spend_can_id (s : State) (u : Nat) : (State.spend s).can u = s.can u := rfl
@[simp] theorem State.spend_di_id (s : State) (u : Nat) : (State.spend s).di u = s.di u := rfl
@[simp] theorem State.spend_dout_id (s : State) (u : Nat) : (State.spend s).dout u = s.dout u := rfl
@[simp] theorem State.spend_loop_id (s : State) (u : Nat) : (State.spend s).loop u = s.loop u := rfl
@[simp] theorem State.spend_link_id (s : State) (u : Nat) : (State.spend s).link u = s.link u := rfl
@[simp] theorem State.spend_stream_id (s : State) (u : Nat) : (State.spend s).stream u = s.stream u := rfl
@[simp] theorem State.spend_pair_id (s : State) (u : Nat) : (State.spend s).pair u = s.pair u := rfl
@[simp] theorem State.spend_target_id (s : State) (u : Nat) : (State.spend s).target u = s.target u := rfl
@[simp] theorem State.spend_byte_id (s : State) (u : Nat) : (State.spend s).byte u = s.byte u := rfl
@[simp] theorem State.spend_rd (s : State) (q : Reg) (i1 j1 : Nat) : (State.spend s).rd q i1 j1 = s.rd q i1 j1 := rfl
@[simp] theorem State.spend_rdA (s : State) (q : Reg) (i1 j1 : Nat) : (State.spend s).rdA q i1 j1 = s.rdA q i1 j1 := rfl
@[simp] theorem State.spend_rdB (s : State) (b1 : Nat) (q : Reg) (i1 : Nat) : (State.spend s).rdB b1 q i1 = s.rdB b1 q i1 := rfl
@[simp] theorem State.wr_triad_id (s : State) (r : Reg) (v : Word) (i j : Nat) (u : Nat) : (State.wr r v s i j).triad u = s.triad u := rfl
@[simp] theorem State.wr_eng_id (s : State) (r : Reg) (v : Word) (i j : Nat) (u : Nat) : (State.wr r v s i j).eng u = s.eng u := rfl
@[simp] theorem State.wr_part_id (s : State) (r : Reg) (v : Word) (i j : Nat) (u : Nat) : (State.wr r v s i j).part u = s.part u := rfl
@[simp] theorem State.wr_can_id (s : State) (r : Reg) (v : Word) (i j : Nat) (u : Nat) : (State.wr r v s i j).can u = s.can u := rfl
@[simp] theorem State.wr_di_id (s : State) (r : Reg) (v : Word) (i j : Nat) (u : Nat) : (State.wr r v s i j).di u = s.di u := rfl
@[simp] theorem State.wr_dout_id (s : State) (r : Reg) (v : Word) (i j : Nat) (u : Nat) : (State.wr r v s i j).dout u = s.dout u := rfl
@[simp] theorem State.wr_loop_id (s : State) (r : Reg) (v : Word) (i j : Nat) (u : Nat) : (State.wr r v s i j).loop u = s.loop u := rfl
@[simp] theorem State.wr_link_id (s : State) (r : Reg) (v : Word) (i j : Nat) (u : Nat) : (State.wr r v s i j).link u = s.link u := rfl
@[simp] theorem State.wr_stream_id (s : State) (r : Reg) (v : Word) (i j : Nat) (u : Nat) : (State.wr r v s i j).stream u = s.stream u := rfl
@[simp] theorem State.wr_pair_id (s : State) (r : Reg) (v : Word) (i j : Nat) (u : Nat) : (State.wr r v s i j).pair u = s.pair u := rfl
@[simp] theorem State.wr_target_id (s : State) (r : Reg) (v : Word) (i j : Nat) (u : Nat) : (State.wr r v s i j).target u = s.target u := rfl
@[simp] theorem State.wr_byte_id (s : State) (r : Reg) (v : Word) (i j : Nat) (u : Nat) : (State.wr r v s i j).byte u = s.byte u := rfl
@[simp] theorem State.wrA_triad_id (s : State) (r : Reg) (v : Word) (i j : Nat) (u : Nat) : (State.wrA r v s i j).triad u = s.triad u := rfl
@[simp] theorem State.wrA_eng_id (s : State) (r : Reg) (v : Word) (i j : Nat) (u : Nat) : (State.wrA r v s i j).eng u = s.eng u := rfl
@[simp] theorem State.wrA_part_id (s : State) (r : Reg) (v : Word) (i j : Nat) (u : Nat) : (State.wrA r v s i j).part u = s.part u := rfl
@[simp] theorem State.wrA_can_id (s : State) (r : Reg) (v : Word) (i j : Nat) (u : Nat) : (State.wrA r v s i j).can u = s.can u := rfl
@[simp] theorem State.wrA_di_id (s : State) (r : Reg) (v : Word) (i j : Nat) (u : Nat) : (State.wrA r v s i j).di u = s.di u := rfl
@[simp] theorem State.wrA_dout_id (s : State) (r : Reg) (v : Word) (i j : Nat) (u : Nat) : (State.wrA r v s i j).dout u = s.dout u := rfl
@[simp] theorem State.wrA_loop_id (s : State) (r : Reg) (v : Word) (i j : Nat) (u : Nat) : (State.wrA r v s i j).loop u = s.loop u := rfl
@[simp] theorem State.wrA_link_id (s : State) (r : Reg) (v : Word) (i j : Nat) (u : Nat) : (State.wrA r v s i j).link u = s.link u := rfl
@[simp] theorem State.wrA_stream_id (s : State) (r : Reg) (v : Word) (i j : Nat) (u : Nat) : (State.wrA r v s i j).stream u = s.stream u := rfl
@[simp] theorem State.wrA_pair_id (s : State) (r : Reg) (v : Word) (i j : Nat) (u : Nat) : (State.wrA r v s i j).pair u = s.pair u := rfl
@[simp] theorem State.wrA_target_id (s : State) (r : Reg) (v : Word) (i j : Nat) (u : Nat) : (State.wrA r v s i j).target u = s.target u := rfl
@[simp] theorem State.wrA_byte_id (s : State) (r : Reg) (v : Word) (i j : Nat) (u : Nat) : (State.wrA r v s i j).byte u = s.byte u := rfl
@[simp] theorem State.swap_triad_id (s : State) (r : Reg) (i j : Nat) (u : Nat) : (State.swap r s i j).triad u = s.triad u := rfl
@[simp] theorem State.swap_eng_id (s : State) (r : Reg) (i j : Nat) (u : Nat) : (State.swap r s i j).eng u = s.eng u := rfl
@[simp] theorem State.swap_part_id (s : State) (r : Reg) (i j : Nat) (u : Nat) : (State.swap r s i j).part u = s.part u := rfl
@[simp] theorem State.swap_can_id (s : State) (r : Reg) (i j : Nat) (u : Nat) : (State.swap r s i j).can u = s.can u := rfl
@[simp] theorem State.swap_di_id (s : State) (r : Reg) (i j : Nat) (u : Nat) : (State.swap r s i j).di u = s.di u := rfl
@[simp] theorem State.swap_dout_id (s : State) (r : Reg) (i j : Nat) (u : Nat) : (State.swap r s i j).dout u = s.dout u := rfl
@[simp] theorem State.swap_loop_id (s : State) (r : Reg) (i j : Nat) (u : Nat) : (State.swap r s i j).loop u = s.loop u := rfl
@[simp] theorem State.swap_link_id (s : State) (r : Reg) (i j : Nat) (u : Nat) : (State.swap r s i j).link u = s.link u := rfl
@[simp] theorem State.swap_stream_id (s : State) (r : Reg) (i j : Nat) (u : Nat) : (State.swap r s i j).stream u = s.stream u := rfl
@[simp] theorem State.swap_pair_id (s : State) (r : Reg) (i j : Nat) (u : Nat) : (State.swap r s i j).pair u = s.pair u := rfl
@[simp] theorem State.swap_target_id (s : State) (r : Reg) (i j : Nat) (u : Nat) : (State.swap r s i j).target u = s.target u := rfl
@[simp] theorem State.swap_byte_id (s : State) (r : Reg) (i j : Nat) (u : Nat) : (State.swap r s i j).byte u = s.byte u := rfl
@[simp] theorem State.swapAll_triad_id (s : State) (p : Nat → Bool) (off : Nat) (u : Nat) : (State.swapAll p off s).triad u = s.triad u := rfl
@[simp] theorem State.swapAll_eng_id (s : State) (p : Nat → Bool) (off : Nat) (u : Nat) : (State.swapAll p off s).eng u = s.eng u := rfl
@[simp] theorem State.swapAll_part_id (s : State) (p : Nat → Bool) (off : Nat) (u : Nat) : (State.swapAll p off s).part u = s.part u := rfl
@[simp] theorem State.swapAll_can_id (s : State) (p : Nat → Bool) (off : Nat) (u : Nat) : (State.swapAll p off s).can u = s.can u := rfl
@[simp] theorem State.swapAll_di_id (s : State) (p : Nat → Bool) (off : Nat) (u : Nat) : (State.swapAll p off s).di u = s.di u := rfl
@[simp] theorem State.swapAll_dout_id (s : State) (p : Nat → Bool) (off : Nat) (u : Nat) : (State.swapAll p off s).dout u = s.dout u := rfl
@[simp] theorem State.swapAll_loop_id (s : State) (p : Nat → Bool) (off : Nat) (u : Nat) : (State.swapAll p off s).loop u = s.loop u := rfl
@[simp] theorem State.swapAll_link_id (s : State) (p : Nat → Bool) (off : Nat) (u : Nat) : (State.swapAll p off s).link u = s.link u := rfl
@[simp] theorem State.swapAll_stream_id (s : State) (p : Nat → Bool) (off : Nat) (u : Nat) : (State.swapAll p off s).stream u = s.stream u := rfl
@[simp] theorem State.swapAll_pair_id (s : State) (p : Nat → Bool) (off : Nat) (u : Nat) : (State.swapAll p off s).pair u = s.pair u := rfl
@[simp] theorem State.swapAll_target_id (s : State) (p : Nat → Bool) (off : Nat) (u : Nat) : (State.swapAll p off s).target u = s.target u := rfl
@[simp] theorem State.swapAll_byte_id (s : State) (p : Nat → Bool) (off : Nat) (u : Nat) : (State.swapAll p off s).byte u = s.byte u := rfl
@[simp] theorem State.wrB_triad_id (s : State) (b : Nat) (r : Reg) (v : Word) (i : Nat) (u : Nat) : (State.wrB b r v s i).triad u = s.triad u := rfl
@[simp] theorem State.wrB_eng_id (s : State) (b : Nat) (r : Reg) (v : Word) (i : Nat) (u : Nat) : (State.wrB b r v s i).eng u = s.eng u := rfl
@[simp] theorem State.wrB_part_id (s : State) (b : Nat) (r : Reg) (v : Word) (i : Nat) (u : Nat) : (State.wrB b r v s i).part u = s.part u := rfl
@[simp] theorem State.wrB_can_id (s : State) (b : Nat) (r : Reg) (v : Word) (i : Nat) (u : Nat) : (State.wrB b r v s i).can u = s.can u := rfl
@[simp] theorem State.wrB_di_id (s : State) (b : Nat) (r : Reg) (v : Word) (i : Nat) (u : Nat) : (State.wrB b r v s i).di u = s.di u := rfl
@[simp] theorem State.wrB_dout_id (s : State) (b : Nat) (r : Reg) (v : Word) (i : Nat) (u : Nat) : (State.wrB b r v s i).dout u = s.dout u := rfl
@[simp] theorem State.wrB_loop_id (s : State) (b : Nat) (r : Reg) (v : Word) (i : Nat) (u : Nat) : (State.wrB b r v s i).loop u = s.loop u := rfl
@[simp] theorem State.wrB_link_id (s : State) (b : Nat) (r : Reg) (v : Word) (i : Nat) (u : Nat) : (State.wrB b r v s i).link u = s.link u := rfl
@[simp] theorem State.wrB_stream_id (s : State) (b : Nat) (r : Reg) (v : Word) (i : Nat) (u : Nat) : (State.wrB b r v s i).stream u = s.stream u := rfl
@[simp] theorem State.wrB_pair_id (s : State) (b : Nat) (r : Reg) (v : Word) (i : Nat) (u : Nat) : (State.wrB b r v s i).pair u = s.pair u := rfl
@[simp] theorem State.wrB_target_id (s : State) (b : Nat) (r : Reg) (v : Word) (i : Nat) (u : Nat) : (State.wrB b r v s i).target u = s.target u := rfl
@[simp] theorem State.wrB_byte_id (s : State) (b : Nat) (r : Reg) (v : Word) (i : Nat) (u : Nat) : (State.wrB b r v s i).byte u = s.byte u := rfl
@[simp] theorem State.wrBA_triad_id (s : State) (b : Nat) (r : Reg) (v : Word) (i : Nat) (u : Nat) : (State.wrBA b r v s i).triad u = s.triad u := rfl
@[simp] theorem State.wrBA_eng_id (s : State) (b : Nat) (r : Reg) (v : Word) (i : Nat) (u : Nat) : (State.wrBA b r v s i).eng u = s.eng u := rfl
@[simp] theorem State.wrBA_part_id (s : State) (b : Nat) (r : Reg) (v : Word) (i : Nat) (u : Nat) : (State.wrBA b r v s i).part u = s.part u := rfl
@[simp] theorem State.wrBA_can_id (s : State) (b : Nat) (r : Reg) (v : Word) (i : Nat) (u : Nat) : (State.wrBA b r v s i).can u = s.can u := rfl
@[simp] theorem State.wrBA_di_id (s : State) (b : Nat) (r : Reg) (v : Word) (i : Nat) (u : Nat) : (State.wrBA b r v s i).di u = s.di u := rfl
@[simp] theorem State.wrBA_dout_id (s : State) (b : Nat) (r : Reg) (v : Word) (i : Nat) (u : Nat) : (State.wrBA b r v s i).dout u = s.dout u := rfl
@[simp] theorem State.wrBA_loop_id (s : State) (b : Nat) (r : Reg) (v : Word) (i : Nat) (u : Nat) : (State.wrBA b r v s i).loop u = s.loop u := rfl
@[simp] theorem State.wrBA_link_id (s : State) (b : Nat) (r : Reg) (v : Word) (i : Nat) (u : Nat) : (State.wrBA b r v s i).link u = s.link u := rfl
@[simp] theorem State.wrBA_stream_id (s : State) (b : Nat) (r : Reg) (v : Word) (i : Nat) (u : Nat) : (State.wrBA b r v s i).stream u = s.stream u := rfl
@[simp] theorem State.wrBA_pair_id (s : State) (b : Nat) (r : Reg) (v : Word) (i : Nat) (u : Nat) : (State.wrBA b r v s i).pair u = s.pair u := rfl
@[simp] theorem State.wrBA_target_id (s : State) (b : Nat) (r : Reg) (v : Word) (i : Nat) (u : Nat) : (State.wrBA b r v s i).target u = s.target u := rfl
@[simp] theorem State.wrBA_byte_id (s : State) (b : Nat) (r : Reg) (v : Word) (i : Nat) (u : Nat) : (State.wrBA b r v s i).byte u = s.byte u := rfl
@[simp] theorem State.setBits_triad_id (s : State) (r : Reg) (m : Word) (i j : Nat) (u : Nat) : (State.setBits r m s i j).triad u = s.triad u := rfl
@[simp] theorem State.setBits_eng_id (s : State) (r : Reg) (m : Word) (i j : Nat) (u : Nat) : (State.setBits r m s i j).eng u = s.eng u := rfl
@[simp] theorem State.setBits_part_id (s : State) (r : Reg) (m : Word) (i j : Nat) (u : Nat) : (State.setBits r m s i j).part u = s.part u := rfl
@[simp] theorem State.setBits_can_id (s : State) (r : Reg) (m : Word) (i j : Nat) (u : Nat) : (State.setBits r m s i j).can u = s.can u := rfl
@[simp] theorem State.setBits_di_id (s : State) (r : Reg) (m : Word) (i j : Nat) (u : Nat) : (State.setBits r m s i j).di u = s.di u := rfl
@[simp] theorem State.setBits_dout_id (s : State) (r : Reg) (m : Word) (i j : Nat) (u : Nat) : (State.setBits r m s i j).dout u = s.dout u := rfl
@[simp] theorem State.setBits_loop_id (s : State) (r : Reg) (m : Word) (i j : Nat) (u : Nat) : (State.setBits r m s i j).loop u = s.loop u := rfl
@[simp] theorem State.setBits_link_id (s : State) (r : Reg) (m : Word) (i j : Nat) (u : Nat) : (State.setBits r m s i j).link u = s.link u := rfl
@[simp] theorem State.setBits_stream_id (s : State) (r : Reg) (m : Word) (i j : Nat) (u : Nat) : (State.setBits r m s i j).stream u = s.stream u := rfl
@[simp] theorem State.setBits_pair_id (s : State) (r : Reg) (m : Word) (i j : Nat) (u : Nat) : (State.setBits r m s i j).pair u = s.pair u := rfl
@[simp] theorem State.setBits_target_id (s : State) (r : Reg) (m : Word) (i j : Nat) (u : Nat) : (State.setBits r m s i j).target u = s.target u := rfl
@[simp] theorem State.setBits_byte_id (s : State) (r : Reg) (m : Word) (i j : Nat) (u : Nat) : (State.setBits r m s i j).byte u = s.byte u := rfl
@[simp] theorem State.clrBits_triad_id (s : State) (r : Reg) (m : Word) (i j : Nat) (u : Nat) : (State.clrBits r m s i j).triad u = s.triad u := rfl
@[simp] theorem State.clrBits_eng_id (s : State) (r : Reg) (m : Word) (i j : Nat) (u : Nat) : (State.clrBits r m s i j).eng u = s.eng u := rfl
@[simp] theorem State.clrBits_part_id (s : State) (r : Reg) (m : Word) (i j : Nat) (u : Nat) : (State.clrBits r m s i j).part u = s.part u := rfl
@[simp] theorem State.clrBits_can_id (s : State) (r : Reg) (m : Word) (i j : Nat) (u : Nat) : (State.clrBits r m s i j).can u = s.can u := rfl
@[simp] theorem State.clrBits_di_id (s : State) (r : Reg) (m : Word) (i j : Nat) (u : Nat) : (State.clrBits r m s i j).di u = s.di u := rfl
@[simp] theorem State.clrBits_dout_id (s : State) (r : Reg) (m : Word) (i j : Nat) (u : Nat) : (State.clrBits r m s i j).dout u = s.dout u := rfl
@[simp] theorem State.clrBits_loop_id (s : State) (r : Reg) (m : Word) (i j : Nat) (u : Nat) : (State.clrBits r m s i j).loop u = s.loop u := rfl
@[simp] theorem State.clrBits_link_id (s : State) (r : Reg) (m : Word) (i j : Nat) (u : Nat) : (State.clrBits r m s i j).link u = s.link u := rfl
@[simp] theorem State.clrBits_stream_id (s : State) (r : Reg) (m : Word) (i j : Nat) (u : Nat) : (State.clrBits r m s i j).stream u = s.stream u := rfl
@[simp] theorem State.clrBits_pair_id (s : State) (r : Reg) (m : Word) (i j : Nat) (u : Nat) : (State.clrBits r m s i j).pair u = s.pair u := rfl
@[simp] theorem State.clrBits_target_id (s : State) (r : Reg) (m : Word) (i j : Nat) (u : Nat) : (State.clrBits r m s i j).target u = s.target u := rfl
@[simp] theorem State.clrBits_byte_id (s : State) (r : Reg) (m : Word) (i j : Nat) (u : Nat) : (State.clrBits r m s i j).byte u = s.byte u := rfl
@[simp] theorem State.put_triad_id (s : State) (r : Reg) (v : Word) (i j : Nat) (u : Nat) : (State.put r v s i j).triad u = s.triad u := rfl
@[simp] theorem State.put_eng_id (s : State) (r : Reg) (v : Word) (i j : Nat) (u : Nat) : (State.put r v s i j).eng u = s.eng u := rfl
@[simp] theorem State.put_part_id (s : State) (r : Reg) (v : Word) (i j : Nat) (u : Nat) : (State.put r v s i j).part u = s.part u := rfl
@[simp] theorem State.put_can_id (s : State) (r : Reg) (v : Word) (i j : Nat) (u : Nat) : (State.put r v s i j).can u = s.can u := rfl
@[simp] theorem State.put_di_id (s : State) (r : Reg) (v : Word) (i j : Nat) (u : Nat) : (State.put r v s i j).di u = s.di u := rfl
@[simp] theorem State.put_dout_id (s : State) (r : Reg) (v : Word) (i j : Nat) (u : Nat) : (State.put r v s i j).dout u = s.dout u := rfl
@[simp] theorem State.put_loop_id (s : State) (r : Reg) (v : Word) (i j : Nat) (u : Nat) : (State.put r v s i j).loop u = s.loop u := rfl
@[simp] theorem State.put_link_id (s : State) (r : Reg) (v : Word) (i j : Nat) (u : Nat) : (State.put r v s i j).link u = s.link u := rfl
@[simp] theorem State.put_stream_id (s : State) (r : Reg) (v : Word) (i j : Nat) (u : Nat) : (State.put r v s i j).stream u = s.stream u := rfl
@[simp] theorem State.put_pair_id (s : State) (r : Reg) (v : Word) (i j : Nat) (u : Nat) : (State.put r v s i j).pair u = s.pair u := rfl
@[simp] theorem State.put_target_id (s : State) (r : Reg) (v : Word) (i j : Nat) (u : Nat) : (State.put r v s i j).target u = s.target u := rfl
@[simp] theorem State.put_byte_id (s : State) (r : Reg) (v : Word) (i j : Nat) (u : Nat) : (State.put r v s i j).byte u = s.byte u := rfl
@[simp] theorem State.count_triad_id (s : State) (r : Reg) (n i j : Nat) (u : Nat) : (State.count r n s i j).triad u = s.triad u := rfl
@[simp] theorem State.count_eng_id (s : State) (r : Reg) (n i j : Nat) (u : Nat) : (State.count r n s i j).eng u = s.eng u := rfl
@[simp] theorem State.count_part_id (s : State) (r : Reg) (n i j : Nat) (u : Nat) : (State.count r n s i j).part u = s.part u := rfl
@[simp] theorem State.count_can_id (s : State) (r : Reg) (n i j : Nat) (u : Nat) : (State.count r n s i j).can u = s.can u := rfl
@[simp] theorem State.count_di_id (s : State) (r : Reg) (n i j : Nat) (u : Nat) : (State.count r n s i j).di u = s.di u := rfl
@[simp] theorem State.count_dout_id (s : State) (r : Reg) (n i j : Nat) (u : Nat) : (State.count r n s i j).dout u = s.dout u := rfl
@[simp] theorem State.count_loop_id (s : State) (r : Reg) (n i j : Nat) (u : Nat) : (State.count r n s i j).loop u = s.loop u := rfl
@[simp] theorem State.count_link_id (s : State) (r : Reg) (n i j : Nat) (u : Nat) : (State.count r n s i j).link u = s.link u := rfl
@[simp] theorem State.count_stream_id (s : State) (r : Reg) (n i j : Nat) (u : Nat) : (State.count r n s i j).stream u = s.stream u := rfl
@[simp] theorem State.count_pair_id (s : State) (r : Reg) (n i j : Nat) (u : Nat) : (State.count r n s i j).pair u = s.pair u := rfl
@[simp] theorem State.count_target_id (s : State) (r : Reg) (n i j : Nat) (u : Nat) : (State.count r n s i j).target u = s.target u := rfl
@[simp] theorem State.count_byte_id (s : State) (r : Reg) (n i j : Nat) (u : Nat) : (State.count r n s i j).byte u = s.byte u := rfl
@[simp] theorem State.count16_triad_id (s : State) (r : Reg) (lo i j : Nat) (u : Nat) : (State.count16 r lo s i j).triad u = s.triad u := rfl
@[simp] theorem State.count16_eng_id (s : State) (r : Reg) (lo i j : Nat) (u : Nat) : (State.count16 r lo s i j).eng u = s.eng u := rfl
@[simp] theorem State.count16_part_id (s : State) (r : Reg) (lo i j : Nat) (u : Nat) : (State.count16 r lo s i j).part u = s.part u := rfl
@[simp] theorem State.count16_can_id (s : State) (r : Reg) (lo i j : Nat) (u : Nat) : (State.count16 r lo s i j).can u = s.can u := rfl
@[simp] theorem State.count16_di_id (s : State) (r : Reg) (lo i j : Nat) (u : Nat) : (State.count16 r lo s i j).di u = s.di u := rfl
@[simp] theorem State.count16_dout_id (s : State) (r : Reg) (lo i j : Nat) (u : Nat) : (State.count16 r lo s i j).dout u = s.dout u := rfl
@[simp] theorem State.count16_loop_id (s : State) (r : Reg) (lo i j : Nat) (u : Nat) : (State.count16 r lo s i j).loop u = s.loop u := rfl
@[simp] theorem State.count16_link_id (s : State) (r : Reg) (lo i j : Nat) (u : Nat) : (State.count16 r lo s i j).link u = s.link u := rfl
@[simp] theorem State.count16_stream_id (s : State) (r : Reg) (lo i j : Nat) (u : Nat) : (State.count16 r lo s i j).stream u = s.stream u := rfl
@[simp] theorem State.count16_pair_id (s : State) (r : Reg) (lo i j : Nat) (u : Nat) : (State.count16 r lo s i j).pair u = s.pair u := rfl
@[simp] theorem State.count16_target_id (s : State) (r : Reg) (lo i j : Nat) (u : Nat) : (State.count16 r lo s i j).target u = s.target u := rfl
@[simp] theorem State.count16_byte_id (s : State) (r : Reg) (lo i j : Nat) (u : Nat) : (State.count16 r lo s i j).byte u = s.byte u := rfl
@[simp] theorem State.setTriad_eng_id (s : State) (t : Nat) (x : Triad) (u : Nat) : (State.setTriad t x s).eng u = s.eng u := rfl
@[simp] theorem State.setTriad_part_id (s : State) (t : Nat) (x : Triad) (u : Nat) : (State.setTriad t x s).part u = s.part u := rfl
@[simp] theorem State.setTriad_can_id (s : State) (t : Nat) (x : Triad) (u : Nat) : (State.setTriad t x s).can u = s.can u := rfl
@[simp] theorem State.setTriad_di_id (s : State) (t : Nat) (x : Triad) (u : Nat) : (State.setTriad t x s).di u = s.di u := rfl
@[simp] theorem State.setTriad_dout_id (s : State) (t : Nat) (x : Triad) (u : Nat) : (State.setTriad t x s).dout u = s.dout u := rfl
@[simp] theorem State.setTriad_loop_id (s : State) (t : Nat) (x : Triad) (u : Nat) : (State.setTriad t x s).loop u = s.loop u := rfl
@[simp] theorem State.setTriad_link_id (s : State) (t : Nat) (x : Triad) (u : Nat) : (State.setTriad t x s).link u = s.link u := rfl
@[simp] theorem State.setTriad_stream_id (s : State) (t : Nat) (x : Triad) (u : Nat) : (State.setTriad t x s).stream u = s.stream u := rfl
@[simp] theorem State.setTriad_pair_id (s : State) (t : Nat) (x : Triad) (u : Nat) : (State.setTriad t x s).pair u = s.pair u := rfl
@[simp] theorem State.setTriad_target_id (s : State) (t : Nat) (x : Triad) (u : Nat) : (State.setTriad t x s).target u = s.target u := rfl
@[simp] theorem State.setTriad_byte_id (s : State) (t : Nat) (x : Triad) (u : Nat) : (State.setTriad t x s).byte u = s.byte u := rfl
@[simp] theorem State.setTriad_rd (s : State) (t : Nat) (x : Triad) (q : Reg) (i1 j1 : Nat) : (State.setTriad t x s).rd q i1 j1 = s.rd q i1 j1 := rfl
@[simp] theorem State.setTriad_rdA (s : State) (t : Nat) (x : Triad) (q : Reg) (i1 j1 : Nat) : (State.setTriad t x s).rdA q i1 j1 = s.rdA q i1 j1 := rfl
@[simp] theorem State.setTriad_rdB (s : State) (t : Nat) (x : Triad) (b1 : Nat) (q : Reg) (i1 : Nat) : (State.setTriad t x s).rdB b1 q i1 = s.rdB b1 q i1 := rfl
@[simp] theorem State.setEng_triad_id (s : State) (e : Nat) (x : Engine) (u : Nat) : (State.setEng e x s).triad u = s.triad u := rfl
@[simp] theorem State.setEng_part_id (s : State) (e : Nat) (x : Engine) (u : Nat) : (State.setEng e x s).part u = s.part u := rfl
@[simp] theorem State.setEng_can_id (s : State) (e : Nat) (x : Engine) (u : Nat) : (State.setEng e x s).can u = s.can u := rfl
@[simp] theorem State.setEng_di_id (s : State) (e : Nat) (x : Engine) (u : Nat) : (State.setEng e x s).di u = s.di u := rfl
@[simp] theorem State.setEng_dout_id (s : State) (e : Nat) (x : Engine) (u : Nat) : (State.setEng e x s).dout u = s.dout u := rfl
@[simp] theorem State.setEng_loop_id (s : State) (e : Nat) (x : Engine) (u : Nat) : (State.setEng e x s).loop u = s.loop u := rfl
@[simp] theorem State.setEng_link_id (s : State) (e : Nat) (x : Engine) (u : Nat) : (State.setEng e x s).link u = s.link u := rfl
@[simp] theorem State.setEng_stream_id (s : State) (e : Nat) (x : Engine) (u : Nat) : (State.setEng e x s).stream u = s.stream u := rfl
@[simp] theorem State.setEng_pair_id (s : State) (e : Nat) (x : Engine) (u : Nat) : (State.setEng e x s).pair u = s.pair u := rfl
@[simp] theorem State.setEng_target_id (s : State) (e : Nat) (x : Engine) (u : Nat) : (State.setEng e x s).target u = s.target u := rfl
@[simp] theorem State.setEng_byte_id (s : State) (e : Nat) (x : Engine) (u : Nat) : (State.setEng e x s).byte u = s.byte u := rfl
@[simp] theorem State.setEng_rd (s : State) (e : Nat) (x : Engine) (q : Reg) (i1 j1 : Nat) : (State.setEng e x s).rd q i1 j1 = s.rd q i1 j1 := rfl
@[simp] theorem State.setEng_rdA (s : State) (e : Nat) (x : Engine) (q : Reg) (i1 j1 : Nat) : (State.setEng e x s).rdA q i1 j1 = s.rdA q i1 j1 := rfl
@[simp] theorem State.setEng_rdB (s : State) (e : Nat) (x : Engine) (b1 : Nat) (q : Reg) (i1 : Nat) : (State.setEng e x s).rdB b1 q i1 = s.rdB b1 q i1 := rfl
@[simp] theorem State.setPart_triad_id (s : State) (n : Nat) (x : Partn) (u : Nat) : (State.setPart n x s).triad u = s.triad u := rfl
@[simp] theorem State.setPart_eng_id (s : State) (n : Nat) (x : Partn) (u : Nat) : (State.setPart n x s).eng u = s.eng u := rfl
@[simp] theorem State.setPart_can_id (s : State) (n : Nat) (x : Partn) (u : Nat) : (State.setPart n x s).can u = s.can u := rfl
@[simp] theorem State.setPart_di_id (s : State) (n : Nat) (x : Partn) (u : Nat) : (State.setPart n x s).di u = s.di u := rfl
@[simp] theorem State.setPart_dout_id (s : State) (n : Nat) (x : Partn) (u : Nat) : (State.setPart n x s).dout u = s.dout u := rfl
@[simp] theorem State.setPart_loop_id (s : State) (n : Nat) (x : Partn) (u : Nat) : (State.setPart n x s).loop u = s.loop u := rfl
@[simp] theorem State.setPart_link_id (s : State) (n : Nat) (x : Partn) (u : Nat) : (State.setPart n x s).link u = s.link u := rfl
@[simp] theorem State.setPart_stream_id (s : State) (n : Nat) (x : Partn) (u : Nat) : (State.setPart n x s).stream u = s.stream u := rfl
@[simp] theorem State.setPart_pair_id (s : State) (n : Nat) (x : Partn) (u : Nat) : (State.setPart n x s).pair u = s.pair u := rfl
@[simp] theorem State.setPart_target_id (s : State) (n : Nat) (x : Partn) (u : Nat) : (State.setPart n x s).target u = s.target u := rfl
@[simp] theorem State.setPart_byte_id (s : State) (n : Nat) (x : Partn) (u : Nat) : (State.setPart n x s).byte u = s.byte u := rfl
@[simp] theorem State.setPart_rd (s : State) (n : Nat) (x : Partn) (q : Reg) (i1 j1 : Nat) : (State.setPart n x s).rd q i1 j1 = s.rd q i1 j1 := rfl
@[simp] theorem State.setPart_rdA (s : State) (n : Nat) (x : Partn) (q : Reg) (i1 j1 : Nat) : (State.setPart n x s).rdA q i1 j1 = s.rdA q i1 j1 := rfl
@[simp] theorem State.setPart_rdB (s : State) (n : Nat) (x : Partn) (b1 : Nat) (q : Reg) (i1 : Nat) : (State.setPart n x s).rdB b1 q i1 = s.rdB b1 q i1 := rfl
@[simp] theorem State.setCan_triad_id (s : State) (n : Nat) (x : Can) (u : Nat) : (State.setCan n x s).triad u = s.triad u := rfl
@[simp] theorem State.setCan_eng_id (s : State) (n : Nat) (x : Can) (u : Nat) : (State.setCan n x s).eng u = s.eng u := rfl
@[simp] theorem State.setCan_part_id (s : State) (n : Nat) (x : Can) (u : Nat) : (State.setCan n x s).part u = s.part u := rfl
@[simp] theorem State.setCan_di_id (s : State) (n : Nat) (x : Can) (u : Nat) : (State.setCan n x s).di u = s.di u := rfl
@[simp] theorem State.setCan_dout_id (s : State) (n : Nat) (x : Can) (u : Nat) : (State.setCan n x s).dout u = s.dout u := rfl
@[simp] theorem State.setCan_loop_id (s : State) (n : Nat) (x : Can) (u : Nat) : (State.setCan n x s).loop u = s.loop u := rfl
@[simp] theorem State.setCan_link_id (s : State) (n : Nat) (x : Can) (u : Nat) : (State.setCan n x s).link u = s.link u := rfl
@[simp] theorem State.setCan_stream_id (s : State) (n : Nat) (x : Can) (u : Nat) : (State.setCan n x s).stream u = s.stream u := rfl
@[simp] theorem State.setCan_pair_id (s : State) (n : Nat) (x : Can) (u : Nat) : (State.setCan n x s).pair u = s.pair u := rfl
@[simp] theorem State.setCan_target_id (s : State) (n : Nat) (x : Can) (u : Nat) : (State.setCan n x s).target u = s.target u := rfl
@[simp] theorem State.setCan_byte_id (s : State) (n : Nat) (x : Can) (u : Nat) : (State.setCan n x s).byte u = s.byte u := rfl
@[simp] theorem State.setCan_rd (s : State) (n : Nat) (x : Can) (q : Reg) (i1 j1 : Nat) : (State.setCan n x s).rd q i1 j1 = s.rd q i1 j1 := rfl
@[simp] theorem State.setCan_rdA (s : State) (n : Nat) (x : Can) (q : Reg) (i1 j1 : Nat) : (State.setCan n x s).rdA q i1 j1 = s.rdA q i1 j1 := rfl
@[simp] theorem State.setCan_rdB (s : State) (n : Nat) (x : Can) (b1 : Nat) (q : Reg) (i1 : Nat) : (State.setCan n x s).rdB b1 q i1 = s.rdB b1 q i1 := rfl
@[simp] theorem State.setDi_triad_id (s : State) (c : Nat) (x : Di) (u : Nat) : (State.setDi c x s).triad u = s.triad u := rfl
@[simp] theorem State.setDi_eng_id (s : State) (c : Nat) (x : Di) (u : Nat) : (State.setDi c x s).eng u = s.eng u := rfl
@[simp] theorem State.setDi_part_id (s : State) (c : Nat) (x : Di) (u : Nat) : (State.setDi c x s).part u = s.part u := rfl
@[simp] theorem State.setDi_can_id (s : State) (c : Nat) (x : Di) (u : Nat) : (State.setDi c x s).can u = s.can u := rfl
@[simp] theorem State.setDi_loop_id (s : State) (c : Nat) (x : Di) (u : Nat) : (State.setDi c x s).loop u = s.loop u := rfl
@[simp] theorem State.setDi_link_id (s : State) (c : Nat) (x : Di) (u : Nat) : (State.setDi c x s).link u = s.link u := rfl
@[simp] theorem State.setDi_stream_id (s : State) (c : Nat) (x : Di) (u : Nat) : (State.setDi c x s).stream u = s.stream u := rfl
@[simp] theorem State.setDi_pair_id (s : State) (c : Nat) (x : Di) (u : Nat) : (State.setDi c x s).pair u = s.pair u := rfl
@[simp] theorem State.setDi_target_id (s : State) (c : Nat) (x : Di) (u : Nat) : (State.setDi c x s).target u = s.target u := rfl
@[simp] theorem State.setDi_byte_id (s : State) (c : Nat) (x : Di) (u : Nat) : (State.setDi c x s).byte u = s.byte u := rfl
@[simp] theorem State.setDi_rd (s : State) (c : Nat) (x : Di) (q : Reg) (i1 j1 : Nat) : (State.setDi c x s).rd q i1 j1 = s.rd q i1 j1 := rfl
@[simp] theorem State.setDi_rdA (s : State) (c : Nat) (x : Di) (q : Reg) (i1 j1 : Nat) : (State.setDi c x s).rdA q i1 j1 = s.rdA q i1 j1 := rfl
@[simp] theorem State.setDi_rdB (s : State) (c : Nat) (x : Di) (b1 : Nat) (q : Reg) (i1 : Nat) : (State.setDi c x s).rdB b1 q i1 = s.rdB b1 q i1 := rfl
@[simp] theorem State.setDout_triad_id (s : State) (c : Nat) (x : Do) (u : Nat) : (State.setDout c x s).triad u = s.triad u := rfl
@[simp] theorem State.setDout_eng_id (s : State) (c : Nat) (x : Do) (u : Nat) : (State.setDout c x s).eng u = s.eng u := rfl
@[simp] theorem State.setDout_part_id (s : State) (c : Nat) (x : Do) (u : Nat) : (State.setDout c x s).part u = s.part u := rfl
@[simp] theorem State.setDout_can_id (s : State) (c : Nat) (x : Do) (u : Nat) : (State.setDout c x s).can u = s.can u := rfl
@[simp] theorem State.setDout_loop_id (s : State) (c : Nat) (x : Do) (u : Nat) : (State.setDout c x s).loop u = s.loop u := rfl
@[simp] theorem State.setDout_link_id (s : State) (c : Nat) (x : Do) (u : Nat) : (State.setDout c x s).link u = s.link u := rfl
@[simp] theorem State.setDout_stream_id (s : State) (c : Nat) (x : Do) (u : Nat) : (State.setDout c x s).stream u = s.stream u := rfl
@[simp] theorem State.setDout_pair_id (s : State) (c : Nat) (x : Do) (u : Nat) : (State.setDout c x s).pair u = s.pair u := rfl
@[simp] theorem State.setDout_target_id (s : State) (c : Nat) (x : Do) (u : Nat) : (State.setDout c x s).target u = s.target u := rfl
@[simp] theorem State.setDout_byte_id (s : State) (c : Nat) (x : Do) (u : Nat) : (State.setDout c x s).byte u = s.byte u := rfl
@[simp] theorem State.setDout_rd (s : State) (c : Nat) (x : Do) (q : Reg) (i1 j1 : Nat) : (State.setDout c x s).rd q i1 j1 = s.rd q i1 j1 := rfl
@[simp] theorem State.setDout_rdA (s : State) (c : Nat) (x : Do) (q : Reg) (i1 j1 : Nat) : (State.setDout c x s).rdA q i1 j1 = s.rdA q i1 j1 := rfl
@[simp] theorem State.setDout_rdB (s : State) (c : Nat) (x : Do) (b1 : Nat) (q : Reg) (i1 : Nat) : (State.setDout c x s).rdB b1 q i1 = s.rdB b1 q i1 := rfl
@[simp] theorem State.setLoop_triad_id (s : State) (c : Nat) (x : Loop) (u : Nat) : (State.setLoop c x s).triad u = s.triad u := rfl
@[simp] theorem State.setLoop_eng_id (s : State) (c : Nat) (x : Loop) (u : Nat) : (State.setLoop c x s).eng u = s.eng u := rfl
@[simp] theorem State.setLoop_part_id (s : State) (c : Nat) (x : Loop) (u : Nat) : (State.setLoop c x s).part u = s.part u := rfl
@[simp] theorem State.setLoop_can_id (s : State) (c : Nat) (x : Loop) (u : Nat) : (State.setLoop c x s).can u = s.can u := rfl
@[simp] theorem State.setLoop_di_id (s : State) (c : Nat) (x : Loop) (u : Nat) : (State.setLoop c x s).di u = s.di u := rfl
@[simp] theorem State.setLoop_dout_id (s : State) (c : Nat) (x : Loop) (u : Nat) : (State.setLoop c x s).dout u = s.dout u := rfl
@[simp] theorem State.setLoop_link_id (s : State) (c : Nat) (x : Loop) (u : Nat) : (State.setLoop c x s).link u = s.link u := rfl
@[simp] theorem State.setLoop_stream_id (s : State) (c : Nat) (x : Loop) (u : Nat) : (State.setLoop c x s).stream u = s.stream u := rfl
@[simp] theorem State.setLoop_pair_id (s : State) (c : Nat) (x : Loop) (u : Nat) : (State.setLoop c x s).pair u = s.pair u := rfl
@[simp] theorem State.setLoop_target_id (s : State) (c : Nat) (x : Loop) (u : Nat) : (State.setLoop c x s).target u = s.target u := rfl
@[simp] theorem State.setLoop_byte_id (s : State) (c : Nat) (x : Loop) (u : Nat) : (State.setLoop c x s).byte u = s.byte u := rfl
@[simp] theorem State.setLoop_rd (s : State) (c : Nat) (x : Loop) (q : Reg) (i1 j1 : Nat) : (State.setLoop c x s).rd q i1 j1 = s.rd q i1 j1 := rfl
@[simp] theorem State.setLoop_rdA (s : State) (c : Nat) (x : Loop) (q : Reg) (i1 j1 : Nat) : (State.setLoop c x s).rdA q i1 j1 = s.rdA q i1 j1 := rfl
@[simp] theorem State.setLoop_rdB (s : State) (c : Nat) (x : Loop) (b1 : Nat) (q : Reg) (i1 : Nat) : (State.setLoop c x s).rdB b1 q i1 = s.rdB b1 q i1 := rfl
@[simp] theorem State.setLink_triad_id (s : State) (l : Nat) (x : SLink) (u : Nat) : (State.setLink l x s).triad u = s.triad u := rfl
@[simp] theorem State.setLink_eng_id (s : State) (l : Nat) (x : SLink) (u : Nat) : (State.setLink l x s).eng u = s.eng u := rfl
@[simp] theorem State.setLink_part_id (s : State) (l : Nat) (x : SLink) (u : Nat) : (State.setLink l x s).part u = s.part u := rfl
@[simp] theorem State.setLink_can_id (s : State) (l : Nat) (x : SLink) (u : Nat) : (State.setLink l x s).can u = s.can u := rfl
@[simp] theorem State.setLink_di_id (s : State) (l : Nat) (x : SLink) (u : Nat) : (State.setLink l x s).di u = s.di u := rfl
@[simp] theorem State.setLink_dout_id (s : State) (l : Nat) (x : SLink) (u : Nat) : (State.setLink l x s).dout u = s.dout u := rfl
@[simp] theorem State.setLink_loop_id (s : State) (l : Nat) (x : SLink) (u : Nat) : (State.setLink l x s).loop u = s.loop u := rfl
@[simp] theorem State.setLink_pair_id (s : State) (l : Nat) (x : SLink) (u : Nat) : (State.setLink l x s).pair u = s.pair u := rfl
@[simp] theorem State.setLink_target_id (s : State) (l : Nat) (x : SLink) (u : Nat) : (State.setLink l x s).target u = s.target u := rfl
@[simp] theorem State.setLink_byte_id (s : State) (l : Nat) (x : SLink) (u : Nat) : (State.setLink l x s).byte u = s.byte u := rfl
@[simp] theorem State.setLink_rd (s : State) (l : Nat) (x : SLink) (q : Reg) (i1 j1 : Nat) : (State.setLink l x s).rd q i1 j1 = s.rd q i1 j1 := rfl
@[simp] theorem State.setLink_rdA (s : State) (l : Nat) (x : SLink) (q : Reg) (i1 j1 : Nat) : (State.setLink l x s).rdA q i1 j1 = s.rdA q i1 j1 := rfl
@[simp] theorem State.setLink_rdB (s : State) (l : Nat) (x : SLink) (b1 : Nat) (q : Reg) (i1 : Nat) : (State.setLink l x s).rdB b1 q i1 = s.rdB b1 q i1 := rfl
@[simp] theorem State.setStream_triad_id (s : State) (n : Nat) (x : Stream) (u : Nat) : (State.setStream n x s).triad u = s.triad u := rfl
@[simp] theorem State.setStream_eng_id (s : State) (n : Nat) (x : Stream) (u : Nat) : (State.setStream n x s).eng u = s.eng u := rfl
@[simp] theorem State.setStream_part_id (s : State) (n : Nat) (x : Stream) (u : Nat) : (State.setStream n x s).part u = s.part u := rfl
@[simp] theorem State.setStream_can_id (s : State) (n : Nat) (x : Stream) (u : Nat) : (State.setStream n x s).can u = s.can u := rfl
@[simp] theorem State.setStream_di_id (s : State) (n : Nat) (x : Stream) (u : Nat) : (State.setStream n x s).di u = s.di u := rfl
@[simp] theorem State.setStream_dout_id (s : State) (n : Nat) (x : Stream) (u : Nat) : (State.setStream n x s).dout u = s.dout u := rfl
@[simp] theorem State.setStream_loop_id (s : State) (n : Nat) (x : Stream) (u : Nat) : (State.setStream n x s).loop u = s.loop u := rfl
@[simp] theorem State.setStream_pair_id (s : State) (n : Nat) (x : Stream) (u : Nat) : (State.setStream n x s).pair u = s.pair u := rfl
@[simp] theorem State.setStream_target_id (s : State) (n : Nat) (x : Stream) (u : Nat) : (State.setStream n x s).target u = s.target u := rfl
@[simp] theorem State.setStream_byte_id (s : State) (n : Nat) (x : Stream) (u : Nat) : (State.setStream n x s).byte u = s.byte u := rfl
@[simp] theorem State.setStream_rd (s : State) (n : Nat) (x : Stream) (q : Reg) (i1 j1 : Nat) : (State.setStream n x s).rd q i1 j1 = s.rd q i1 j1 := rfl
@[simp] theorem State.setStream_rdA (s : State) (n : Nat) (x : Stream) (q : Reg) (i1 j1 : Nat) : (State.setStream n x s).rdA q i1 j1 = s.rdA q i1 j1 := rfl
@[simp] theorem State.setStream_rdB (s : State) (n : Nat) (x : Stream) (b1 : Nat) (q : Reg) (i1 : Nat) : (State.setStream n x s).rdB b1 q i1 = s.rdB b1 q i1 := rfl
@[simp] theorem State.setPair_triad_id (s : State) (k : Nat) (x : Pair) (u : Nat) : (State.setPair k x s).triad u = s.triad u := rfl
@[simp] theorem State.setPair_eng_id (s : State) (k : Nat) (x : Pair) (u : Nat) : (State.setPair k x s).eng u = s.eng u := rfl
@[simp] theorem State.setPair_part_id (s : State) (k : Nat) (x : Pair) (u : Nat) : (State.setPair k x s).part u = s.part u := rfl
@[simp] theorem State.setPair_can_id (s : State) (k : Nat) (x : Pair) (u : Nat) : (State.setPair k x s).can u = s.can u := rfl
@[simp] theorem State.setPair_di_id (s : State) (k : Nat) (x : Pair) (u : Nat) : (State.setPair k x s).di u = s.di u := rfl
@[simp] theorem State.setPair_dout_id (s : State) (k : Nat) (x : Pair) (u : Nat) : (State.setPair k x s).dout u = s.dout u := rfl
@[simp] theorem State.setPair_loop_id (s : State) (k : Nat) (x : Pair) (u : Nat) : (State.setPair k x s).loop u = s.loop u := rfl
@[simp] theorem State.setPair_link_id (s : State) (k : Nat) (x : Pair) (u : Nat) : (State.setPair k x s).link u = s.link u := rfl
@[simp] theorem State.setPair_stream_id (s : State) (k : Nat) (x : Pair) (u : Nat) : (State.setPair k x s).stream u = s.stream u := rfl
@[simp] theorem State.setPair_target_id (s : State) (k : Nat) (x : Pair) (u : Nat) : (State.setPair k x s).target u = s.target u := rfl
@[simp] theorem State.setPair_byte_id (s : State) (k : Nat) (x : Pair) (u : Nat) : (State.setPair k x s).byte u = s.byte u := rfl
@[simp] theorem State.setPair_rd (s : State) (k : Nat) (x : Pair) (q : Reg) (i1 j1 : Nat) : (State.setPair k x s).rd q i1 j1 = s.rd q i1 j1 := rfl
@[simp] theorem State.setPair_rdA (s : State) (k : Nat) (x : Pair) (q : Reg) (i1 j1 : Nat) : (State.setPair k x s).rdA q i1 j1 = s.rdA q i1 j1 := rfl
@[simp] theorem State.setPair_rdB (s : State) (k : Nat) (x : Pair) (b1 : Nat) (q : Reg) (i1 : Nat) : (State.setPair k x s).rdB b1 q i1 = s.rdB b1 q i1 := rfl
@[simp] theorem State.setSlot_triad_id (s : State) (c k : Nat) (x : Slot) (u : Nat) : (State.setSlot c k x s).triad u = s.triad u := rfl
@[simp] theorem State.setSlot_eng_id (s : State) (c k : Nat) (x : Slot) (u : Nat) : (State.setSlot c k x s).eng u = s.eng u := rfl
@[simp] theorem State.setSlot_part_id (s : State) (c k : Nat) (x : Slot) (u : Nat) : (State.setSlot c k x s).part u = s.part u := rfl
@[simp] theorem State.setSlot_can_id (s : State) (c k : Nat) (x : Slot) (u : Nat) : (State.setSlot c k x s).can u = s.can u := rfl
@[simp] theorem State.setSlot_di_id (s : State) (c k : Nat) (x : Slot) (u : Nat) : (State.setSlot c k x s).di u = s.di u := rfl
@[simp] theorem State.setSlot_dout_id (s : State) (c k : Nat) (x : Slot) (u : Nat) : (State.setSlot c k x s).dout u = s.dout u := rfl
@[simp] theorem State.setSlot_loop_id (s : State) (c k : Nat) (x : Slot) (u : Nat) : (State.setSlot c k x s).loop u = s.loop u := rfl
@[simp] theorem State.setSlot_link_id (s : State) (c k : Nat) (x : Slot) (u : Nat) : (State.setSlot c k x s).link u = s.link u := rfl
@[simp] theorem State.setSlot_stream_id (s : State) (c k : Nat) (x : Slot) (u : Nat) : (State.setSlot c k x s).stream u = s.stream u := rfl
@[simp] theorem State.setSlot_pair_id (s : State) (c k : Nat) (x : Slot) (u : Nat) : (State.setSlot c k x s).pair u = s.pair u := rfl
@[simp] theorem State.setSlot_target_id (s : State) (c k : Nat) (x : Slot) (u : Nat) : (State.setSlot c k x s).target u = s.target u := rfl
@[simp] theorem State.setSlot_byte_id (s : State) (c k : Nat) (x : Slot) (u : Nat) : (State.setSlot c k x s).byte u = s.byte u := rfl
@[simp] theorem State.setSlot_rd (s : State) (c k : Nat) (x : Slot) (q : Reg) (i1 j1 : Nat) : (State.setSlot c k x s).rd q i1 j1 = s.rd q i1 j1 := rfl
@[simp] theorem State.setSlot_rdA (s : State) (c k : Nat) (x : Slot) (q : Reg) (i1 j1 : Nat) : (State.setSlot c k x s).rdA q i1 j1 = s.rdA q i1 j1 := rfl
@[simp] theorem State.setSlot_rdB (s : State) (c k : Nat) (x : Slot) (b1 : Nat) (q : Reg) (i1 : Nat) : (State.setSlot c k x s).rdB b1 q i1 = s.rdB b1 q i1 := rfl
@[simp] theorem State.setByte_triad_id (s : State) (a : Nat) (b : Byte) (u : Nat) : (State.setByte a b s).triad u = s.triad u := rfl
@[simp] theorem State.setByte_eng_id (s : State) (a : Nat) (b : Byte) (u : Nat) : (State.setByte a b s).eng u = s.eng u := rfl
@[simp] theorem State.setByte_part_id (s : State) (a : Nat) (b : Byte) (u : Nat) : (State.setByte a b s).part u = s.part u := rfl
@[simp] theorem State.setByte_can_id (s : State) (a : Nat) (b : Byte) (u : Nat) : (State.setByte a b s).can u = s.can u := rfl
@[simp] theorem State.setByte_di_id (s : State) (a : Nat) (b : Byte) (u : Nat) : (State.setByte a b s).di u = s.di u := rfl
@[simp] theorem State.setByte_dout_id (s : State) (a : Nat) (b : Byte) (u : Nat) : (State.setByte a b s).dout u = s.dout u := rfl
@[simp] theorem State.setByte_loop_id (s : State) (a : Nat) (b : Byte) (u : Nat) : (State.setByte a b s).loop u = s.loop u := rfl
@[simp] theorem State.setByte_link_id (s : State) (a : Nat) (b : Byte) (u : Nat) : (State.setByte a b s).link u = s.link u := rfl
@[simp] theorem State.setByte_stream_id (s : State) (a : Nat) (b : Byte) (u : Nat) : (State.setByte a b s).stream u = s.stream u := rfl
@[simp] theorem State.setByte_pair_id (s : State) (a : Nat) (b : Byte) (u : Nat) : (State.setByte a b s).pair u = s.pair u := rfl
@[simp] theorem State.setByte_target_id (s : State) (a : Nat) (b : Byte) (u : Nat) : (State.setByte a b s).target u = s.target u := rfl
@[simp] theorem State.setByte_rd (s : State) (a : Nat) (b : Byte) (q : Reg) (i1 j1 : Nat) : (State.setByte a b s).rd q i1 j1 = s.rd q i1 j1 := rfl
@[simp] theorem State.setByte_rdA (s : State) (a : Nat) (b : Byte) (q : Reg) (i1 j1 : Nat) : (State.setByte a b s).rdA q i1 j1 = s.rdA q i1 j1 := rfl
@[simp] theorem State.setByte_rdB (s : State) (a : Nat) (b : Byte) (b1 : Nat) (q : Reg) (i1 : Nat) : (State.setByte a b s).rdB b1 q i1 = s.rdB b1 q i1 := rfl
@[simp] theorem State.setClk_triad_id (s : State) (x : Clocks) (u : Nat) : (State.setClk x s).triad u = s.triad u := rfl
@[simp] theorem State.setClk_eng_id (s : State) (x : Clocks) (u : Nat) : (State.setClk x s).eng u = s.eng u := rfl
@[simp] theorem State.setClk_part_id (s : State) (x : Clocks) (u : Nat) : (State.setClk x s).part u = s.part u := rfl
@[simp] theorem State.setClk_can_id (s : State) (x : Clocks) (u : Nat) : (State.setClk x s).can u = s.can u := rfl
@[simp] theorem State.setClk_di_id (s : State) (x : Clocks) (u : Nat) : (State.setClk x s).di u = s.di u := rfl
@[simp] theorem State.setClk_dout_id (s : State) (x : Clocks) (u : Nat) : (State.setClk x s).dout u = s.dout u := rfl
@[simp] theorem State.setClk_loop_id (s : State) (x : Clocks) (u : Nat) : (State.setClk x s).loop u = s.loop u := rfl
@[simp] theorem State.setClk_link_id (s : State) (x : Clocks) (u : Nat) : (State.setClk x s).link u = s.link u := rfl
@[simp] theorem State.setClk_stream_id (s : State) (x : Clocks) (u : Nat) : (State.setClk x s).stream u = s.stream u := rfl
@[simp] theorem State.setClk_pair_id (s : State) (x : Clocks) (u : Nat) : (State.setClk x s).pair u = s.pair u := rfl
@[simp] theorem State.setClk_target_id (s : State) (x : Clocks) (u : Nat) : (State.setClk x s).target u = s.target u := rfl
@[simp] theorem State.setClk_byte_id (s : State) (x : Clocks) (u : Nat) : (State.setClk x s).byte u = s.byte u := rfl
@[simp] theorem State.setClk_rd (s : State) (x : Clocks) (q : Reg) (i1 j1 : Nat) : (State.setClk x s).rd q i1 j1 = s.rd q i1 j1 := rfl
@[simp] theorem State.setClk_rdA (s : State) (x : Clocks) (q : Reg) (i1 j1 : Nat) : (State.setClk x s).rdA q i1 j1 = s.rdA q i1 j1 := rfl
@[simp] theorem State.setClk_rdB (s : State) (x : Clocks) (b1 : Nat) (q : Reg) (i1 : Nat) : (State.setClk x s).rdB b1 q i1 = s.rdB b1 q i1 := rfl
@[simp] theorem State.setTb_triad_id (s : State) (x : TimeBase) (u : Nat) : (State.setTb x s).triad u = s.triad u := rfl
@[simp] theorem State.setTb_eng_id (s : State) (x : TimeBase) (u : Nat) : (State.setTb x s).eng u = s.eng u := rfl
@[simp] theorem State.setTb_part_id (s : State) (x : TimeBase) (u : Nat) : (State.setTb x s).part u = s.part u := rfl
@[simp] theorem State.setTb_can_id (s : State) (x : TimeBase) (u : Nat) : (State.setTb x s).can u = s.can u := rfl
@[simp] theorem State.setTb_di_id (s : State) (x : TimeBase) (u : Nat) : (State.setTb x s).di u = s.di u := rfl
@[simp] theorem State.setTb_dout_id (s : State) (x : TimeBase) (u : Nat) : (State.setTb x s).dout u = s.dout u := rfl
@[simp] theorem State.setTb_loop_id (s : State) (x : TimeBase) (u : Nat) : (State.setTb x s).loop u = s.loop u := rfl
@[simp] theorem State.setTb_link_id (s : State) (x : TimeBase) (u : Nat) : (State.setTb x s).link u = s.link u := rfl
@[simp] theorem State.setTb_stream_id (s : State) (x : TimeBase) (u : Nat) : (State.setTb x s).stream u = s.stream u := rfl
@[simp] theorem State.setTb_pair_id (s : State) (x : TimeBase) (u : Nat) : (State.setTb x s).pair u = s.pair u := rfl
@[simp] theorem State.setTb_target_id (s : State) (x : TimeBase) (u : Nat) : (State.setTb x s).target u = s.target u := rfl
@[simp] theorem State.setTb_byte_id (s : State) (x : TimeBase) (u : Nat) : (State.setTb x s).byte u = s.byte u := rfl
@[simp] theorem State.setTb_rd (s : State) (x : TimeBase) (q : Reg) (i1 j1 : Nat) : (State.setTb x s).rd q i1 j1 = s.rd q i1 j1 := rfl
@[simp] theorem State.setTb_rdA (s : State) (x : TimeBase) (q : Reg) (i1 j1 : Nat) : (State.setTb x s).rdA q i1 j1 = s.rdA q i1 j1 := rfl
@[simp] theorem State.setTb_rdB (s : State) (x : TimeBase) (b1 : Nat) (q : Reg) (i1 : Nat) : (State.setTb x s).rdB b1 q i1 = s.rdB b1 q i1 := rfl
@[simp] theorem State.setPwr_triad_id (s : State) (x : Power) (u : Nat) : (State.setPwr x s).triad u = s.triad u := rfl
@[simp] theorem State.setPwr_eng_id (s : State) (x : Power) (u : Nat) : (State.setPwr x s).eng u = s.eng u := rfl
@[simp] theorem State.setPwr_part_id (s : State) (x : Power) (u : Nat) : (State.setPwr x s).part u = s.part u := rfl
@[simp] theorem State.setPwr_can_id (s : State) (x : Power) (u : Nat) : (State.setPwr x s).can u = s.can u := rfl
@[simp] theorem State.setPwr_di_id (s : State) (x : Power) (u : Nat) : (State.setPwr x s).di u = s.di u := rfl
@[simp] theorem State.setPwr_dout_id (s : State) (x : Power) (u : Nat) : (State.setPwr x s).dout u = s.dout u := rfl
@[simp] theorem State.setPwr_loop_id (s : State) (x : Power) (u : Nat) : (State.setPwr x s).loop u = s.loop u := rfl
@[simp] theorem State.setPwr_link_id (s : State) (x : Power) (u : Nat) : (State.setPwr x s).link u = s.link u := rfl
@[simp] theorem State.setPwr_stream_id (s : State) (x : Power) (u : Nat) : (State.setPwr x s).stream u = s.stream u := rfl
@[simp] theorem State.setPwr_pair_id (s : State) (x : Power) (u : Nat) : (State.setPwr x s).pair u = s.pair u := rfl
@[simp] theorem State.setPwr_target_id (s : State) (x : Power) (u : Nat) : (State.setPwr x s).target u = s.target u := rfl
@[simp] theorem State.setPwr_byte_id (s : State) (x : Power) (u : Nat) : (State.setPwr x s).byte u = s.byte u := rfl
@[simp] theorem State.setPwr_rd (s : State) (x : Power) (q : Reg) (i1 j1 : Nat) : (State.setPwr x s).rd q i1 j1 = s.rd q i1 j1 := rfl
@[simp] theorem State.setPwr_rdA (s : State) (x : Power) (q : Reg) (i1 j1 : Nat) : (State.setPwr x s).rdA q i1 j1 = s.rdA q i1 j1 := rfl
@[simp] theorem State.setPwr_rdB (s : State) (x : Power) (b1 : Nat) (q : Reg) (i1 : Nat) : (State.setPwr x s).rdB b1 q i1 = s.rdB b1 q i1 := rfl
@[simp] theorem State.setPins_triad_id (s : State) (x : Pins) (u : Nat) : (State.setPins x s).triad u = s.triad u := rfl
@[simp] theorem State.setPins_eng_id (s : State) (x : Pins) (u : Nat) : (State.setPins x s).eng u = s.eng u := rfl
@[simp] theorem State.setPins_part_id (s : State) (x : Pins) (u : Nat) : (State.setPins x s).part u = s.part u := rfl
@[simp] theorem State.setPins_can_id (s : State) (x : Pins) (u : Nat) : (State.setPins x s).can u = s.can u := rfl
@[simp] theorem State.setPins_di_id (s : State) (x : Pins) (u : Nat) : (State.setPins x s).di u = s.di u := rfl
@[simp] theorem State.setPins_dout_id (s : State) (x : Pins) (u : Nat) : (State.setPins x s).dout u = s.dout u := rfl
@[simp] theorem State.setPins_loop_id (s : State) (x : Pins) (u : Nat) : (State.setPins x s).loop u = s.loop u := rfl
@[simp] theorem State.setPins_link_id (s : State) (x : Pins) (u : Nat) : (State.setPins x s).link u = s.link u := rfl
@[simp] theorem State.setPins_stream_id (s : State) (x : Pins) (u : Nat) : (State.setPins x s).stream u = s.stream u := rfl
@[simp] theorem State.setPins_pair_id (s : State) (x : Pins) (u : Nat) : (State.setPins x s).pair u = s.pair u := rfl
@[simp] theorem State.setPins_target_id (s : State) (x : Pins) (u : Nat) : (State.setPins x s).target u = s.target u := rfl
@[simp] theorem State.setPins_byte_id (s : State) (x : Pins) (u : Nat) : (State.setPins x s).byte u = s.byte u := rfl
@[simp] theorem State.setPins_rd (s : State) (x : Pins) (q : Reg) (i1 j1 : Nat) : (State.setPins x s).rd q i1 j1 = s.rd q i1 j1 := rfl
@[simp] theorem State.setPins_rdA (s : State) (x : Pins) (q : Reg) (i1 j1 : Nat) : (State.setPins x s).rdA q i1 j1 = s.rdA q i1 j1 := rfl
@[simp] theorem State.setPins_rdB (s : State) (x : Pins) (b1 : Nat) (q : Reg) (i1 : Nat) : (State.setPins x s).rdB b1 q i1 = s.rdB b1 q i1 := rfl
@[simp] theorem State.setSec_triad_id (s : State) (x : Secure) (u : Nat) : (State.setSec x s).triad u = s.triad u := rfl
@[simp] theorem State.setSec_eng_id (s : State) (x : Secure) (u : Nat) : (State.setSec x s).eng u = s.eng u := rfl
@[simp] theorem State.setSec_part_id (s : State) (x : Secure) (u : Nat) : (State.setSec x s).part u = s.part u := rfl
@[simp] theorem State.setSec_can_id (s : State) (x : Secure) (u : Nat) : (State.setSec x s).can u = s.can u := rfl
@[simp] theorem State.setSec_di_id (s : State) (x : Secure) (u : Nat) : (State.setSec x s).di u = s.di u := rfl
@[simp] theorem State.setSec_dout_id (s : State) (x : Secure) (u : Nat) : (State.setSec x s).dout u = s.dout u := rfl
@[simp] theorem State.setSec_loop_id (s : State) (x : Secure) (u : Nat) : (State.setSec x s).loop u = s.loop u := rfl
@[simp] theorem State.setSec_link_id (s : State) (x : Secure) (u : Nat) : (State.setSec x s).link u = s.link u := rfl
@[simp] theorem State.setSec_stream_id (s : State) (x : Secure) (u : Nat) : (State.setSec x s).stream u = s.stream u := rfl
@[simp] theorem State.setSec_pair_id (s : State) (x : Secure) (u : Nat) : (State.setSec x s).pair u = s.pair u := rfl
@[simp] theorem State.setSec_target_id (s : State) (x : Secure) (u : Nat) : (State.setSec x s).target u = s.target u := rfl
@[simp] theorem State.setSec_byte_id (s : State) (x : Secure) (u : Nat) : (State.setSec x s).byte u = s.byte u := rfl
@[simp] theorem State.setSec_rd (s : State) (x : Secure) (q : Reg) (i1 j1 : Nat) : (State.setSec x s).rd q i1 j1 = s.rd q i1 j1 := rfl
@[simp] theorem State.setSec_rdA (s : State) (x : Secure) (q : Reg) (i1 j1 : Nat) : (State.setSec x s).rdA q i1 j1 = s.rdA q i1 j1 := rfl
@[simp] theorem State.setSec_rdB (s : State) (x : Secure) (b1 : Nat) (q : Reg) (i1 : Nat) : (State.setSec x s).rdB b1 q i1 = s.rdB b1 q i1 := rfl
@[simp] theorem State.setSup_triad_id (s : State) (x : Superv) (u : Nat) : (State.setSup x s).triad u = s.triad u := rfl
@[simp] theorem State.setSup_eng_id (s : State) (x : Superv) (u : Nat) : (State.setSup x s).eng u = s.eng u := rfl
@[simp] theorem State.setSup_part_id (s : State) (x : Superv) (u : Nat) : (State.setSup x s).part u = s.part u := rfl
@[simp] theorem State.setSup_can_id (s : State) (x : Superv) (u : Nat) : (State.setSup x s).can u = s.can u := rfl
@[simp] theorem State.setSup_di_id (s : State) (x : Superv) (u : Nat) : (State.setSup x s).di u = s.di u := rfl
@[simp] theorem State.setSup_dout_id (s : State) (x : Superv) (u : Nat) : (State.setSup x s).dout u = s.dout u := rfl
@[simp] theorem State.setSup_loop_id (s : State) (x : Superv) (u : Nat) : (State.setSup x s).loop u = s.loop u := rfl
@[simp] theorem State.setSup_link_id (s : State) (x : Superv) (u : Nat) : (State.setSup x s).link u = s.link u := rfl
@[simp] theorem State.setSup_stream_id (s : State) (x : Superv) (u : Nat) : (State.setSup x s).stream u = s.stream u := rfl
@[simp] theorem State.setSup_pair_id (s : State) (x : Superv) (u : Nat) : (State.setSup x s).pair u = s.pair u := rfl
@[simp] theorem State.setSup_target_id (s : State) (x : Superv) (u : Nat) : (State.setSup x s).target u = s.target u := rfl
@[simp] theorem State.setSup_byte_id (s : State) (x : Superv) (u : Nat) : (State.setSup x s).byte u = s.byte u := rfl
@[simp] theorem State.setSup_rd (s : State) (x : Superv) (q : Reg) (i1 j1 : Nat) : (State.setSup x s).rd q i1 j1 = s.rd q i1 j1 := rfl
@[simp] theorem State.setSup_rdA (s : State) (x : Superv) (q : Reg) (i1 j1 : Nat) : (State.setSup x s).rdA q i1 j1 = s.rdA q i1 j1 := rfl
@[simp] theorem State.setSup_rdB (s : State) (x : Superv) (b1 : Nat) (q : Reg) (i1 : Nat) : (State.setSup x s).rdB b1 q i1 = s.rdB b1 q i1 := rfl
@[simp] theorem State.setFuses_triad_id (s : State) (x : Fuses) (u : Nat) : (State.setFuses x s).triad u = s.triad u := rfl
@[simp] theorem State.setFuses_eng_id (s : State) (x : Fuses) (u : Nat) : (State.setFuses x s).eng u = s.eng u := rfl
@[simp] theorem State.setFuses_part_id (s : State) (x : Fuses) (u : Nat) : (State.setFuses x s).part u = s.part u := rfl
@[simp] theorem State.setFuses_can_id (s : State) (x : Fuses) (u : Nat) : (State.setFuses x s).can u = s.can u := rfl
@[simp] theorem State.setFuses_di_id (s : State) (x : Fuses) (u : Nat) : (State.setFuses x s).di u = s.di u := rfl
@[simp] theorem State.setFuses_dout_id (s : State) (x : Fuses) (u : Nat) : (State.setFuses x s).dout u = s.dout u := rfl
@[simp] theorem State.setFuses_loop_id (s : State) (x : Fuses) (u : Nat) : (State.setFuses x s).loop u = s.loop u := rfl
@[simp] theorem State.setFuses_link_id (s : State) (x : Fuses) (u : Nat) : (State.setFuses x s).link u = s.link u := rfl
@[simp] theorem State.setFuses_stream_id (s : State) (x : Fuses) (u : Nat) : (State.setFuses x s).stream u = s.stream u := rfl
@[simp] theorem State.setFuses_pair_id (s : State) (x : Fuses) (u : Nat) : (State.setFuses x s).pair u = s.pair u := rfl
@[simp] theorem State.setFuses_target_id (s : State) (x : Fuses) (u : Nat) : (State.setFuses x s).target u = s.target u := rfl
@[simp] theorem State.setFuses_byte_id (s : State) (x : Fuses) (u : Nat) : (State.setFuses x s).byte u = s.byte u := rfl
@[simp] theorem State.setFuses_rd (s : State) (x : Fuses) (q : Reg) (i1 j1 : Nat) : (State.setFuses x s).rd q i1 j1 = s.rd q i1 j1 := rfl
@[simp] theorem State.setFuses_rdA (s : State) (x : Fuses) (q : Reg) (i1 j1 : Nat) : (State.setFuses x s).rdA q i1 j1 = s.rdA q i1 j1 := rfl
@[simp] theorem State.setFuses_rdB (s : State) (x : Fuses) (b1 : Nat) (q : Reg) (i1 : Nat) : (State.setFuses x s).rdB b1 q i1 = s.rdB b1 q i1 := rfl
@[simp] theorem State.setStn_triad_id (s : State) (x : Station) (u : Nat) : (State.setStn x s).triad u = s.triad u := rfl
@[simp] theorem State.setStn_eng_id (s : State) (x : Station) (u : Nat) : (State.setStn x s).eng u = s.eng u := rfl
@[simp] theorem State.setStn_part_id (s : State) (x : Station) (u : Nat) : (State.setStn x s).part u = s.part u := rfl
@[simp] theorem State.setStn_can_id (s : State) (x : Station) (u : Nat) : (State.setStn x s).can u = s.can u := rfl
@[simp] theorem State.setStn_di_id (s : State) (x : Station) (u : Nat) : (State.setStn x s).di u = s.di u := rfl
@[simp] theorem State.setStn_dout_id (s : State) (x : Station) (u : Nat) : (State.setStn x s).dout u = s.dout u := rfl
@[simp] theorem State.setStn_loop_id (s : State) (x : Station) (u : Nat) : (State.setStn x s).loop u = s.loop u := rfl
@[simp] theorem State.setStn_link_id (s : State) (x : Station) (u : Nat) : (State.setStn x s).link u = s.link u := rfl
@[simp] theorem State.setStn_stream_id (s : State) (x : Station) (u : Nat) : (State.setStn x s).stream u = s.stream u := rfl
@[simp] theorem State.setStn_pair_id (s : State) (x : Station) (u : Nat) : (State.setStn x s).pair u = s.pair u := rfl
@[simp] theorem State.setStn_target_id (s : State) (x : Station) (u : Nat) : (State.setStn x s).target u = s.target u := rfl
@[simp] theorem State.setStn_byte_id (s : State) (x : Station) (u : Nat) : (State.setStn x s).byte u = s.byte u := rfl
@[simp] theorem State.setStn_rd (s : State) (x : Station) (q : Reg) (i1 j1 : Nat) : (State.setStn x s).rd q i1 j1 = s.rd q i1 j1 := rfl
@[simp] theorem State.setStn_rdA (s : State) (x : Station) (q : Reg) (i1 j1 : Nat) : (State.setStn x s).rdA q i1 j1 = s.rdA q i1 j1 := rfl
@[simp] theorem State.setStn_rdB (s : State) (x : Station) (b1 : Nat) (q : Reg) (i1 : Nat) : (State.setStn x s).rdB b1 q i1 = s.rdB b1 q i1 := rfl
@[simp] theorem State.setTarget_triad_id (s : State) (t : Nat) (x : Target) (u : Nat) : (State.setTarget t x s).triad u = s.triad u := rfl
@[simp] theorem State.setTarget_eng_id (s : State) (t : Nat) (x : Target) (u : Nat) : (State.setTarget t x s).eng u = s.eng u := rfl
@[simp] theorem State.setTarget_part_id (s : State) (t : Nat) (x : Target) (u : Nat) : (State.setTarget t x s).part u = s.part u := rfl
@[simp] theorem State.setTarget_can_id (s : State) (t : Nat) (x : Target) (u : Nat) : (State.setTarget t x s).can u = s.can u := rfl
@[simp] theorem State.setTarget_di_id (s : State) (t : Nat) (x : Target) (u : Nat) : (State.setTarget t x s).di u = s.di u := rfl
@[simp] theorem State.setTarget_dout_id (s : State) (t : Nat) (x : Target) (u : Nat) : (State.setTarget t x s).dout u = s.dout u := rfl
@[simp] theorem State.setTarget_loop_id (s : State) (t : Nat) (x : Target) (u : Nat) : (State.setTarget t x s).loop u = s.loop u := rfl
@[simp] theorem State.setTarget_link_id (s : State) (t : Nat) (x : Target) (u : Nat) : (State.setTarget t x s).link u = s.link u := rfl
@[simp] theorem State.setTarget_stream_id (s : State) (t : Nat) (x : Target) (u : Nat) : (State.setTarget t x s).stream u = s.stream u := rfl
@[simp] theorem State.setTarget_pair_id (s : State) (t : Nat) (x : Target) (u : Nat) : (State.setTarget t x s).pair u = s.pair u := rfl
@[simp] theorem State.setTarget_byte_id (s : State) (t : Nat) (x : Target) (u : Nat) : (State.setTarget t x s).byte u = s.byte u := rfl
@[simp] theorem State.setTarget_rd (s : State) (t : Nat) (x : Target) (q : Reg) (i1 j1 : Nat) : (State.setTarget t x s).rd q i1 j1 = s.rd q i1 j1 := rfl
@[simp] theorem State.setTarget_rdA (s : State) (t : Nat) (x : Target) (q : Reg) (i1 j1 : Nat) : (State.setTarget t x s).rdA q i1 j1 = s.rdA q i1 j1 := rfl
@[simp] theorem State.setTarget_rdB (s : State) (t : Nat) (x : Target) (b1 : Nat) (q : Reg) (i1 : Nat) : (State.setTarget t x s).rdB b1 q i1 = s.rdB b1 q i1 := rfl

/-! ### Registers -/
/-- A register that has just been set reads the value set. -/
@[simp] theorem State.wr_rd (s : State) (r : Reg) (v : Word) (i j : Nat) : (State.wr r v s i j).rd r i j = v := by
  simp [State.wr, State.rd, Tab.get_set]
/-- Setting a register leaves a register at another address as it was. -/
theorem State.wr_rd_ne (s : State) (r q : Reg) (v : Word) (i j k l : Nat) (h : q.addr k l ≠ r.addr i j) :
    (State.wr r v s i j).rd q k l = s.rd q k l := by
  simp [State.wr, State.rd, Tab.get_set_ne _ _ _ _ h]
/-- An active copy that has just been set reads the value set. -/
@[simp] theorem State.wrA_rdA (s : State) (r : Reg) (v : Word) (i j : Nat) : (State.wrA r v s i j).rdA r i j = v := by
  simp [State.wrA, State.rdA, Tab.get_set]
/-- A plain write leaves the merge of the old value and the written one. -/
@[simp] theorem State.put_rd (s : State) (r : Reg) (v : Word) (i j : Nat) :
    (State.put r v s i j).rd r i j = r.merge (s.rd r i j) v := by
  simp [State.put]
/-- A swap makes the active copy the shadow (00 R9). -/
@[simp] theorem State.swap_rdA (s : State) (r : Reg) (i j : Nat) : (State.swap r s i j).rdA r i j = s.rd r i j := by
  simp [State.swap]

end Sys2Proof.Machine
end

