-- ==== Sys2Proof/Laws/Memory.lean ====
section
/-!
SUPPORT. What the shared operations over memory do, once each: alarms and records change only registers and the event
store; reads of sound lines change nothing; every write keeps memory canonical.
-/

namespace Sys2Proof.Machine

/-! ### Alarms and records change only registers and the event store -/

/-- Two states differ at most in registers and the event store. -/
def RegsSto (s t : State) : Prop := t = { s with regs := t.regs, sto := t.sto }

theorem RegsSto.refl (s : State) : RegsSto s s := rfl

theorem RegsSto.trans {s t u : State} (h : RegsSto s t) (g : RegsSto t u) : RegsSto s u := by
  unfold RegsSto at *; rw [g, h]

theorem RegsSto.mem_eq {s t : State} (h : RegsSto s t) : t.mem = s.mem := by rw [h]
theorem RegsSto.engs_eq {s t : State} (h : RegsSto s t) : t.engs = s.engs := by rw [h]
theorem RegsSto.poison_eq {s t : State} (h : RegsSto s t) : t.poison = s.poison := by rw [h]
theorem RegsSto.ecc_eq {s t : State} (h : RegsSto s t) : t.ecc = s.ecc := by rw [h]
theorem RegsSto.pending_eq {s t : State} (h : RegsSto s t) : t.pending = s.pending := by rw [h]

theorem alarm_only (u : Unt) (s : State) : RegsSto s (alarm u s) := by
  unfold alarm; dsimp only; split <;> rfl

theorem submitBlocks_only (k : Nat) : ∀ (off : Nat) (s : State), RegsSto s (submitBlocks k off s) := by
  induction k with
  | zero => intros; exact .refl _
  | succ k ih =>
    intro off s
    unfold submitBlocks
    split
    · exact .refl _
    · split
      · exact ih _ _
      · dsimp only
        split
        · exact ih _ _
        · split
          · refine RegsSto.trans ?_ (ih _ _); rfl
          · exact .refl _

theorem refuse_only (n : Nat) (b : Bool) (s : State) : RegsSto s (refuse n b s) := by
  unfold refuse; cases b <;> rfl

theorem storeRepeat_only (n : Nat) (s : State) : RegsSto s (storeRepeat n s) := by
  unfold storeRepeat; dsimp only; split <;> rfl

theorem putRecord_only (r : Rec) (off : Nat) (pads : List (Nat × Nat)) (s : State) :
    RegsSto s (putRecord r off pads s) := by
  refine RegsSto.trans ?_ (submitBlocks_only _ _ _); rfl

theorem storePost_only (r : Rec) (b : Bool) (s : State) : RegsSto s (storePost r b s).2.2.2 := by
  have hf : RegsSto s (refuse r.stream true s) := refuse_only _ _ _
  unfold storePost
  dsimp only
  repeat' split
  all_goals first
    | exact storeRepeat_only _ _
    | exact refuse_only _ _ _
    | exact putRecord_only _ _ _ _
    | rfl
    | (refine RegsSto.trans hf ?_; rfl)

theorem postRec_only (r : Rec) (b : Bool) (s : State) : RegsSto s (postRec r b s).2.2 := by
  have h := storePost_only r b s
  unfold postRec
  split
  · rename_i h'; rw [h'] at h; exact h
  · rename_i h'; rw [h'] at h
    exact ((RegsSto.trans h (by rfl)).trans (alarm_only _ _)).trans (storePost_only _ _ _)

/-- A device record changes only registers and the event store. -/
theorem recordCode_only (c : Code) (p : Nat) (ws : List Word) (s : State) : RegsSto s (recordCode c p ws s) :=
  postRec_only _ _ _

theorem record_only (e : Ev) (p : Nat) (ws : List Word) (s : State) : RegsSto s (record e p ws s) :=
  recordCode_only _ _ _ _

theorem alarmRec_only (u : Unt) (e : Ev) (ws : List Word) (s : State) : RegsSto s (alarmRec u e ws s) :=
  (alarm_only u s).trans (record_only _ _ _ _)

theorem recordDenied_only (a b : Nat) (s : State) : RegsSto s (recordDenied a b s) := record_only _ _ _ _

@[simp] theorem alarm_mem (u : Unt) (s : State) : (alarm u s).mem = s.mem := (alarm_only u s).mem_eq
@[simp] theorem record_mem (e : Ev) (p : Nat) (ws : List Word) (s : State) : (record e p ws s).mem = s.mem :=
  (record_only e p ws s).mem_eq
@[simp] theorem alarmRec_mem (u : Unt) (e : Ev) (ws : List Word) (s : State) : (alarmRec u e ws s).mem = s.mem :=
  (alarmRec_only u e ws s).mem_eq

/-! ### Errors that an access meets -/

theorem countCorr_mem (a : Nat) (s : State) : (countCorr a s).mem = s.mem := by simp [countCorr]

theorem countDevice_mem (a : Nat) (s : State) : (countDevice a s).mem = s.mem := by
  unfold countDevice; dsimp only; split <;> simp [countCorr_mem]

theorem memUncorrectable_mem (a : Nat) (s : State) : (memUncorrectable a s).mem = s.mem := by
  simp [memUncorrectable]

theorem meetError_mem (l : Nat) (e : EccErr) (s : State) : (meetError l e s).mem = s.mem := by
  cases e <;> simp only [meetError]
  · exact countCorr_mem _ _
  · split
    · exact countDevice_mem _ _
    · rfl
  · exact memUncorrectable_mem _ _

/-- An access that meets an error changes no byte. -/
@[simp] theorem settleLine_mem (l : Nat) (s : State) : (settleLine l s).mem = s.mem := by
  unfold settleLine; split
  · rfl
  · rw [meetError_mem]

@[simp] theorem settle_mem (ls : List Nat) : ∀ s : State, (settle ls s).mem = s.mem := by
  induction ls with
  | nil => intro s; rfl
  | cons l ls ih => intro s; exact (ih _).trans (settleLine_mem l s)

theorem settleLine_of_sound (l : Nat) (s : State) (h : s.errAt l = .none) : settleLine l s = s := by
  simp [settleLine, h]

/-- Lines without error stay as they are. -/
theorem settle_of_sound (ls : List Nat) (s : State) (h : ∀ l ∈ ls, s.errAt l = .none) : settle ls s = s := by
  induction ls with
  | nil => rfl
  | cons l ls ih =>
    have h0 : settleLine l s = s := settleLine_of_sound l s (h l (by simp))
    have h1 : settle (l :: ls) s = settle ls (settleLine l s) := rfl
    rw [h1, h0]; exact ih (fun x hx => h x (by simp [hx]))

/-! ### Reads and writes of memory -/

/-- A memory read changes no memory. -/
@[simp] theorem memRead_mem (a n : Nat) (s : State) : (memRead a n s).2.2.mem = s.mem := by
  unfold memRead; dsimp only; split
  · split <;> simp
  · simp

theorem settle_sound (a n : Nat) (s : State) (h : s.sound a n = true) : settle (linesOf a n) s = s := by
  simp only [State.sound, List.all_eq_true, Bool.and_eq_true, decide_eq_true_eq] at h
  exact settle_of_sound _ s (fun l hl => (h l hl).2)

theorem not_poisoned_of_sound (a n : Nat) (s : State) (h : s.sound a n = true) : s.poisoned a n = false := by
  simp only [State.sound, List.all_eq_true, Bool.and_eq_true, Bool.not_eq_true', decide_eq_true_eq] at h
  simp only [State.poisoned, List.any_eq_false]
  intro l hl; rw [(h l hl).1]; exact Bool.false_ne_true

/-- A read of sound lines is OK, with their bytes, and changes nothing. -/
theorem memRead_of_sound (a n : Nat) (s : State) (h : s.sound a n = true) : memRead a n s = (.ok, s.bytes a n, s) := by
  simp [memRead, settle_sound a n s h, not_poisoned_of_sound a n s h]

/-- Writing a line keeps memory canonical. -/
theorem lineWrite_wf (a : Nat) (bs : List Byte) (s : State) (h : Memory.wf s.mem = true) :
    Memory.wf (lineWrite a bs s).2.mem = true := by
  unfold lineWrite
  split
  · exact State.setBytes_wf bs a _ h
  · dsimp only
    split
    · rw [settleLine_mem]; exact h
    · exact State.setBytes_wf bs a _ (by rw [settleLine_mem]; exact h)

/-- Writing bytes line by line keeps memory canonical. -/
theorem memWriteN_wf (k : Nat) : ∀ (a : Nat) (bs : List Byte) (st : Status) (s : State), Memory.wf s.mem = true →
    Memory.wf (memWriteN k a bs st s).2.mem = true := by
  induction k with
  | zero => intro a bs st s h; simpa [memWriteN] using h
  | succ k ih =>
    intro a bs st s h
    cases bs with
    | nil => simpa [memWriteN] using h
    | cons b bs => simp only [memWriteN]; exact ih _ _ _ _ (lineWrite_wf _ _ s h)

/-- A memory write keeps memory canonical. -/
theorem memWrite_wf (a : Nat) (bs : List Byte) (s : State) (h : Memory.wf s.mem = true) :
    Memory.wf (memWrite a bs s).2.mem = true := memWriteN_wf _ a bs _ s h

@[simp] theorem noteStale_mem (n a : Nat) (bs : List Byte) (s : State) : (noteStale n a bs s).mem = s.mem := by
  unfold noteStale; split <;> rfl

/-- A write through a partition's region table keeps memory canonical. -/
theorem writePieces_wf (n : Nat) (ps : List (Nat × Nat)) : ∀ (bs : List Byte) (s : State), Memory.wf s.mem = true →
    Memory.wf (writePieces n ps bs s).2.mem = true := by
  induction ps with
  | nil => intro bs s h; exact h
  | cons p ps ih =>
    intro bs s h
    obtain ⟨va, m⟩ := p
    simp only [writePieces]
    split
    · exact h
    · split
      · exact h
      · exact ih _ _ (memWrite_wf _ _ _ (by split <;> simp [h]))

/-- A write into a partition's data space keeps memory canonical. -/
theorem partWrite_wf (n va : Nat) (bs : List Byte) (s : State) (h : Memory.wf s.mem = true) :
    Memory.wf (partWrite n va bs s).2.mem = true := writePieces_wf n _ bs s h

end Sys2Proof.Machine
end

