-- ==== Sys2Proof/Laws/Gleig.lean ====
section
/-!
SUPPORT. What the shared operations of the instructions do, once each: the executor's registers, an instruction that
issues, the operations that change only its own registers, traps, and accesses to private lines.
-/

namespace Sys2Proof.Machine

/-! ### Registers of an executor -/

@[simp] theorem Engine.getW_setW (g : Engine) (d r : WReg) (v : Word) :
    (g.setW d v).getW r = if r = d then v else g.getW r := by
  simp only [Engine.setW, Engine.getW, Tab.get_set]
  by_cases h : r = d
  · simp [h]
  · have hn : ¬ r.toNat = d.toNat := fun e => h (BitVec.eq_of_toNat_eq e)
    simp [h, hn]

@[simp] theorem Engine.getF_setF (g : Engine) (d r : FReg) (v : Word) :
    (g.setF d v).getF r = if r = d then v else g.getF r := by
  simp only [Engine.setF, Engine.getF, Tab.get_set]
  by_cases h : r = d
  · simp [h]
  · have hn : ¬ r.toNat = d.toNat := fun e => h (BitVec.eq_of_toNat_eq e)
    simp [h, hn]

/-! ### An instruction that issues -/

theorem selfInjection_of_not_armed (s : State) (e : Exe) (h : selfArmed s e = false) : selfInjection e.val s = s := by
  unfold selfInjection
  unfold selfArmed at h
  generalize hi : (s.triad (e.val / 3)).inj = i at *
  cases i with
  | none => simp [hi]
  | some p =>
    obtain ⟨l, k⟩ := p
    simp only at h
    simp only [hi, h, Bool.false_eq_true, if_false]

/-- An instruction of an executor that issues is its own effect. -/
theorem onExec_of_issues (s : State) (e : Exe) (f : State → State) (h : issues s e = true) : onExec e.val f s = f s := by
  simp only [issues, Bool.and_eq_true, Bool.not_eq_true'] at h
  obtain ⟨⟨h1, h2⟩, h3⟩ := h
  unfold onExec
  simp only [selfInjection_of_not_armed s e h2, h1, Bool.not_true, Bool.false_eq_true, if_false]
  unfold fetched
  split at h3
  · rename_i pa hp
    simp [hp, memRead_of_sound pa 4 s h3]
  · simp at h3

/-- An executor that does not issue does nothing. -/
theorem onExec_of_not_mayIssue (s : State) (e : Nat) (f : State → State) (h : mayIssue s e = false) : onExec e f s = s := by
  simp [onExec, h]

/-- An operation on the executor's own registers changes them by its function and steps PC. -/
theorem plainOp_of_issues (s : State) (e : Exe) (f : Engine → Engine) (h : issues s e = true) :
    plainOp e.val f s = s.setEng e.val (f (s.eng e.val)).next := onExec_of_issues s e _ h

/-- A word operation that does not trap writes its result and FL and steps PC. -/
theorem aluEnd_of_no_trap (s : State) (e : Exe) (d : WReg) (r : Alu) (h : r.trap (s.eng e.val).sw = none) :
    aluEnd e.val d r s = wrote s e d r.val (r.flags (s.eng e.val).fl) := by
  simp [aluEnd, h, wrote]

/-- A word operation that traps is complete before its exception (05 R118). -/
theorem aluEnd_of_trap (s : State) (e : Exe) (d : WReg) (r : Alu) (x : Nat) (h : r.trap (s.eng e.val).sw = some x) :
    aluEnd e.val d r s = raise e.val x .ok 0 (s.PC e + 4) (wrote s e d r.val (r.flags (s.eng e.val).fl)) := by
  simp [aluEnd, h, wrote]

/-- An outcome without DZ traps only where V is masked on. -/
theorem Alu.trap_none (r : Alu) (sw : Word) (hd : r.dz ≠ some true) (hv : sw.getLsbD 4 = false) : r.trap sw = none := by
  simp only [Alu.trap, hd, hv, decide_false, Bool.false_and, Bool.and_false, Bool.false_eq_true, if_false]

/-- A saturating or logical outcome never traps. -/
theorem Alu.trap_none_of_quiet (r : Alu) (sw : Word) (hd : r.dz ≠ some true) (hv : r.traps = false ∨ r.v ≠ some true) :
    r.trap sw = none := by
  unfold Alu.trap
  rcases hv with hv | hv <;> simp [hd, hv]

/-! ### Private lines and the vector table -/

/-- A private store keeps memory as it was. -/
theorem privStore_mem (e a : Nat) (bs : List Byte) (s : State) : (privStore e a bs s).2.mem = s.mem := by
  unfold privStore; dsimp only; split <;> simp

/-- A private store into sound lines is OK and changes only the executor's dirty bytes. -/
theorem privStore_of_sound (e a : Nat) (bs : List Byte) (s : State) (h : s.sound a bs.length = true) :
    privStore e a bs s = (.ok, s.setEng e { s.eng e with dirty := dirtyPut a bs (s.eng e).dirty }) := by
  simp [privStore, settle_sound _ _ s h, not_poisoned_of_sound _ _ s h]

/-- A read of memory by an executor keeps memory as it was. -/
theorem memLoad_mem (e a n : Nat) (s : State) : (memLoad e a n s).2.2.mem = s.mem := by
  unfold memLoad; dsimp only; split
  · simp
  · split <;> simp

/-- Where the executor holds no stale byte, a load of sound lines reads them under its own dirty bytes. -/
theorem memLoad_of_sound (e a n : Nat) (s : State) (h : s.sound a n = true) (hs : (s.eng e).stale = []) :
    memLoad e a n s = (.ok, overlay (s.eng e).dirty a (s.bytes a n), s) := by
  simp [memLoad, memRead_of_sound a n s h, hs]

/-- A shared store keeps memory canonical. -/
theorem sharedStore_wf (e a : Nat) (bs : List Byte) (s : State) (h : Memory.wf s.mem = true) :
    Memory.wf (sharedStore e a bs s).2.mem = true := by
  simp only [sharedStore]
  split
  · exact memWrite_wf a bs s h
  · exact memWrite_wf a bs s h

end Sys2Proof.Machine
end

