-- ==== Sys2Proof/Laws/PerInstr.lean ====
section
/-!
SUPPORT. What holds of every command as syntax: the word of an instruction carries a major value that 06 R139 assigns,
and a command that is no instruction has no word.
-/

namespace Sys2Proof.Laws

/-- The major values that 06 R139 assigns. -/
def majors : List Nat :=
  [1, 2, 3, 4, 5, 6, 7, 8, 16, 17] ++ [24, 25, 26, 27, 28, 29, 30, 32, 33, 34, 35, 36, 37] ++ [40, 41, 42, 43, 48, 49, 50, 51]

/-- The major field of format R. -/
theorem wordR_major (m : BitVec 6) (d a b c : BitVec 5) (f : BitVec 6) : (wordR m d a b c f).extractLsb' 26 6 = m := by
  apply BitVec.eq_of_getLsbD_eq
  intro i hi
  simp only [wordR, BitVec.getLsbD_extractLsb', BitVec.getLsbD_append]
  simp [hi, show ¬ 26 + i < 6 from by omega, show ¬ 26 + i - 6 < 5 from by omega, show ¬ 26 + i - 6 - 5 < 5 from by omega,
    show ¬ 26 + i - 6 - 5 - 5 < 5 from by omega, show ¬ 26 + i - 6 - 5 - 5 - 5 < 5 from by omega,
    show 26 + i - 6 - 5 - 5 - 5 - 5 = i from by omega]

/-- The major field of format I. -/
theorem wordI_major (m : BitVec 6) (d a : BitVec 5) (imm : BitVec 16) : (wordI m d a imm).extractLsb' 26 6 = m := by
  apply BitVec.eq_of_getLsbD_eq
  intro i hi
  simp only [wordI, BitVec.getLsbD_extractLsb', BitVec.getLsbD_append]
  simp [hi, show ¬ 26 + i < 16 from by omega, show ¬ 26 + i - 16 < 5 from by omega, show ¬ 26 + i - 16 - 5 < 5 from by omega,
    show 26 + i - 16 - 5 - 5 = i from by omega]

/-- The major field of a jump. -/
theorem jump_major (m : BitVec 6) (off : BitVec 26) : (m ++ off : BitVec 32).extractLsb' 26 6 = m := by
  apply BitVec.eq_of_getLsbD_eq
  intro i hi
  simp only [BitVec.getLsbD_extractLsb', BitVec.getLsbD_append]
  simp [hi, show ¬ 26 + i < 26 from by omega]

/-- The major field of SVC. -/
theorem svc_major (n : BitVec 12) : (5#6 ++ 0#14 ++ n : BitVec 32).extractLsb' 26 6 = 5#6 := by
  apply BitVec.eq_of_getLsbD_eq
  intro i hi
  simp only [BitVec.getLsbD_extractLsb', BitVec.getLsbD_append]
  simp [hi, show ¬ 26 + i < 12 from by omega, show ¬ 26 + i - 12 < 14 from by omega, show 26 + i - 12 - 14 = i from by omega]

/-- The major field of a bit instruction: 16 for a direct operand, 17 for an indirect one. -/
theorem wordBit_major (op : BitVec 5) (o : BitOpd) : (wordBit op o).extractLsb' 26 6 = 16#6 ∨ (wordBit op o).extractLsb' 26 6 = 17#6 := by
  cases o with
  | direct sp y k =>
    refine Or.inl (BitVec.eq_of_getLsbD_eq fun i hi => ?_)
    simp only [wordBit, BitVec.getLsbD_extractLsb', BitVec.getLsbD_append]
    simp [hi, show ¬ 26 + i < 3 from by omega, show ¬ 26 + i - 3 < 16 from by omega, show ¬ 26 + i - 3 - 16 < 2 from by omega,
      show ¬ 26 + i - 3 - 16 - 2 < 5 from by omega, show 26 + i - 3 - 16 - 2 - 5 = i from by omega]
  | indirect sp a b =>
    refine Or.inr (BitVec.eq_of_getLsbD_eq fun i hi => ?_)
    simp only [wordBit, BitVec.getLsbD_extractLsb', BitVec.getLsbD_append]
    simp [hi, show ¬ 26 + i < 9 from by omega, show ¬ 26 + i - 9 < 5 from by omega, show ¬ 26 + i - 9 - 5 < 5 from by omega,
      show ¬ 26 + i - 9 - 5 - 5 < 2 from by omega, show ¬ 26 + i - 9 - 5 - 5 - 2 < 5 from by omega,
      show 26 + i - 9 - 5 - 5 - 2 - 5 = i from by omega]

/-- A word has a major value that 06 R139 assigns. -/
def HasMajor (w : Word) : Prop := (w.extractLsb' 26 6).toNat ∈ majors

/-- Format R with an assigned major. -/
theorem hasMajor_R {m : BitVec 6} (h : m.toNat ∈ majors) (d a b c : BitVec 5) (f : BitVec 6) : HasMajor (wordR m d a b c f) := by
  rw [HasMajor, wordR_major]; exact h

/-- Format I with an assigned major. -/
theorem hasMajor_I {m : BitVec 6} (h : m.toNat ∈ majors) (d a : BitVec 5) (imm : BitVec 16) : HasMajor (wordI m d a imm) := by
  rw [HasMajor, wordI_major]; exact h

/-- A jump with an assigned major. -/
theorem hasMajor_J {m : BitVec 6} (h : m.toNat ∈ majors) (off : BitVec 26) : HasMajor (m ++ off : BitVec 32) := by
  rw [HasMajor, jump_major]; exact h

/-- SVC. -/
theorem hasMajor_svc (n : BitVec 12) : HasMajor (5#6 ++ 0#14 ++ n : BitVec 32) := by
  rw [HasMajor, svc_major]; decide

/-- A bit instruction. -/
theorem hasMajor_bit (op : BitVec 5) (o : BitOpd) : HasMajor (wordBit op o) := by
  unfold HasMajor
  rcases wordBit_major op o with h | h <;> rw [h] <;> decide

/-- If a command has a word, its major value is an assigned one. -/
def Shape.Statement (i : Instr) : Prop := ∀ w, gleigWord i = some w → HasMajor w

/-- A command with a word of an assigned major. -/
theorem shape_some {i : Instr} {w : Word} (h : gleigWord i = some w) (m : HasMajor w) : Shape.Statement i := by
  intro v hv
  rw [h] at hv
  exact Option.some.inj hv ▸ m

/-- A command without a word. -/
theorem shape_none {i : Instr} (h : gleigWord i = none) : Shape.Statement i := by
  intro v hv
  rw [h] at hv
  cases hv

theorem Shape.registerWrite (w : Who) (addr : BitVec 40) (sz : Size) (v : Word) : Shape.Statement (.registerWrite w addr sz v) := shape_none rfl
theorem Shape.pewterWriteArrival : Shape.Statement .pewterWriteArrival := shape_none rfl
theorem Shape.vpewPowerUp : Shape.Statement .vpewPowerUp := shape_none rfl
theorem Shape.vpewBelowThreshold : Shape.Statement .vpewBelowThreshold := shape_none rfl
theorem Shape.powerUpResetEnd : Shape.Statement .powerUpResetEnd := shape_none rfl
theorem Shape.monitorArm : Shape.Statement .monitorArm := shape_none rfl
theorem Shape.vcoreConnect (groupB : Bool) : Shape.Statement (.vcoreConnect groupB) := shape_none rfl
theorem Shape.vcoreDisconnect (groupB : Bool) : Shape.Statement (.vcoreDisconnect groupB) := shape_none rfl
theorem Shape.pfailRise : Shape.Statement .pfailRise := shape_none rfl
theorem Shape.flushComplete : Shape.Statement .flushComplete := shape_none rfl
theorem Shape.pfailFall : Shape.Statement .pfailFall := shape_none rfl
theorem Shape.brownOut : Shape.Statement .brownOut := shape_none rfl
theorem Shape.brownOutRecovery : Shape.Statement .brownOutRecovery := shape_none rfl
theorem Shape.dozeRequest (w : Who) (v : Word) : Shape.Statement (.dozeRequest w v) := shape_none rfl
theorem Shape.pewterRequest (w : Who) (v : Word) : Shape.Statement (.pewterRequest w v) := shape_none rfl
theorem Shape.powerStateEntry : Shape.Statement .powerStateEntry := shape_none rfl
theorem Shape.wake : Shape.Statement .wake := shape_none rfl
theorem Shape.wakePin : Shape.Statement .wakePin := shape_none rfl
theorem Shape.warmResetSw (w : Who) (v : Word) : Shape.Statement (.warmResetSw w v) := shape_none rfl
theorem Shape.coldResetSw (w : Who) (v : Word) : Shape.Statement (.coldResetSw w v) := shape_none rfl
theorem Shape.wrstLLow : Shape.Statement .wrstLLow := shape_none rfl
theorem Shape.wrstLRelease : Shape.Statement .wrstLRelease := shape_none rfl
theorem Shape.porstLLow : Shape.Statement .porstLLow := shape_none rfl
theorem Shape.porstLRelease : Shape.Statement .porstLRelease := shape_none rfl
theorem Shape.trstLLow : Shape.Statement .trstLLow := shape_none rfl
theorem Shape.deferredReset : Shape.Statement .deferredReset := shape_none rfl
theorem Shape.fuseLoad : Shape.Statement .fuseLoad := shape_none rfl
theorem Shape.xaDelayExpiry : Shape.Statement .xaDelayExpiry := shape_none rfl
theorem Shape.xbDelayExpiry : Shape.Statement .xbDelayExpiry := shape_none rfl
theorem Shape.xaConfirmTimeout : Shape.Statement .xaConfirmTimeout := shape_none rfl
theorem Shape.pllLock (n : Fin 4) : Shape.Statement (.pllLock n) := shape_none rfl
theorem Shape.memoryInitDone : Shape.Statement .memoryInitDone := shape_none rfl
theorem Shape.foundryImageDone : Shape.Statement .foundryImageDone := shape_none rfl
theorem Shape.microcodeLoaded : Shape.Statement .microcodeLoaded := shape_none rfl
theorem Shape.bootStopRepeat : Shape.Statement .bootStopRepeat := shape_none rfl
theorem Shape.xaMonitorWindow (cnt : BitVec 16) : Shape.Statement (.xaMonitorWindow cnt) := shape_none rfl
theorem Shape.xbMonitorWindow (cnt : BitVec 16) : Shape.Statement (.xbMonitorWindow cnt) := shape_none rfl
theorem Shape.xaStop : Shape.Statement .xaStop := shape_none rfl
theorem Shape.xbStop : Shape.Statement .xbStop := shape_none rfl
theorem Shape.pllUnlock (n : Fin 4) : Shape.Statement (.pllUnlock n) := shape_none rfl
theorem Shape.clockRequest (d : Domain) : Shape.Statement (.clockRequest d) := shape_none rfl
theorem Shape.pllHoldExpiry (n : Fin 4) : Shape.Statement (.pllHoldExpiry n) := shape_none rfl
theorem Shape.epllfreqWrite (w : Who) (v : Word) : Shape.Statement (.epllfreqWrite w v) := shape_none rfl
theorem Shape.replicaSync (u : Fin 16) (val : BitVec 64) : Shape.Statement (.replicaSync u val) := shape_none rfl
theorem Shape.timebaseHandover : Shape.Statement .timebaseHandover := shape_none rfl
theorem Shape.tbslewWrite (w : Who) (v : Word) : Shape.Statement (.tbslewWrite w v) := shape_none rfl
theorem Shape.timebaseStep (w : Who) (v : Word) : Shape.Statement (.timebaseStep w v) := shape_none rfl
theorem Shape.tbnsLoRead (w : Who) : Shape.Statement (.tbnsLoRead w) := shape_none rfl
theorem Shape.comparatorAllocate (w : Who) (n : Fin 32) (v : Word) : Shape.Statement (.comparatorAllocate w n v) := shape_none rfl
theorem Shape.comparatorControlWrite (w : Who) (n : Fin 32) (v : Word) : Shape.Statement (.comparatorControlWrite w n v) := shape_none rfl
theorem Shape.comparatorPeriodWrite (w : Who) (n : Fin 32) (v : Word) : Shape.Statement (.comparatorPeriodWrite w n v) := shape_none rfl
theorem Shape.comparatorFire (n : Fin 32) (meas : List Meas) : Shape.Statement (.comparatorFire n meas) := shape_none rfl
theorem Shape.trigEdge (n : Fin 2) (rising : Bool) : Shape.Statement (.trigEdge n rising) := shape_none rfl
theorem Shape.trigStampRead (w : Who) (i : Fin 2) : Shape.Statement (.trigStampRead w i) := shape_none rfl
theorem Shape.ppsPulseEnd (i : Fin 2) : Shape.Statement (.ppsPulseEnd i) := shape_none rfl
theorem Shape.laneOutput (t : Fin 32) (l : Lane) (cyc : Nat) (o : BusOut) : Shape.Statement (.laneOutput t l cyc o) := shape_none rfl
theorem Shape.voterWindowExpiry (t : Fin 32) (cyc : Nat) : Shape.Statement (.voterWindowExpiry t cyc) := shape_none rfl
theorem Shape.selfError (t : Fin 32) (err : LaneErr) : Shape.Statement (.selfError t err) := shape_none rfl
theorem Shape.voterDisagreement (t : Fin 32) : Shape.Statement (.voterDisagreement t) := shape_none rfl
theorem Shape.resync (t : Fin 32) : Shape.Statement (.resync t) := shape_none rfl
theorem Shape.resyncDone (t : Fin 32) (pass : BitVec 3) (flushOk : Bool) : Shape.Statement (.resyncDone t pass flushOk) := shape_none rfl
theorem Shape.resyncDeferExpiry (t : Fin 32) : Shape.Statement (.resyncDeferExpiry t) := shape_none rfl
theorem Shape.modeRequest (w : Who) (t : Fin 32) (v : Word) : Shape.Statement (.modeRequest w t v) := shape_none rfl
theorem Shape.handoverBoundary (t : Fin 32) : Shape.Statement (.handoverBoundary t) := shape_none rfl
theorem Shape.bistComplete (t : Fin 32) (pass : BitVec 3) : Shape.Statement (.bistComplete t pass) := shape_none rfl
theorem Shape.splitComplete (t : Fin 32) : Shape.Statement (.splitComplete t) := shape_none rfl
theorem Shape.mergeComplete (t : Fin 32) (pass : BitVec 3) : Shape.Statement (.mergeComplete t pass) := shape_none rfl
theorem Shape.engineError (e : Fin 96) : Shape.Statement (.engineError e) := shape_none rfl
theorem Shape.haltRequest (w : Who) (t : Fin 32) (v : Word) : Shape.Statement (.haltRequest w t v) := shape_none rfl
theorem Shape.debugResume (w : Who) (t : Fin 32) (v : Word) : Shape.Statement (.debugResume w t v) := shape_none rfl
theorem Shape.debugStep (w : Who) (t : Fin 32) (v : Word) : Shape.Statement (.debugStep w t v) := shape_none rfl
theorem Shape.faultInjection (w : Who) (v : Word) : Shape.Statement (.faultInjection w v) := shape_none rfl
theorem Shape.add (e : Exe) (d : WReg) (a : WReg) (b : WReg) : Shape.Statement (.add e d a b) := shape_some rfl (hasMajor_R (by decide) _ _ _ _ _)
theorem Shape.sub (e : Exe) (d : WReg) (a : WReg) (b : WReg) : Shape.Statement (.sub e d a b) := shape_some rfl (hasMajor_R (by decide) _ _ _ _ _)
theorem Shape.adds (e : Exe) (d : WReg) (a : WReg) (b : WReg) : Shape.Statement (.adds e d a b) := shape_some rfl (hasMajor_R (by decide) _ _ _ _ _)
theorem Shape.subs (e : Exe) (d : WReg) (a : WReg) (b : WReg) : Shape.Statement (.subs e d a b) := shape_some rfl (hasMajor_R (by decide) _ _ _ _ _)
theorem Shape.neg (e : Exe) (d : WReg) (a : WReg) : Shape.Statement (.neg e d a) := shape_some rfl (hasMajor_R (by decide) _ _ _ _ _)
theorem Shape.mul (e : Exe) (d : WReg) (a : WReg) (b : WReg) : Shape.Statement (.mul e d a b) := shape_some rfl (hasMajor_R (by decide) _ _ _ _ _)
theorem Shape.muls (e : Exe) (d : WReg) (a : WReg) (b : WReg) : Shape.Statement (.muls e d a b) := shape_some rfl (hasMajor_R (by decide) _ _ _ _ _)
theorem Shape.div (e : Exe) (d : WReg) (a : WReg) (b : WReg) (c : WReg) : Shape.Statement (.div e d a b c) := shape_some rfl (hasMajor_R (by decide) _ _ _ _ _)
theorem Shape.divu (e : Exe) (d : WReg) (a : WReg) (b : WReg) (c : WReg) : Shape.Statement (.divu e d a b c) := shape_some rfl (hasMajor_R (by decide) _ _ _ _ _)
theorem Shape.and (e : Exe) (d : WReg) (a : WReg) (b : WReg) : Shape.Statement (.and e d a b) := shape_some rfl (hasMajor_R (by decide) _ _ _ _ _)
theorem Shape.or (e : Exe) (d : WReg) (a : WReg) (b : WReg) : Shape.Statement (.or e d a b) := shape_some rfl (hasMajor_R (by decide) _ _ _ _ _)
theorem Shape.xor (e : Exe) (d : WReg) (a : WReg) (b : WReg) : Shape.Statement (.xor e d a b) := shape_some rfl (hasMajor_R (by decide) _ _ _ _ _)
theorem Shape.not (e : Exe) (d : WReg) (a : WReg) : Shape.Statement (.not e d a) := shape_some rfl (hasMajor_R (by decide) _ _ _ _ _)
theorem Shape.shl (e : Exe) (d : WReg) (a : WReg) (b : WReg) : Shape.Statement (.shl e d a b) := shape_some rfl (hasMajor_R (by decide) _ _ _ _ _)
theorem Shape.shr (e : Exe) (d : WReg) (a : WReg) (b : WReg) : Shape.Statement (.shr e d a b) := shape_some rfl (hasMajor_R (by decide) _ _ _ _ _)
theorem Shape.sar (e : Exe) (d : WReg) (a : WReg) (b : WReg) : Shape.Statement (.sar e d a b) := shape_some rfl (hasMajor_R (by decide) _ _ _ _ _)
theorem Shape.rol (e : Exe) (d : WReg) (a : WReg) (b : WReg) : Shape.Statement (.rol e d a b) := shape_some rfl (hasMajor_R (by decide) _ _ _ _ _)
theorem Shape.ror (e : Exe) (d : WReg) (a : WReg) (b : WReg) : Shape.Statement (.ror e d a b) := shape_some rfl (hasMajor_R (by decide) _ _ _ _ _)
theorem Shape.mov (e : Exe) (d : WReg) (a : WReg) : Shape.Statement (.mov e d a) := shape_some rfl (hasMajor_R (by decide) _ _ _ _ _)
theorem Shape.addi (e : Exe) (d : WReg) (a : WReg) (imm : BitVec 16) : Shape.Statement (.addi e d a imm) := shape_some rfl (hasMajor_I (by decide) _ _ _)
theorem Shape.andi (e : Exe) (d : WReg) (a : WReg) (imm : BitVec 16) : Shape.Statement (.andi e d a imm) := shape_some rfl (hasMajor_I (by decide) _ _ _)
theorem Shape.ori (e : Exe) (d : WReg) (a : WReg) (imm : BitVec 16) : Shape.Statement (.ori e d a imm) := shape_some rfl (hasMajor_I (by decide) _ _ _)
theorem Shape.xori (e : Exe) (d : WReg) (a : WReg) (imm : BitVec 16) : Shape.Statement (.xori e d a imm) := shape_some rfl (hasMajor_I (by decide) _ _ _)
theorem Shape.movi (e : Exe) (d : WReg) (imm : BitVec 16) : Shape.Statement (.movi e d imm) := shape_some rfl (hasMajor_I (by decide) _ _ _)
theorem Shape.movhi (e : Exe) (d : WReg) (imm : BitVec 16) : Shape.Statement (.movhi e d imm) := shape_some rfl (hasMajor_I (by decide) _ _ _)
theorem Shape.shi (e : Exe) (d : WReg) (a : WReg) (kind : BitVec 3) (cnt : BitVec 8) : Shape.Statement (.shi e d a kind cnt) := shape_some rfl (hasMajor_I (by decide) _ _ _)
theorem Shape.ldw (e : Exe) (d : WReg) (a : WReg) (imm : BitVec 16) : Shape.Statement (.ldw e d a imm) := shape_some rfl (hasMajor_I (by decide) _ _ _)
theorem Shape.ldh (e : Exe) (d : WReg) (a : WReg) (imm : BitVec 16) : Shape.Statement (.ldh e d a imm) := shape_some rfl (hasMajor_I (by decide) _ _ _)
theorem Shape.ldhu (e : Exe) (d : WReg) (a : WReg) (imm : BitVec 16) : Shape.Statement (.ldhu e d a imm) := shape_some rfl (hasMajor_I (by decide) _ _ _)
theorem Shape.ldb (e : Exe) (d : WReg) (a : WReg) (imm : BitVec 16) : Shape.Statement (.ldb e d a imm) := shape_some rfl (hasMajor_I (by decide) _ _ _)
theorem Shape.ldbu (e : Exe) (d : WReg) (a : WReg) (imm : BitVec 16) : Shape.Statement (.ldbu e d a imm) := shape_some rfl (hasMajor_I (by decide) _ _ _)
theorem Shape.ldf (e : Exe) (d : FReg) (a : WReg) (imm : BitVec 16) : Shape.Statement (.ldf e d a imm) := shape_some rfl (hasMajor_I (by decide) _ _ _)
theorem Shape.stw (e : Exe) (d : WReg) (a : WReg) (imm : BitVec 16) : Shape.Statement (.stw e d a imm) := shape_some rfl (hasMajor_I (by decide) _ _ _)
theorem Shape.sth (e : Exe) (d : WReg) (a : WReg) (imm : BitVec 16) : Shape.Statement (.sth e d a imm) := shape_some rfl (hasMajor_I (by decide) _ _ _)
theorem Shape.stb (e : Exe) (d : WReg) (a : WReg) (imm : BitVec 16) : Shape.Statement (.stb e d a imm) := shape_some rfl (hasMajor_I (by decide) _ _ _)
theorem Shape.stf (e : Exe) (d : FReg) (a : WReg) (imm : BitVec 16) : Shape.Statement (.stf e d a imm) := shape_some rfl (hasMajor_I (by decide) _ _ _)
theorem Shape.cmpEq (e : Exe) (a : WReg) (b : WReg) : Shape.Statement (.cmpEq e a b) := shape_some rfl (hasMajor_R (by decide) _ _ _ _ _)
theorem Shape.cmpNe (e : Exe) (a : WReg) (b : WReg) : Shape.Statement (.cmpNe e a b) := shape_some rfl (hasMajor_R (by decide) _ _ _ _ _)
theorem Shape.cmpLt (e : Exe) (a : WReg) (b : WReg) : Shape.Statement (.cmpLt e a b) := shape_some rfl (hasMajor_R (by decide) _ _ _ _ _)
theorem Shape.cmpLe (e : Exe) (a : WReg) (b : WReg) : Shape.Statement (.cmpLe e a b) := shape_some rfl (hasMajor_R (by decide) _ _ _ _ _)
theorem Shape.cmpGt (e : Exe) (a : WReg) (b : WReg) : Shape.Statement (.cmpGt e a b) := shape_some rfl (hasMajor_R (by decide) _ _ _ _ _)
theorem Shape.cmpGe (e : Exe) (a : WReg) (b : WReg) : Shape.Statement (.cmpGe e a b) := shape_some rfl (hasMajor_R (by decide) _ _ _ _ _)
theorem Shape.cmpLtu (e : Exe) (a : WReg) (b : WReg) : Shape.Statement (.cmpLtu e a b) := shape_some rfl (hasMajor_R (by decide) _ _ _ _ _)
theorem Shape.cmpLeu (e : Exe) (a : WReg) (b : WReg) : Shape.Statement (.cmpLeu e a b) := shape_some rfl (hasMajor_R (by decide) _ _ _ _ _)
theorem Shape.cmpGtu (e : Exe) (a : WReg) (b : WReg) : Shape.Statement (.cmpGtu e a b) := shape_some rfl (hasMajor_R (by decide) _ _ _ _ _)
theorem Shape.cmpGeu (e : Exe) (a : WReg) (b : WReg) : Shape.Statement (.cmpGeu e a b) := shape_some rfl (hasMajor_R (by decide) _ _ _ _ _)
theorem Shape.fcmpEq (e : Exe) (a : FReg) (b : FReg) : Shape.Statement (.fcmpEq e a b) := shape_some rfl (hasMajor_R (by decide) _ _ _ _ _)
theorem Shape.fcmpNe (e : Exe) (a : FReg) (b : FReg) : Shape.Statement (.fcmpNe e a b) := shape_some rfl (hasMajor_R (by decide) _ _ _ _ _)
theorem Shape.fcmpLt (e : Exe) (a : FReg) (b : FReg) : Shape.Statement (.fcmpLt e a b) := shape_some rfl (hasMajor_R (by decide) _ _ _ _ _)
theorem Shape.fcmpLe (e : Exe) (a : FReg) (b : FReg) : Shape.Statement (.fcmpLe e a b) := shape_some rfl (hasMajor_R (by decide) _ _ _ _ _)
theorem Shape.fcmpGt (e : Exe) (a : FReg) (b : FReg) : Shape.Statement (.fcmpGt e a b) := shape_some rfl (hasMajor_R (by decide) _ _ _ _ _)
theorem Shape.fcmpGe (e : Exe) (a : FReg) (b : FReg) : Shape.Statement (.fcmpGe e a b) := shape_some rfl (hasMajor_R (by decide) _ _ _ _ _)
theorem Shape.addf (e : Exe) (d : FReg) (a : FReg) (b : FReg) : Shape.Statement (.addf e d a b) := shape_some rfl (hasMajor_R (by decide) _ _ _ _ _)
theorem Shape.subf (e : Exe) (d : FReg) (a : FReg) (b : FReg) : Shape.Statement (.subf e d a b) := shape_some rfl (hasMajor_R (by decide) _ _ _ _ _)
theorem Shape.mulf (e : Exe) (d : FReg) (a : FReg) (b : FReg) : Shape.Statement (.mulf e d a b) := shape_some rfl (hasMajor_R (by decide) _ _ _ _ _)
theorem Shape.divf (e : Exe) (d : FReg) (a : FReg) (b : FReg) : Shape.Statement (.divf e d a b) := shape_some rfl (hasMajor_R (by decide) _ _ _ _ _)
theorem Shape.sqrtf (e : Exe) (d : FReg) (a : FReg) : Shape.Statement (.sqrtf e d a) := shape_some rfl (hasMajor_R (by decide) _ _ _ _ _)
theorem Shape.absf (e : Exe) (d : FReg) (a : FReg) : Shape.Statement (.absf e d a) := shape_some rfl (hasMajor_R (by decide) _ _ _ _ _)
theorem Shape.negf (e : Exe) (d : FReg) (a : FReg) : Shape.Statement (.negf e d a) := shape_some rfl (hasMajor_R (by decide) _ _ _ _ _)
theorem Shape.movf (e : Exe) (d : FReg) (a : FReg) : Shape.Statement (.movf e d a) := shape_some rfl (hasMajor_R (by decide) _ _ _ _ _)
theorem Shape.cvtfw (e : Exe) (d : WReg) (a : FReg) : Shape.Statement (.cvtfw e d a) := shape_some rfl (hasMajor_R (by decide) _ _ _ _ _)
theorem Shape.cvtwf (e : Exe) (d : FReg) (a : WReg) : Shape.Statement (.cvtwf e d a) := shape_some rfl (hasMajor_R (by decide) _ _ _ _ _)
theorem Shape.movfw (e : Exe) (d : WReg) (a : FReg) : Shape.Statement (.movfw e d a) := shape_some rfl (hasMajor_R (by decide) _ _ _ _ _)
theorem Shape.movwf (e : Exe) (d : FReg) (a : WReg) : Shape.Statement (.movwf e d a) := shape_some rfl (hasMajor_R (by decide) _ _ _ _ _)
theorem Shape.bld (e : Exe) (o : BitOpd) : Shape.Statement (.bld e o) := shape_some rfl (hasMajor_bit _ _)
theorem Shape.bldn (e : Exe) (o : BitOpd) : Shape.Statement (.bldn e o) := shape_some rfl (hasMajor_bit _ _)
theorem Shape.band (e : Exe) (o : BitOpd) : Shape.Statement (.band e o) := shape_some rfl (hasMajor_bit _ _)
theorem Shape.bandn (e : Exe) (o : BitOpd) : Shape.Statement (.bandn e o) := shape_some rfl (hasMajor_bit _ _)
theorem Shape.bor (e : Exe) (o : BitOpd) : Shape.Statement (.bor e o) := shape_some rfl (hasMajor_bit _ _)
theorem Shape.born (e : Exe) (o : BitOpd) : Shape.Statement (.born e o) := shape_some rfl (hasMajor_bit _ _)
theorem Shape.bxor (e : Exe) (o : BitOpd) : Shape.Statement (.bxor e o) := shape_some rfl (hasMajor_bit _ _)
theorem Shape.bxorn (e : Exe) (o : BitOpd) : Shape.Statement (.bxorn e o) := shape_some rfl (hasMajor_bit _ _)
theorem Shape.bset (e : Exe) (o : BitOpd) : Shape.Statement (.bset e o) := shape_some rfl (hasMajor_bit _ _)
theorem Shape.bclr (e : Exe) (o : BitOpd) : Shape.Statement (.bclr e o) := shape_some rfl (hasMajor_bit _ _)
theorem Shape.basg (e : Exe) (o : BitOpd) : Shape.Statement (.basg e o) := shape_some rfl (hasMajor_bit _ _)
theorem Shape.brise (e : Exe) (o : BitOpd) : Shape.Statement (.brise e o) := shape_some rfl (hasMajor_bit _ _)
theorem Shape.bfall (e : Exe) (o : BitOpd) : Shape.Statement (.bfall e o) := shape_some rfl (hasMajor_bit _ _)
theorem Shape.laNot (e : Exe) : Shape.Statement (.laNot e) := shape_some rfl (hasMajor_R (by decide) _ _ _ _ _)
theorem Shape.gopenLd (e : Exe) : Shape.Statement (.gopenLd e) := shape_some rfl (hasMajor_R (by decide) _ _ _ _ _)
theorem Shape.gopenAnd (e : Exe) : Shape.Statement (.gopenAnd e) := shape_some rfl (hasMajor_R (by decide) _ _ _ _ _)
theorem Shape.gopenOr (e : Exe) : Shape.Statement (.gopenOr e) := shape_some rfl (hasMajor_R (by decide) _ _ _ _ _)
theorem Shape.gopenXor (e : Exe) : Shape.Statement (.gopenXor e) := shape_some rfl (hasMajor_R (by decide) _ _ _ _ _)
theorem Shape.gopenAndn (e : Exe) : Shape.Statement (.gopenAndn e) := shape_some rfl (hasMajor_R (by decide) _ _ _ _ _)
theorem Shape.gopenOrn (e : Exe) : Shape.Statement (.gopenOrn e) := shape_some rfl (hasMajor_R (by decide) _ _ _ _ _)
theorem Shape.gopenXorn (e : Exe) : Shape.Statement (.gopenXorn e) := shape_some rfl (hasMajor_R (by decide) _ _ _ _ _)
theorem Shape.gclose (e : Exe) : Shape.Statement (.gclose e) := shape_some rfl (hasMajor_R (by decide) _ _ _ _ _)
theorem Shape.rdla (e : Exe) (d : WReg) : Shape.Statement (.rdla e d) := shape_some rfl (hasMajor_R (by decide) _ _ _ _ _)
theorem Shape.wrla (e : Exe) (a : WReg) : Shape.Statement (.wrla e a) := shape_some rfl (hasMajor_R (by decide) _ _ _ _ _)
theorem Shape.tonUs (e : Exe) (a : WReg) (b : WReg) : Shape.Statement (.tonUs e a b) := shape_some rfl (hasMajor_R (by decide) _ _ _ _ _)
theorem Shape.tonMs (e : Exe) (a : WReg) (b : WReg) : Shape.Statement (.tonMs e a b) := shape_some rfl (hasMajor_R (by decide) _ _ _ _ _)
theorem Shape.tofUs (e : Exe) (a : WReg) (b : WReg) : Shape.Statement (.tofUs e a b) := shape_some rfl (hasMajor_R (by decide) _ _ _ _ _)
theorem Shape.tofMs (e : Exe) (a : WReg) (b : WReg) : Shape.Statement (.tofMs e a b) := shape_some rfl (hasMajor_R (by decide) _ _ _ _ _)
theorem Shape.tpUs (e : Exe) (a : WReg) (b : WReg) : Shape.Statement (.tpUs e a b) := shape_some rfl (hasMajor_R (by decide) _ _ _ _ _)
theorem Shape.tpMs (e : Exe) (a : WReg) (b : WReg) : Shape.Statement (.tpMs e a b) := shape_some rfl (hasMajor_R (by decide) _ _ _ _ _)
theorem Shape.ctu (e : Exe) (a : WReg) (b : WReg) : Shape.Statement (.ctu e a b) := shape_some rfl (hasMajor_R (by decide) _ _ _ _ _)
theorem Shape.ctd (e : Exe) (a : WReg) (b : WReg) : Shape.Statement (.ctd e a b) := shape_some rfl (hasMajor_R (by decide) _ _ _ _ _)
theorem Shape.crst (e : Exe) (a : WReg) : Shape.Statement (.crst e a) := shape_some rfl (hasMajor_R (by decide) _ _ _ _ _)
theorem Shape.cld (e : Exe) (a : WReg) (b : WReg) : Shape.Statement (.cld e a b) := shape_some rfl (hasMajor_R (by decide) _ _ _ _ _)
theorem Shape.swap (e : Exe) (d : WReg) (a : WReg) (b : WReg) : Shape.Statement (.swap e d a b) := shape_some rfl (hasMajor_R (by decide) _ _ _ _ _)
theorem Shape.cas (e : Exe) (d : WReg) (a : WReg) (b : WReg) (c : WReg) : Shape.Statement (.cas e d a b c) := shape_some rfl (hasMajor_R (by decide) _ _ _ _ _)
theorem Shape.fadd (e : Exe) (d : WReg) (a : WReg) (b : WReg) : Shape.Statement (.fadd e d a b) := shape_some rfl (hasMajor_R (by decide) _ _ _ _ _)
theorem Shape.nop (e : Exe) : Shape.Statement (.nop e) := shape_some rfl (hasMajor_R (by decide) _ _ _ _ _)
theorem Shape.fence (e : Exe) : Shape.Statement (.fence e) := shape_some rfl (hasMajor_R (by decide) _ _ _ _ _)
theorem Shape.cyend (e : Exe) : Shape.Statement (.cyend e) := shape_some rfl (hasMajor_R (by decide) _ _ _ _ _)
theorem Shape.eret (e : Exe) : Shape.Statement (.eret e) := shape_some rfl (hasMajor_R (by decide) _ _ _ _ _)
theorem Shape.mfsw (e : Exe) (d : WReg) : Shape.Statement (.mfsw e d) := shape_some rfl (hasMajor_R (by decide) _ _ _ _ _)
theorem Shape.mtsw (e : Exe) (a : WReg) : Shape.Statement (.mtsw e a) := shape_some rfl (hasMajor_R (by decide) _ _ _ _ _)
theorem Shape.jr (e : Exe) (a : WReg) : Shape.Statement (.jr e a) := shape_some rfl (hasMajor_R (by decide) _ _ _ _ _)
theorem Shape.callr (e : Exe) (a : WReg) : Shape.Statement (.callr e a) := shape_some rfl (hasMajor_R (by decide) _ _ _ _ _)
theorem Shape.svc (e : Exe) (n : BitVec 12) : Shape.Statement (.svc e n) := shape_some rfl (hasMajor_svc _)
theorem Shape.j (e : Exe) (off : BitVec 26) : Shape.Statement (.j e off) := shape_some rfl (hasMajor_J (by decide) _)
theorem Shape.call (e : Exe) (off : BitVec 26) : Shape.Statement (.call e off) := shape_some rfl (hasMajor_J (by decide) _)
theorem Shape.jc (e : Exe) (off : BitVec 26) : Shape.Statement (.jc e off) := shape_some rfl (hasMajor_J (by decide) _)
theorem Shape.jcn (e : Exe) (off : BitVec 26) : Shape.Statement (.jcn e off) := shape_some rfl (hasMajor_J (by decide) _)
theorem Shape.illegalInstruction (e : Exe) (iw : Word) : Shape.Statement (.illegalInstruction e iw) := shape_none rfl
theorem Shape.retryReissue (e : Exe) : Shape.Statement (.retryReissue e) := shape_none rfl
theorem Shape.descriptorWrite (w : Who) (n : Part) (k : Fin 8) (v : Word) : Shape.Statement (.descriptorWrite w n k v) := shape_none rfl
theorem Shape.releaseGroupWrite (w : Who) (g : Fin 16) (v : Word) : Shape.Statement (.releaseGroupWrite w g v) := shape_none rfl
theorem Shape.release (g : Fin 16) : Shape.Statement (.release g) := shape_none rfl
theorem Shape.snapshotComplete (n : Part) : Shape.Statement (.snapshotComplete n) := shape_none rfl
theorem Shape.dispatch (e : Exe) : Shape.Statement (.dispatch e) := shape_none rfl
theorem Shape.steal (e : Exe) : Shape.Statement (.steal e) := shape_none rfl
theorem Shape.budgetExpiry (e : Exe) : Shape.Statement (.budgetExpiry e) := shape_none rfl
theorem Shape.commitMarginExpiry (n : Part) : Shape.Statement (.commitMarginExpiry n) := shape_none rfl
theorem Shape.boundary (t : BitVec 64) : Shape.Statement (.boundary t) := shape_none rfl
theorem Shape.stop (w : Who) (n : Part) : Shape.Statement (.stop w n) := shape_none rfl
theorem Shape.restart (w : Who) (n : Part) : Shape.Statement (.restart w n) := shape_none rfl
theorem Shape.reset (w : Who) (n : Part) : Shape.Statement (.reset w n) := shape_none rfl
theorem Shape.partitionResetComplete (n : Part) : Shape.Statement (.partitionResetComplete n) := shape_none rfl
theorem Shape.forceEntryWrite (w : Who) (i : BitVec 8) (k : Fin 3) (v : Word) : Shape.Statement (.forceEntryWrite w i k v) := shape_none rfl
theorem Shape.forceindWrite (w : Who) (v : Word) : Shape.Statement (.forceindWrite w v) := shape_none rfl
theorem Shape.schedulerEnable (w : Who) : Shape.Statement (.schedulerEnable w) := shape_none rfl
theorem Shape.schedulerDisable (w : Who) : Shape.Statement (.schedulerDisable w) := shape_none rfl
theorem Shape.shedding : Shape.Statement .shedding := shape_none rfl
theorem Shape.takeRequest (w : Who) : Shape.Statement (.takeRequest w) := shape_none rfl
theorem Shape.replyPublish (w : Who) (v : Word) : Shape.Statement (.replyPublish w v) := shape_none rfl
theorem Shape.regionAttrWrite (w : Who) (k : Fin 16) (v : Word) : Shape.Statement (.regionAttrWrite w k v) := shape_none rfl
theorem Shape.scrub (line : BitVec 40) (err : EccErr) : Shape.Statement (.scrub line err) := shape_none rfl
theorem Shape.transferRequest (addr : BitVec 40) (req : BitVec 8) (burst : Burst) : Shape.Statement (.transferRequest addr req burst) := shape_none rfl
theorem Shape.targetGrant (tgt : Fin 14) : Shape.Statement (.targetGrant tgt) := shape_none rfl
theorem Shape.holdLimitCutoff (tgt : Fin 14) : Shape.Statement (.holdLimitCutoff tgt) := shape_none rfl
theorem Shape.backgroundAgeExpiry (tgt : Fin 14) (req : BitVec 8) : Shape.Statement (.backgroundAgeExpiry tgt req) := shape_none rfl
theorem Shape.submit (w : Who) : Shape.Statement (.submit w) := shape_none rfl
theorem Shape.jobStart (k : Fin 28) : Shape.Statement (.jobStart k) := shape_none rfl
theorem Shape.segmentBoundary (k : Fin 28) : Shape.Statement (.segmentBoundary k) := shape_none rfl
theorem Shape.jobCompletion (k : Fin 28) : Shape.Statement (.jobCompletion k) := shape_none rfl
theorem Shape.dmaCopy (k : Fin 28) : Shape.Statement (.dmaCopy k) := shape_none rfl
theorem Shape.dmaFill (k : Fin 28) : Shape.Statement (.dmaFill k) := shape_none rfl
theorem Shape.envelopeBuild (k : Fin 28) : Shape.Statement (.envelopeBuild k) := shape_none rfl
theorem Shape.envelopeCheck (k : Fin 28) : Shape.Statement (.envelopeCheck k) := shape_none rfl
theorem Shape.sha256 (k : Fin 28) : Shape.Statement (.sha256 k) := shape_none rfl
theorem Shape.ed25519Verification (k : Fin 28) : Shape.Statement (.ed25519Verification k) := shape_none rfl
theorem Shape.aesCtr (k : Fin 28) : Shape.Statement (.aesCtr k) := shape_none rfl
theorem Shape.aesCbcEncrypt (k : Fin 28) : Shape.Statement (.aesCbcEncrypt k) := shape_none rfl
theorem Shape.aesCbcDecrypt (k : Fin 28) : Shape.Statement (.aesCbcDecrypt k) := shape_none rfl
theorem Shape.cmacGenerate (k : Fin 28) : Shape.Statement (.cmacGenerate k) := shape_none rfl
theorem Shape.cmacVerify (k : Fin 28) : Shape.Statement (.cmacVerify k) := shape_none rfl
theorem Shape.keyWrite (w : Who) (slot : Fin 32) (i : Fin 8) (v : Word) : Shape.Statement (.keyWrite w slot i v) := shape_none rfl
theorem Shape.keyErase (w : Who) (slot : Fin 32) : Shape.Statement (.keyErase w slot) := shape_none rfl
theorem Shape.frameReceive (p : Fin 14) (f : Frame) : Shape.Statement (.frameReceive p f) := shape_none rfl
theorem Shape.frameTransmit (p : Fin 14) : Shape.Statement (.frameTransmit p) := shape_none rfl
theorem Shape.followUpExpiry (p : Fin 14) : Shape.Statement (.followUpExpiry p) := shape_none rfl
theorem Shape.forwardingAgeExpiry (vid : BitVec 12) (mac : BitVec 48) : Shape.Statement (.forwardingAgeExpiry vid mac) := shape_none rfl
theorem Shape.rxtailWrite (w : Who) (v : Word) : Shape.Statement (.rxtailWrite w v) := shape_none rfl
theorem Shape.txtailWrite (w : Who) (v : Word) : Shape.Statement (.txtailWrite w v) := shape_none rfl
theorem Shape.channelEnable (w : Who) (n : Part) (v : Word) : Shape.Statement (.channelEnable w n v) := shape_none rfl
theorem Shape.pairCfgWrite (w : Who) (k : Fin 7) (v : Word) : Shape.Statement (.pairCfgWrite w k v) := shape_none rfl
theorem Shape.checkFrame (k : Fin 7) : Shape.Statement (.checkFrame k) := shape_none rfl
theorem Shape.checkLoss (p : Fin 14) : Shape.Statement (.checkLoss p) := shape_none rfl
theorem Shape.linkLoss (loss : PortLoss) : Shape.Statement (.linkLoss loss) := shape_none rfl
theorem Shape.learningFrames (k : Fin 7) : Shape.Statement (.learningFrames k) := shape_none rfl
theorem Shape.linkUp (p : Fin 14) : Shape.Statement (.linkUp p) := shape_none rfl
theorem Shape.scheduledSwap (k : Fin 7) : Shape.Statement (.scheduledSwap k) := shape_none rfl
theorem Shape.pairSwap (w : Who) (k : Fin 7) : Shape.Statement (.pairSwap w k) := shape_none rfl
theorem Shape.verifyExpiry (k : Fin 7) : Shape.Statement (.verifyExpiry k) := shape_none rfl
theorem Shape.holdoffExpiry (p : Fin 14) : Shape.Statement (.holdoffExpiry p) := shape_none rfl
theorem Shape.clrfail (w : Who) (k : Fin 7) : Shape.Statement (.clrfail w k) := shape_none rfl
theorem Shape.payloadRead (k : BitVec 12) : Shape.Statement (.payloadRead k) := shape_none rfl
theorem Shape.transmitWindow (k : BitVec 12) : Shape.Statement (.transmitWindow k) := shape_none rfl
theorem Shape.stolnetFrameReceive (p : StnPort) (f : StnFrame) (atUnit : BitVec 24) : Shape.Statement (.stolnetFrameReceive p f atUnit) := shape_none rfl
theorem Shape.receiveWindowEnd (k : BitVec 12) : Shape.Statement (.receiveWindowEnd k) := shape_none rfl
theorem Shape.starPortExclusion (s : Fin 16) : Shape.Statement (.starPortExclusion s) := shape_none rfl
theorem Shape.lossOfSignal (r : Fin 2) : Shape.Statement (.lossOfSignal r) := shape_none rfl
theorem Shape.loopEnd (r : Fin 2) : Shape.Statement (.loopEnd r) := shape_none rfl
theorem Shape.arm (w : Who) : Shape.Statement (.arm w) := shape_none rfl
theorem Shape.tableCheck : Shape.Statement .tableCheck := shape_none rfl
theorem Shape.disarm (w : Who) : Shape.Statement (.disarm w) := shape_none rfl
theorem Shape.starReadmit (w : Who) (s : Fin 16) : Shape.Statement (.starReadmit w s) := shape_none rfl
theorem Shape.ringReadmit (w : Who) (r : Fin 2) : Shape.Statement (.ringReadmit w r) := shape_none rfl
theorem Shape.stolnetEnable (w : Who) (v : Word) : Shape.Statement (.stolnetEnable w v) := shape_none rfl
theorem Shape.stolnetDisable (w : Who) (v : Word) : Shape.Statement (.stolnetDisable w v) := shape_none rfl
theorem Shape.join : Shape.Statement .join := shape_none rfl
theorem Shape.grant : Shape.Statement .grant := shape_none rfl
theorem Shape.joinActivation : Shape.Statement .joinActivation := shape_none rfl
theorem Shape.joinRetry : Shape.Statement .joinRetry := shape_none rfl
theorem Shape.backupMasterTakeover : Shape.Statement .backupMasterTakeover := shape_none rfl
theorem Shape.spareGrantRelease (k : BitVec 12) : Shape.Statement (.spareGrantRelease k) := shape_none rfl
theorem Shape.masterSilence : Shape.Statement .masterSilence := shape_none rfl
theorem Shape.canEnable (w : Who) (n : Fin 20) (v : Word) : Shape.Statement (.canEnable w n v) := shape_none rfl
theorem Shape.canFrameReceive (n : Fin 20) (f : CanFrame) : Shape.Statement (.canFrameReceive n f) := shape_none rfl
theorem Shape.canTransmit (n : Fin 20) (r : CanResult) : Shape.Statement (.canTransmit n r) := shape_none rfl
theorem Shape.rxgetWrite (w : Who) (n : Fin 20) (v : Word) : Shape.Statement (.rxgetWrite w n v) := shape_none rfl
theorem Shape.txputWrite (w : Who) (n : Fin 20) (v : Word) : Shape.Statement (.txputWrite w n v) := shape_none rfl
theorem Shape.busOffRecoveryComplete (n : Fin 20) : Shape.Statement (.busOffRecoveryComplete n) := shape_none rfl
theorem Shape.recover (w : Who) (n : Fin 20) : Shape.Statement (.recover w n) := shape_none rfl
theorem Shape.stuckDominant (n : Fin 20) : Shape.Statement (.stuckDominant n) := shape_none rfl
theorem Shape.stuckRelease (n : Fin 20) : Shape.Statement (.stuckRelease n) := shape_none rfl
theorem Shape.ardDwellExpiry (n : Fin 20) : Shape.Statement (.ardDwellExpiry n) := shape_none rfl
theorem Shape.timingApply (n : Fin 20) : Shape.Statement (.timingApply n) := shape_none rfl
theorem Shape.linkFrame (toLogic : Bool) (seq : BitVec 16) (crcOk : Bool) : Shape.Statement (.linkFrame toLogic seq crcOk) := shape_none rfl
theorem Shape.linkLost : Shape.Statement .linkLost := shape_none rfl
theorem Shape.fieldLinkLoss : Shape.Statement .fieldLinkLoss := shape_none rfl
theorem Shape.commitMessage (n : Part) : Shape.Statement (.commitMessage n) := shape_none rfl
theorem Shape.startMessage : Shape.Statement .startMessage := shape_none rfl
theorem Shape.filterAccept (c : Fin 96) : Shape.Statement (.filterAccept c) := shape_none rfl
theorem Shape.tspop (w : Who) : Shape.Statement (.tspop w) := shape_none rfl
theorem Shape.testPulse (k : Fin 8) (start : Bool) : Shape.Statement (.testPulse k start) := shape_none rfl
theorem Shape.testPulseCheck (k : Fin 8) : Shape.Statement (.testPulseCheck k) := shape_none rfl
theorem Shape.diack (w : Who) (v : Word) : Shape.Statement (.diack w v) := shape_none rfl
theorem Shape.pulseEnd (c : Fin 64) : Shape.Statement (.pulseEnd c) := shape_none rfl
theorem Shape.minimumIntervalExpiry (c : Fin 64) : Shape.Statement (.minimumIntervalExpiry c) := shape_none rfl
theorem Shape.currentLimit (c : Fin 64) : Shape.Statement (.currentLimit c) := shape_none rfl
theorem Shape.overload (c : Fin 64) : Shape.Statement (.overload c) := shape_none rfl
theorem Shape.thermal (c : Fin 64) : Shape.Statement (.thermal c) := shape_none rfl
theorem Shape.groupOvercurrent (g : Fin 8) : Shape.Statement (.groupOvercurrent g) := shape_none rfl
theorem Shape.readbackFault (c : Fin 64) : Shape.Statement (.readbackFault c) := shape_none rfl
theorem Shape.openLoad (c : Fin 64) : Shape.Statement (.openLoad c) := shape_none rfl
theorem Shape.externalVoltage (c : Fin 64) : Shape.Statement (.externalVoltage c) := shape_none rfl
theorem Shape.vfldLow (g : Fin 8) : Shape.Statement (.vfldLow g) := shape_none rfl
theorem Shape.vfdiLow : Shape.Statement .vfdiLow := shape_none rfl
theorem Shape.supplyRestore (g : Fin 9) : Shape.Statement (.supplyRestore g) := shape_none rfl
theorem Shape.faultRecovery (c : Fin 64) : Shape.Statement (.faultRecovery c) := shape_none rfl
theorem Shape.watchdogExpiry : Shape.Statement .watchdogExpiry := shape_none rfl
theorem Shape.fieldClockError : Shape.Statement .fieldClockError := shape_none rfl
theorem Shape.rearm (w : Who) : Shape.Statement (.rearm w) := shape_none rfl
theorem Shape.modeSettleExpiry (c : Fin 32) : Shape.Statement (.modeSettleExpiry c) := shape_none rfl
theorem Shape.limiting (c : Fin 32) : Shape.Statement (.limiting c) := shape_none rfl
theorem Shape.limiterOpen (c : Fin 32) : Shape.Statement (.limiterOpen c) := shape_none rfl
theorem Shape.limiterRetry (c : Fin 32) : Shape.Statement (.limiterRetry c) := shape_none rfl
theorem Shape.miswireClear (c : Fin 32) : Shape.Statement (.miswireClear c) := shape_none rfl
theorem Shape.complRaise (c : Fin 32) : Shape.Statement (.complRaise c) := shape_none rfl
theorem Shape.complClear (c : Fin 32) : Shape.Statement (.complClear c) := shape_none rfl
theorem Shape.outerrRaise (c : Fin 32) : Shape.Statement (.outerrRaise c) := shape_none rfl
theorem Shape.outerrClear (c : Fin 32) : Shape.Statement (.outerrClear c) := shape_none rfl
theorem Shape.vloopLow (mv : BitVec 16) : Shape.Statement (.vloopLow mv) := shape_none rfl
theorem Shape.vloopRestore (mv : BitVec 16) : Shape.Statement (.vloopRestore mv) := shape_none rfl
theorem Shape.serviceMode (w : Who) (v : Word) : Shape.Statement (.serviceMode w v) := shape_none rfl
theorem Shape.buttonPress (span : Bool) : Shape.Statement (.buttonPress span) := shape_none rfl
theorem Shape.trimComplete (mean : BitVec 16) : Shape.Statement (.trimComplete mean) := shape_none rfl
theorem Shape.hartGo (w : Who) (c : Fin 32) (v : Word) : Shape.Statement (.hartGo w c v) := shape_none rfl
theorem Shape.hartListen (w : Who) (c : Fin 32) (v : Word) : Shape.Statement (.hartListen w c v) := shape_none rfl
theorem Shape.hartTransmit (c : Fin 32) : Shape.Statement (.hartTransmit c) := shape_none rfl
theorem Shape.hartRxtoExpiry (c : Fin 32) : Shape.Statement (.hartRxtoExpiry c) := shape_none rfl
theorem Shape.hartReplyEnd (c : Fin 32) (chars : List HartChar) : Shape.Statement (.hartReplyEnd c chars) := shape_none rfl
theorem Shape.linkEnable (w : Who) (l : Fin 4) (v : Word) : Shape.Statement (.linkEnable w l v) := shape_none rfl
theorem Shape.pcieLinkUp (l : Fin 4) (gen : BitVec 4) (width : BitVec 4) : Shape.Statement (.pcieLinkUp l gen width) := shape_none rfl
theorem Shape.trainTimeout (l : Fin 4) : Shape.Statement (.trainTimeout l) := shape_none rfl
theorem Shape.ssdReady (l : Fin 4) (i : SsdInfo) : Shape.Statement (.ssdReady l i) := shape_none rfl
theorem Shape.readyTimeout (l : Fin 4) : Shape.Statement (.readyTimeout l) := shape_none rfl
theorem Shape.commandTimeout (l : Fin 4) : Shape.Statement (.commandTimeout l) := shape_none rfl
theorem Shape.nvmeCompletion (l : Fin 4) (us : Word) : Shape.Statement (.nvmeCompletion l us) := shape_none rfl
theorem Shape.pcieLinkDown (l : Fin 4) (fatal : Bool) : Shape.Statement (.pcieLinkDown l fatal) := shape_none rfl
theorem Shape.format (w : Who) (v : Word) : Shape.Statement (.format w v) := shape_none rfl
theorem Shape.mount (w : Who) (v : Word) : Shape.Statement (.mount w v) := shape_none rfl
theorem Shape.unmount (w : Who) (v : Word) : Shape.Statement (.unmount w v) := shape_none rfl
theorem Shape.volumeCommandComplete : Shape.Statement .volumeCommandComplete := shape_none rfl
theorem Shape.post (w : Who) : Shape.Statement (.post w) := shape_none rfl
theorem Shape.readJob (w : Who) : Shape.Statement (.readJob w) := shape_none rfl
theorem Shape.readCompletion : Shape.Statement .readCompletion := shape_none rfl
theorem Shape.flushintExpiry : Shape.Statement .flushintExpiry := shape_none rfl
theorem Shape.hdrintExpiry : Shape.Statement .hdrintExpiry := shape_none rfl
theorem Shape.postedWrite (r : BitVec 8) (n : Part) (addr : BitVec 24) (sz : Size) (v : Word) : Shape.Statement (.postedWrite r n addr sz v) := shape_none rfl
theorem Shape.delayedRead (r : BitVec 8) (n : Part) (addr : BitVec 24) (sz : Size) : Shape.Statement (.delayedRead r n addr sz) := shape_none rfl
theorem Shape.busCycle : Shape.Statement .busCycle := shape_none rfl
theorem Shape.ack (data : BitVec 16) : Shape.Statement (.ack data) := shape_none rfl
theorem Shape.err : Shape.Statement .err := shape_none rfl
theorem Shape.cycleTimeout : Shape.Statement .cycleTimeout := shape_none rfl
theorem Shape.unclaimedEntryExpiry (i : Fin 8) : Shape.Statement (.unclaimedEntryExpiry i) := shape_none rfl
theorem Shape.semaphoreTake (r : BitVec 8) (n : Part) (k : Fin 8) : Shape.Statement (.semaphoreTake r n k) := shape_none rfl
theorem Shape.semaphoreRelease (r : BitVec 8) (n : Part) (k : Fin 8) : Shape.Statement (.semaphoreRelease r n k) := shape_none rfl
theorem Shape.irqChange (k : Fin 8) (asserted : Bool) : Shape.Statement (.irqChange k asserted) := shape_none rfl
theorem Shape.irqStampRead (w : Who) (k : Fin 8) : Shape.Statement (.irqStampRead w k) := shape_none rfl
theorem Shape.bridgeEnable (w : Who) (v : Word) : Shape.Statement (.bridgeEnable w v) := shape_none rfl
theorem Shape.busReset (w : Who) (v : Word) : Shape.Statement (.busReset w v) := shape_none rfl
theorem Shape.busResetEnd : Shape.Statement .busResetEnd := shape_none rfl
theorem Shape.fuseProgram (w : Who) (v : Word) : Shape.Statement (.fuseProgram w v) := shape_none rfl
theorem Shape.fuseProgramDone (took : Word) : Shape.Statement (.fuseProgramDone took) := shape_none rfl
theorem Shape.keyLoad (w : Who) (v : Word) : Shape.Statement (.keyLoad w v) := shape_none rfl
theorem Shape.manifest (w : Who) (key : BitVec 8) : Shape.Statement (.manifest w key) := shape_none rfl
theorem Shape.billet (w : Who) (key : BitVec 8) : Shape.Statement (.billet w key) := shape_none rfl
theorem Shape.sealImage (w : Who) (key : BitVec 8) : Shape.Statement (.sealImage w key) := shape_none rfl
theorem Shape.erase (w : Who) (key : BitVec 8) : Shape.Statement (.erase w key) := shape_none rfl
theorem Shape.mirror (w : Who) (key : BitVec 8) : Shape.Statement (.mirror w key) := shape_none rfl
theorem Shape.activate (w : Who) (key : BitVec 8) : Shape.Statement (.activate w key) := shape_none rfl
theorem Shape.cancel (w : Who) (key : BitVec 8) : Shape.Statement (.cancel w key) := shape_none rfl
theorem Shape.confirm (w : Who) (key : BitVec 8) : Shape.Statement (.confirm w key) := shape_none rfl
theorem Shape.sload (w : Who) (key : BitVec 8) : Shape.Statement (.sload w key) := shape_none rfl
theorem Shape.sstore (w : Who) (key : BitVec 8) : Shape.Statement (.sstore w key) := shape_none rfl
theorem Shape.activationInstant : Shape.Statement .activationInstant := shape_none rfl
theorem Shape.confirmationTimeout : Shape.Statement .confirmationTimeout := shape_none rfl
theorem Shape.temperatureSample (logic : BitVec 16) (field : BitVec 16) : Shape.Statement (.temperatureSample logic field) := shape_none rfl
theorem Shape.fabricCheckDisagreement : Shape.Statement .fabricCheckDisagreement := shape_none rfl
theorem Shape.testEnHigh : Shape.Statement .testEnHigh := shape_none rfl
theorem Shape.kick (w : Who) (v : Word) : Shape.Statement (.kick w v) := shape_none rfl
theorem Shape.foundryWatchdogExpiry : Shape.Statement .foundryWatchdogExpiry := shape_none rfl
theorem Shape.debugAccess (tgt : DbgTarget) (sz : Size) (wr : Option Word) : Shape.Statement (.debugAccess tgt sz wr) := shape_none rfl
theorem Shape.mdioGo (w : Who) (v : Word) : Shape.Statement (.mdioGo w v) := shape_none rfl
theorem Shape.maintenanceTransmit (w : Who) (v : Word) : Shape.Statement (.maintenanceTransmit w v) := shape_none rfl
theorem Shape.maintenanceReceive (f : List Byte) : Shape.Statement (.maintenanceReceive f) := shape_none rfl
theorem Shape.uartTransmit (w : Who) (v : Word) : Shape.Statement (.uartTransmit w v) := shape_none rfl
theorem Shape.uartRead (w : Who) : Shape.Statement (.uartRead w) := shape_none rfl
theorem Shape.uartReceive (b : Byte) : Shape.Statement (.uartReceive b) := shape_none rfl
theorem Shape.pinOwnershipWrite (w : Who) (i : BitVec 8) (v : Word) : Shape.Statement (.pinOwnershipWrite w i v) := shape_none rfl
theorem Shape.starLinkLoss (s : Fin 16) : Shape.Statement (.starLinkLoss s) := shape_none rfl
theorem Shape.stolnetLinkUp (p : StnPort) : Shape.Statement (.stolnetLinkUp p) := shape_none rfl
theorem Shape.rawInputChange (c : Fin 96) (level : Bool) : Shape.Statement (.rawInputChange c level) := shape_none rfl
theorem Shape.currentLimitEnd (c : Fin 64) : Shape.Statement (.currentLimitEnd c) := shape_none rfl
theorem Shape.openLoadClear (c : Fin 64) : Shape.Statement (.openLoadClear c) := shape_none rfl
theorem Shape.extvClear (c : Fin 64) : Shape.Statement (.extvClear c) := shape_none rfl
theorem Shape.limitingEnd (c : Fin 32) : Shape.Statement (.limitingEnd c) := shape_none rfl
theorem Shape.carrierDetect (c : Fin 32) : Shape.Statement (.carrierDetect c) := shape_none rfl
theorem Shape.mdioComplete (data : BitVec 16) : Shape.Statement (.mdioComplete data) := shape_none rfl
theorem Shape.uartByteSent : Shape.Statement .uartByteSent := shape_none rfl

end Sys2Proof.Laws
end

