-- ==== Sys2Proof/Tests/Slice0.lean ====
section
/-!
SUPPORT. Own tests: well-formedness, words of the manual written out, small steps, and for every statement a state and
operands that meet its hypotheses, clause by clause (test_meets_…).
-/

namespace Sys2Proof.Tests

set_option Elab.async false

open Sys2Proof.Machine

/-- Region entry k of the foundry partition: virtual base word, physical page, attributes. -/
def tRegion (k : Nat) (vb pb attr : Word) (s : State) : State :=
  ((s.wrBA 0 .memRgnVbaseS vb k).wrBA 0 .memRgnPbaseS pb k).wrBA 0 .memRgnAttrS attr k
/-- Two pages: 4_0000h private at 10_0000h, 5_0000h shared at 20_0000h, both readable, writable and executable. -/
def tMap (s : State) : State := tRegion 1 0x50000 0x200 0x8000001E (tRegion 0 0x40000 0x100 0x8000001C s)
/-- Executor 0 with registers g runs the foundry partition's job at 4_0000h. -/
def tExe (g : Engine) : State := (tMap State.reset).setEng 0 { g with pc := 0x40000, job := some 0 }
/-- tExe with memory cells, and the vector table of the foundry partition at 4_0100h. -/
def tVec (g : Engine) (m : List Host.Cell) : State := { (tExe g).wrA .schPdVecS 0x40100 with mem := m }
/-- Vector entry 1 is 4_0200h, entry 2 is 4_0202h, entry 15 the frame at 4_0300h. -/
def tCells : List Host.Cell :=
  [(0x100105, 2), (0x100106, 4), (0x100108, 2), (0x100109, 2), (0x10010A, 4), (0x10013D, 3), (0x10013E, 4)]
/-- The outcome is a next state with a property. -/
def tNext (o : Host.Outcome State Fault Refusal) (p : State → Bool) : Bool :=
  match o with
  | .next t => p t
  | _ => false

/-- Executor 0 runs a job of partition 7, whose region entry is its own. -/
def tApp (g : Engine) : State :=
  (((State.reset.wrBA 7 .memRgnVbaseS 0x40000 0).wrBA 7 .memRgnPbaseS 0x100 0).wrBA 7 .memRgnAttrS 0x8000001C 0).setEng 0
    { g with pc := 0x40000, job := some 7 }
/-- A service request. -/
def tReq : SvcReq := { num := 1, seq := 1, args := [], ord := 0 }

/-- A load of W1 that waits to be re-issued. -/
def tRetry : Retry := { store := false, reg := 1, float := false, signed := false, sz := .b4, ea := 0x40000 }
/-- A transfer that the maintenance engine holds on target 0. -/
def tHold : State := (State.reset.setTarget 0 { holder := some { req := 0x82, band := 0, ord := 0, beats := 1, pre := 0, part := 0 } })

/-- The device in Run, out of reset, with all PLLs locked. -/
def tUp : State := State.wr .timTbstat 0
  { pins := { porst := true, rstout := true }
    pwr := { pwrup := false, armed := true, boot := .released }
    clk := { xaOn := true, xaDelay := true, xbDelay := true, xaPass := 4, xbPass := 4, pewOnXb := true, onFrc := 0, lock := 15, on := 15, gates := 127 } }
/-- tUp with another power record. -/
def tPw (f : Power → Power) : State := { tUp with pwr := f tUp.pwr }
/-- tUp with another clock record. -/
def tCk (f : Clocks → Clocks) : State := { tUp with clk := f tUp.clk }
/-- The address is a plain register's word for the foundry partition. -/
def tPlainW (w : Who) (a : Nat) (v : Word) (s : State) : Bool :=
  match spanOf a with
  | none => false
  | some (_, _, u, rs) =>
    match regAt rs (a / 4 * 4) with
    | some (r, i, j, act) => !linkDown u s && !act && (unitWrite u w r i j v s).isNone && (tdbgOf a).isNone
    | none => false
/-- The address is a register without a read rule of its own. -/
def tPlainR (a : Nat) (act : Bool) (s : State) : Bool :=
  match spanOf a with
  | none => false
  | some (_, _, u, rs) =>
    match regAt rs (a / 4 * 4) with
    | some (r, i, j, b) => b == act && !linkDown u s && (unitRead u .dbg r i j act s).isNone && debugReads s r.row.base
    | none => false
/-- The debug level of the fuse word 0. -/
def tLevel (v : Word) : State := { State.reset with fuses := { shadow := [(0, v)] } }

/-- A boot header whose one region holds entry and vectors, its area at the start of cycle memory. -/
def tHead : List Byte :=
  wordBytes ([0x01000000, 0x40000, 0x40000, 0x4000000] ++ List.replicate 12 0 ++ [0x40000, 0, 0x100, 0x8000001C] ++ List.replicate 108 0)
/-- A manifest: length of the image, its hash, the neutral point as key, the neutral point and 0 as signature. -/
def tManif (len : Nat) (hash : List Word) : List Byte :=
  wordBytes ([0x01000000, BitVec.ofNat 32 (0xC0 + 32 * ((len + 65535) / 65536)), 0, 0, 0, 0, BitVec.ofNat 32 len] ++ List.replicate 9 0 ++ hash ++ [1] ++
    List.replicate (7 + 8 * ((len + 65535) / 65536)) 0 ++ [1] ++ List.replicate 15 0)
/-- A manifest of the image tHead (its SHA-256). -/
def tManFnd : List Byte :=
  tManif 512 [0x3F04A603, 0xFFF27BD4, 0x4C0C1411, 0x4237094D, 0x80A60DF4, 0x1F9AB65C, 0xA3858B4E, 0xDB7C5313]
/-- A manifest of an empty image. -/
def tManNil : List Byte := tManif 0 [0x42C4B0E3, 0x141CFC98, 0xC8F4FB9A, 0x24B96F99, 0xE441AE27, 0x4C939B64, 0x1B9995A4, 0x55B85278]
/-- Link 0 ONLINE with one ACTIVE slot in each of FIO, NET and FND. -/
def tSlots (n : Nat) : State :=
  { pwr := { boot := .step n }, sto := { links := [(0, { state := .online })] }
    sec := { slots := [(0, { state := .active, man := tManNil, links := 1 }), (3, { state := .active, man := tManNil, links := 1 }),
      (6, { state := .active, man := tManFnd, billets := [(0, tHead)], links := 1 })] } }
/-- tSlots without the slots of NET. -/
def tNoNet : State := { tSlots 7 with sec := { slots := [(0, { state := .active, man := tManNil, links := 1 })] } }
/-- At step 6 the one slot of FND has a manifest that fails. -/
def tBad6 : State := { tSlots 6 with sec := { slots := [(6, { state := .active, man := [], links := 1 })] } }
/-- The same with a second slot of FND. -/
def tBoth6 : State :=
  { tSlots 6 with sec := { slots := [(6, { state := .active, man := [], links := 1 }), (7, { state := .active, man := tManFnd, links := 1 })] } }
/-- The state in which slot 0 of FND is verified: its image is in DRAM. -/
def tImage (s : State) : State := (memWrite 0 (slotImage ((passOver 2 s).slot 2 0)) (passOver 2 s)).2
/-- A device at boot step n with nothing in the slots. -/
def tStep (n : Nat) : State := tPw (fun p => { p with boot := .step n })

/-- The state before FIO is tried. -/
def tFresh (s : State) : State := s.setSec { s.sec with lastBad := .fault }
/-- The state after slot 0 of FIO was chosen. -/
def tTook (s : State) : State := s.setSec { s.sec with lastBad := .fault, chosen := [(0, 0)] }

/-- Comparator 31 owned by partition n, its CTL and its compare time, at time ns. -/
def tCmp (n : Nat) (ctl : Word) (cmp : Word) (ns : Nat) : State :=
  ((({ tUp with tb := { ns := ns } } : State).wr .timTtOwn (BitVec.ofNat 32 (2 ^ 31 + n)) 31).wr .timTtCtl ctl 31).wr .timTtCmpLo cmp 31

/-- A bus output, and one that differs in its data. -/
def tOut (v : Word) : BusOut := { addr := 0x100000, data := v, be := 15, write := true, attr := 0 }
/-- Triad 31 in a given record. -/
def tTri (x : Triad) : State := tUp.setTriad 31 x
/-- An output of lane B at cycle 100 that waits for another lane. -/
def tShown : List Shown := [{ lane := .b, cyc := 100, out := tOut 1 }]
/-- An issued output that lane C has not presented by cycle 100. -/
def tAwait : Await := { t2 := 100, out := tOut 1, lane := .c, rsp := {} }
/-- tTri with TCTL_S and TCTL_A of triad 31 set. -/
def tTctl (x : Triad) (a : Word) : State := ((tTri x).wr .fabTctlS a 31).wrA .fabTctlA a 31
/-- Only triad 31 is in service. -/
def tOdd : State := { tUp with triads := (List.range 31).map (fun k => (k, { state := .faulted })) }

/-- Partition n in a given record, with CTL_S and CTL_A. -/
def tPart (n : Nat) (p : Partn) (c : Word) : State := ((tUp.setPart n p).wr .schPdCtlS c n).wrA .schPdCtlS c n

/-- Release group 0 at 1 ms from comparator 0 of the foundry, and partition n with a budget of 1 us and its area in cycle memory. -/
def tAdm (n : Nat) (p : Partn) (c : Word) : State :=
  (((((((tPart n p c).wr .schRg 0x80000000 0).wr .timTtOwn 0x80000000 0).wr .timTtPerS 1000000 0).wrA .timTtPerS 1000000 0).wr
    .schPdBudgetS 1000 n).wr .schPdAreaS 0x4000000 n).wrA .schPdAreaS 0x4000000 n

/-- One class N partition wants half a triad of a device whose triads are faulted but one. -/
def tOver : State :=
  { tAdm 1023 { state := .wait } 0xA0000000 with triads := (List.range 31).map (fun k => (k + 1, { state := .faulted })) }

/-- Target 13 in a given record. -/
def tTgt (x : Target) : State := tUp.setTarget 13 x
/-- A transfer of a DMA channel or a port, in a band. -/
def tXfer (req band : Nat) (ord pre : Nat) : Transfer := { req := req, band := band, ord := ord, beats := 1, pre := pre, part := 0 }

/-- A job of the foundry partition on engine k: source 4_0000h, destination 4_0100h, parameters 4_0200h, descriptor 4_0300h. -/
def tJob (k kind len : Nat) : SJob :=
  { tag := 1, part := 0, kind := kind, slot := 0, flags := 0, len := len, src := 0x40000, dst := 0x40100, par := 0x40200, desc := 0x40300,
    band := 1, pre := 0, eng := some k, seg := 0, key := some 0, keyType := 0, rel := 0, worked := false, fin := none, result := 0, chain := [] }
/-- The shared engines hold some jobs; memory holds cells. -/
def tShe (js : List SJob) (m : List Host.Cell) : State := { tMap tUp with she := { jobs := js, tag := 2 }, mem := m }
/-- A descriptor of a 4-byte copy at 4_0300h. -/
def tDesc : List Host.Cell := [(0x100304, 4), (0x10030A, 4), (0x10030D, 1), (0x10030E, 4)]

/-- The CMAC of 16 bytes of 0 under the key 0, and its cells in the parameter block. -/
def tTag : List Byte := beBytes 16 0x763cbcde81df9131bf897712c088edad
/-- tTag at 4_0200h. -/
def tTagCells : List Host.Cell := (List.range 16).map (fun i => (0x100200 + i, tTag.getD i 0))

/-- The signature of tSig0 over one byte of 0: the neutral point and 0 under the neutral point as key. -/
def tEdPar : List Byte := [1] ++ List.replicate 63 0 ++ [1] ++ List.replicate 31 0

/-- The context of a sender (role 1, version 1) or receiver (role 2) at 4_0200h with an age and an expectation of 100 ms. -/
def tCtx (role : Byte) (b : Byte) : List Host.Cell := [(0x100202, b), (0x100203, role), (0x100216, 1), (0x10021A, 1)]
/-- An envelope of the one byte 7 at 4_0000h: version 1, LEN 1, CONN, SEQ and TS 0, and its CRC. -/
def tEnv : List Host.Cell := [(0x100000, 0x10), (0x100003, 1), (0x100010, 7)] ++ [(0x100011, 0xF7), (0x100012, 0x83), (0x100013, 0x06), (0x100014, 0x91)]

/-- The context of a check job. -/
def tC (j : SJob) (s : State) : Ctx := ctxOf (partRead 0 j.par.toNat 128 s).2.1
/-- The job ends before the checks. -/
def tBad (j : SJob) (s : State) : Bool := decide (j.flags ≠ 0) || (decide (j.len ≠ 0) && !(tC j s).valid 2)
/-- The envelope that it reads. -/
def tEb (j : SJob) (s : State) : List Byte := if tBad j s then [] else (partRead 0 j.src.toNat j.len s).2.1
/-- The payload at its destination. -/
def tDb (j : SJob) (s : State) : List Byte :=
  if !tBad j s && comparesDest j (tC j s) (tEb j s) (devid s) then (partRead 0 j.dst.toNat (envOf (tEb j s)).len s).2.1 else []
/-- The verdict of the checks. -/
def tV0 (j : SJob) (s : State) : Verdict :=
  if tBad j s then { st := .denied, why := .context, ctx := tC j s, write := false, len := 0 } else checkEnv j (tC j s) (tEb j s) (tDb j s) (devid s)
/-- The verdict with the expectation and the failure count. -/
def tVv (j : SJob) (s : State) : Verdict := (countFail (expectation j (tC j s).state (tV0 j s)).1)

/-- The switch enabled, ports 12 and 13 up with VID 5 and PCP 0, both members of VID 5. -/
def tEth : State :=
  (((((((tUp.wrA .ethCtlS 1).wrA .ethPcfgS 0x80000005 12).wrA .ethPcfgS 0x80000005 13).wr .ethPstat 1 12).wr .ethPstat 1 13).wrBA 5 .ethVmemS 0x80003000)).wrA
    .ethQlimS 4096
/-- An untagged frame of n payload bytes to the station 020000000001h. -/
def tFrame (n : Nat) : Frame :=
  { dst := 0x020000000001, src := 0x020000000002, tag := none, tag2 := false, etype := 0x0800, payload := List.replicate n 0, fcsOk := true }
/-- A queued ordinary frame. -/
def tQ : QFrame := { f := tFrame 46, vid := 5, pcp := 0, inp := 12, stamp := 0, chan := none, direct := false }

/-- Pair 6 of ports 12 and 13 in a given record, with its ports' link and path bits. -/
def tPair (x : Pair) (a b : Word) : State :=
  (((tEth.wrA .ethPrCfgS 0x80000DC0 6).setPair 6 x).wr .ethPstat a 12).wr .ethPstat b 13

/-- The controller of station 1 in a ring of 2, running, LIVE on version 1, ring port 0 and star port 15 up. -/
def tStn (x : Station) : State :=
  ((((((({ tUp with stn := { x with going := true } } : State).wrA .stnCtlS 0x81020000).wr .stnRingstat 0x81000000).wrA .stnRpCtlS 0x80000000 0).wr
    .stnRpStat 1 0).wrA .stnRpCtlS 0x80000000 1).wrA .stnSpCtlS 0x80000001 15).wr .stnSpStat 1 15
/-- Entry 4095 of the active table: its duration and source words. -/
def tEnt (x : Station) (du sr mp : Word) : State := (((tStn x).wrA .stnSlDurS du 4095).wrA .stnSlSrcS sr 4095).wrA .stnSlMapS mp 4095
/-- A frame of station n. -/
def tStnF (n : BitVec 5) : StnFrame :=
  { ver := 1, typ := 1, len := 0, slot := 0xFFF, station := n, node := 0, cycle := 0, cfgid := 0, hops := 1, lb := false, payload := [], crcOk := true, late := false }

/-- tStn with the JOIN entry at 4095: master 1, backup the station n. -/
def tJoin (x : Station) (b : Word) (ring : Word) : State := (tEnt x 0x40001000 (0x01000050 ||| b <<< 16) 0).wr .stnRingstat ring
/-- A request of station 2. -/
def tReqJ (cfg : Nat) : JoinReq := { station := 2, devid := 9, vmax := 1, vmin := 1, cfgid := cfg, want := [] }

/-- CAN controller 19 enabled with rings of 2 elements of 8 bytes, in a given record. -/
def tCan (x : Can) (ctl : Word) : State :=
  ((((tUp.setCan 19 x).wrA .canCtlS ctl 19).wr .canCtlS ctl 19).wrA .canRamS 0x0202 19).wr .canRamS 0x0202 19
/-- tCan with its balls assigned. -/
def tCanFree : State := ((tUp.wr .supPinown 0x80003000 (192 + 19)).wr .canRamS 0x0202 19).wr .canCtlS 0 19
/-- A data frame of 8 bytes. -/
def tCf : CanFrame :=
  { xtd := false, rtr := false, fdf := false, brs := false, esi := false, id := 0x123, dlc := 8, data := List.replicate 8 0, err := 0 }

/-- DI channel 95 in a given record with a CFG word. -/
def tDi (x : Di) (cfg : Word) : State := (tUp.setDi 95 x).wrA .dioDiCfgS cfg 95
/-- tDi with another field record. -/
def tDiF (x : Di) (cfg : Word) (f : Field → Field) : State := { tDi x cfg with dio := f (tDi x cfg).dio }
/-- DO channel 63 in a given record with a CFG word; the field die is configured and supplied. -/
def tDo (x : Do) (cfg : Word) : State :=
  ({ tUp with dio := { cfgd := true, vfdi := true, vfld := 255, cmdSafe := false, offSafe := false, fsafe := false } } : State).setDout 63 x |>.wrA
    .dioDoCfgS cfg 63

/-- Loop channel 31 in a given record with a CFG word. -/
def tLoop (x : Loop) (cfg : Word) : State := (tUp.setLoop 31 x).wrA .alpCCfgS cfg 31
/-- tLoop owned by partition 0, whose data space is mapped, with buffers of one character. -/
def tHart (x : Loop) (cfg : Word) : State :=
  ((((((tMap (tLoop x cfg)).wrA .alpCMapS 0x80000000 31).wr .alpHTxlen 1 31).wr .alpHRxmax 1 31).wr .alpHTxaddr 0x40000 31).wr .alpHRxaddr 0x40010 31)

/-- DI 0 and 1 are assigned to ALP. -/
def tBtn : State := (tUp.wr .supPinown 0x80002000 0).wr .supPinown 0x80002000 1

/-- Link 3 in a given record. -/
def tLink (x : SLink) : State := tUp.setLink 3 x
/-- A header of a volume on link 3, and the volume. -/
def tHdr : Hdr :=
  { ver := 1, volid := 7, mask := 8, caps := [0, 0, 0, 1000], time := 0, endOff := 0, full := false, crcOk := true, streams := [] }
/-- A volume of 1000 blocks on link 3. -/
def tVol : Vol := { volid := 7, mask := 8, caps := [0, 0, 0, 1000], time := 0, degraded := false, full := false }
/-- Link 3 ONLINE, with a storage record; memory cells in the foundry's data. -/
def tSto (f : Store → Store) (m : List Host.Cell) : State :=
  { tMap tUp with sto := f { tUp.sto with links := [(3, { state := .online })] }, mem := m }
/-- A post descriptor at 4_0300h: code 5, no repetition, 4 bytes at 4_0000h. -/
def tPostD : List Host.Cell := [(0x100300, 5), (0x100304, 4), (0x100307, 0x80), (0x10030A, 4)]
/-- The bytes of tPostD. -/
def tPostB : List Byte := [5, 0, 0, 0, 4, 0, 0, 0x80, 0, 0, 4, 0, 0, 0, 0, 0]
/-- A read descriptor: kind 0, 64 bytes from offset 0 to 4_0100h. -/
def tReadD : List Host.Cell := [(0x10030C, 64), (0x100311, 1), (0x100312, 4)]

/-- The foundry's stream on, with a quota of 1 MiB, and POST_ADDR at 4_0300h. -/
def tPost (f : Store → Store) (m : List Host.Cell) : State :=
  ((tSto (fun z => f { z with vol := some tVol }) m).wrB 0 .stoPostAddr 0x40300).wr .stoSCtl 0x80000001 0

/-- The bytes of tReadD. -/
def tReadB : List Byte := List.replicate 12 0 ++ [64, 0, 0, 0, 0, 1, 4, 0] ++ List.replicate 12 0
/-- A read job of kind k to 4_0100h, described at 4_0300h. -/
def tRJob (k : Nat) : RJob := { part := 0, kind := k, off := 0, len := 64, dst := 0x40100, desc := 0x40300 }

/-- The bridge enabled, in a given record, with BRST_L high. -/
def tBrb (x : Bridge) : State := ({ tUp with brb := x, pins := { tUp.pins with brst := true } } : State).wr .brbCtl 0x80001400
/-- A posted write and a read entry. -/
def tRw : RackW := { addr := 0x10, data := 7, part := 0, pair := false }
/-- A 32-bit read entry of requester 88h. -/
def tRr (st : FetchState) (got : List (BitVec 16)) : RackR := { req := 0x88, addr := 0x10, wide := true, state := st, got := got }

/-- UARG names slot 2 of component 0, and link 3 is ONLINE; slot 2 in a given record; memory cells at 10_0000h. -/
def tSec (y : Slot) (m : List Host.Cell) : State :=
  ((({ tMap tUp with sto := { links := [(3, { state := .online })] }, mem := m } : State).setSlot 0 2 y).wr .secUarg 0x02000000).wr .secUaddr 0x40000
/-- tSec without a link. -/
def tSecOff : State := { tSec {} [] with sto := {} }
/-- Bytes as cells from 10_0000h on, zeros left out. -/
def tCellsOf (bs : List Byte) : List Host.Cell :=
  ((List.range bs.length).map (fun i => (0x100000 + i, bs.getD i 0))).filter (fun c => c.2 ≠ 0)

/-- A blob of 48 bytes at 4_0000h: type 1 (version 1) and a wrapped key; the wrapping key, all zeros, is locked; slot 0 is of type 1. -/
def tBlob (h : Nat) (w : Nat) : State :=
  ({ tSec {} (tCellsOf (leBytes 8 h ++ beBytes 40 w)) with fuses := { shadow := [(0, 0x80000)] } } : State).wr .secKladdr 0x40000 |>.wr .sheKsCtl 0x01000000 0
/-- The RFC 3394 wrapping of a key of zeros under a key of zeros. -/
def tWrapped : Nat := 0x97317494343807e690fd1e431413963dc0e3deb4907fb89fa36ce65126d0ea1301381fb3a2941e2f

/-- tSec with other slots and a pending activation or a trial; the clock stands at ns. -/
def tAct (l : Tab Slot) (p : Option Activation) (tr : Option Nat) (ns : Nat) : State :=
  { (tSec {} []).wr .secActt 1000000000 0 with sec := { slots := l, pend := p, trial := tr }, tb := { ns := ns } }
/-- A manifest with ADVSVN and the security version 1. -/
def tManAdv : List Byte := List.replicate 18 0 ++ [1, 0, 1] ++ List.replicate 171 0
/-- A manifest with an interface version that nothing else accepts. -/
def tManOdd : List Byte := (List.replicate 16 0) ++ [9] ++ List.replicate 175 0

/-- A manifest of one billet, the byte 0, with its SHA-256 in the billet's place. -/
def tBillet : List Byte := (tManif 1 []).take 0x80 ++ beBytes 32 0x6e340b9cffb37a989ca544e6bb780a2c78901d3fb33738768511a30617afa01d ++ List.replicate 64 0

/-- tUp with another supervision record. -/
def tSup (f : Superv → Superv) : State := { tUp with sup := f tUp.sup }
/-- The maintenance MAC on with rings of 2 entries in shared memory at 5_0000h; memory cells. -/
def tMnt (m : List Host.Cell) : State :=
  ((({ tMap tUp with mem := m } : State).wr .supMntCtl 0x80000110).wr .supMntTxbase 0x50000).wr .supMntRxbase 0x50000
/-- An entry: buffer 4_0000h, length or size n. -/
def tEntry (n : Byte) : List Host.Cell := [(0x200002, 4), (0x200004, n)]

/-- The ASCII bytes 123456789. -/
def tDigits : List Byte := [0x31, 0x32, 0x33, 0x34, 0x35, 0x36, 0x37, 0x38, 0x39]

/-- Operands of WordArithmetic at the wrap and the sign change. -/
theorem test_meets_WordArithmetic :
    (issues (tExe { w := [(1, 0x7FFFFFFF), (2, 1)] }) 0 = true) ∧
    (((tExe { w := [(1, 0x7FFFFFFF), (2, 1)] }).eng 0).sw.getLsbD 4 = false) :=
  by decide +kernel

/-- SaturatingArithmetic, LogicAndMoves, ShiftsByCount, Compares, BracketsAndAccumulator, JumpTargets, SystemInstructions ask for an executor that issues. -/
theorem test_meets_AluGroups :
    ((issues (tExe { sw := 0xF8 }) 0 = true)) ∧
    ((issues (tExe { nest := List.replicate 15 0 }) 0 = true) ∧
    (((tExe { nest := List.replicate 15 0 }).eng 0).nest.length < 16)) ∧
    ((issues (tExe { nest := List.replicate 16 0 }) 0 = true) ∧
    (16 ≤ ((tExe { nest := List.replicate 16 0 }).eng 0).nest.length)) ∧
    ((issues (tExe {}) 0 = true) ∧
    (((tExe {}).eng 0).nest = []) ∧
    (((tExe {}).W 0 1).toNat % 4 = 0) ∧
    (fenceWaits (tExe {}) 0 = false) ∧
    ((tExe {}).jobOf 0 = 0)) ∧
    ((((tExe { nest := [9], w := [(1, 0x40001)] }).eng 0).nest = [9]) ∧
    (((tExe { nest := [9], w := [(1, 0x40001)] }).W 0 1).toNat % 4 ≠ 0)) :=
  by and_intros <;> decide +kernel

/-- The SVC clauses of SystemInstructions: the foundry partition above, three slots full, four slots full. -/
theorem test_meets_SystemInstructions :
    ((issues ((tApp {}).setPart 7 { svc := List.replicate 3 tReq }) 0 = true) ∧
    (((tApp {}).setPart 7 { svc := List.replicate 3 tReq }).jobOf 0 ≠ 0) ∧
    ((((tApp {}).setPart 7 { svc := List.replicate 3 tReq }).part 7).svc.length < 4)) ∧
    ((issues ((tApp {}).setPart 7 { svc := List.replicate 4 tReq }) 0 = true) ∧
    (((tApp {}).setPart 7 { svc := List.replicate 4 tReq }).jobOf 0 ≠ 0) ∧
    (4 ≤ (((tApp {}).setPart 7 { svc := List.replicate 4 tReq }).part 7).svc.length)) :=
  by and_intros <;> decide +kernel

/-- Divisor 0, and the most negative number by -1. -/
theorem test_meets_DivisionResults :
    ((issues (tExe { w := [(1, 5)] }) 0 = true) ∧
    (((tExe { w := [(1, 5)] }).eng 0).sw.getLsbD 3 = false) ∧
    (((tExe { w := [(1, 5)] }).eng 0).sw.getLsbD 4 = false) ∧
    ((tExe { w := [(1, 5)] }).W 0 2 = 0)) ∧
    ((issues (tExe { w := [(1, 0x80000000), (2, 0xFFFFFFFF)] }) 0 = true) ∧
    ((tExe { w := [(1, 0x80000000), (2, 0xFFFFFFFF)] }).W 0 1 = 0x80000000) ∧
    ((tExe { w := [(1, 0x80000000), (2, 0xFFFFFFFF)] }).W 0 2 = 0xFFFFFFFF) ∧
    ((tExe { w := [(1, 0x80000000), (2, 0xFFFFFFFF)] }).W 0 2 ≠ 0)) ∧
    ((issues (tExe { w := [(1, 0x80000000), (2, 1)] }) 0 = true) ∧
    ((tExe { w := [(1, 0x80000000), (2, 1)] }).W 0 2 ≠ 0) ∧
    (¬ ((tExe { w := [(1, 0x80000000), (2, 1)] }).W 0 1 = 0x80000000 ∧ (tExe { w := [(1, 0x80000000), (2, 1)] }).W 0 2 = 0xFFFFFFFF))) :=
  by and_intros <;> decide +kernel

/-- Traps on with a zero divisor and with overflows at the edge. -/
theorem test_meets_ArithmeticTraps :
    ((issues (tExe { w := [(1, 5)], sw := 8 }) 0 = true) ∧
    (((tExe { w := [(1, 5)], sw := 8 }).eng 0).sw.getLsbD 3 = true) ∧
    ((tExe { w := [(1, 5)], sw := 8 }).W 0 2 = 0)) ∧
    ((issues (tExe { w := [(1, 0x7FFFFFFF), (2, 1), (3, 0xFFFFFFFF), (4, 2)], sw := 16 }) 0 = true) ∧
    (((tExe { w := [(1, 0x7FFFFFFF), (2, 1), (3, 0xFFFFFFFF), (4, 2)], sw := 16 }).eng 0).sw.getLsbD 4 = true) ∧
    (((tExe { w := [(1, 0x7FFFFFFF), (2, 1), (3, 0xFFFFFFFF), (4, 2)], sw := 16 }).W 0 1).saddOverflow ((tExe { w := [(1, 0x7FFFFFFF), (2, 1), (3, 0xFFFFFFFF), (4, 2)], sw := 16 }).W 0 2) = true) ∧
    (((tExe { w := [(1, 0x7FFFFFFF), (2, 1), (3, 0xFFFFFFFF), (4, 2)], sw := 16 }).W 0 1).ssubOverflow ((tExe { w := [(1, 0x7FFFFFFF), (2, 1), (3, 0xFFFFFFFF), (4, 2)], sw := 16 }).W 0 3) = true) ∧
    (((tExe { w := [(1, 0x7FFFFFFF), (2, 1), (3, 0xFFFFFFFF), (4, 2)], sw := 16 }).W 0 1).smulOverflow ((tExe { w := [(1, 0x7FFFFFFF), (2, 1), (3, 0xFFFFFFFF), (4, 2)], sw := 16 }).W 0 4) = true) ∧
    (((tExe { w := [(1, 0x7FFFFFFF), (2, 1), (3, 0xFFFFFFFF), (4, 2)], sw := 16 }).W 0 1).saddOverflow ((1 : BitVec 16).signExtend 32) = true)) :=
  by and_intros <;> decide +kernel

/-- Inside a handler; and outside one with a vector entry and a frame. -/
theorem test_meets_ExceptionEntry :
    ((((tExe { sw := 0x4000 }).eng 0).sw.getLsbD 14 = true)) ∧
    ((((tVec {} tCells).eng 0).sw.getLsbD 14 = false) ∧
    (fld ((tVec {} tCells).rdA .schPdVecS ((tVec {} tCells).jobOf 0)) 0 2 = 0) ∧
    (vecWord 0 1 (tVec {} tCells) = (some 0x40200, (tVec {} tCells))) ∧
    (vecWord 0 15 (tVec {} tCells) = (some 0x40300, (tVec {} tCells))) ∧
    (fld (0x40200 : Word) 0 2 = 0) ∧
    (frameAt (tVec {} tCells) ((tVec {} tCells).jobOf 0) 0x40300 = some 0x100300) ∧
    ((tVec {} tCells).sound 0x100300 32 = true) ∧
    (((tVec {} tCells).eng 0).stale = [])) :=
  by and_intros <;> decide +kernel

/-- Float traps off. -/
theorem test_meets_FloatCompletes :
    (issues (tExe {}) 0 = true) ∧
    (((tExe {}).eng 0).sw.getLsbD 5 = false) ∧
    (((tExe {}).eng 0).sw.getLsbD 6 = false) ∧
    (((tExe {}).eng 0).sw.getLsbD 7 = false) :=
  by decide +kernel

/-- NaN, signalling NaN, zeros, infinities, a negative value, the least subnormal over zero. -/
theorem test_meets_FloatSpecialValues :
    (isNaN 0x7FC00000 = true) ∧
    (isSNaN 0x7F800001 = true) ∧
    (isNaN 0x7F800001 = true) ∧
    (isZero 0 = true) ∧
    (isZero 0x80000000 = true) ∧
    (isInf 0x7F800000 = true) ∧
    (isInf 0xFF800000 = true) ∧
    (fNeg 0x7F800000 = fNeg 0x7F800000) ∧
    (isNaN 0x80000001 = false) ∧
    (isZero 0x80000001 = false) ∧
    (fNeg 0x80000001 = true) ∧
    (isNaN 1 = false) ∧
    (isInf 1 = false) ∧
    (isZero 1 = false) :=
  by decide +kernel

/-- LoadsReadLittleEndian and PrivateStores at the last word of a private page, SharedStores at the first of a shared one. -/
theorem test_meets_Loads :
    ((issues (tExe { w := [(1, 0x40FFC)] }) 0 = true) ∧
    ((tExe { w := [(1, 0x40FFC)] }).xlate ((tExe { w := [(1, 0x40FFC)] }).jobOf 0) .load ((tExe { w := [(1, 0x40FFC)] }).W 0 1 + (0 : BitVec 16).signExtend 32).toNat = some (0x100FFC, false)) ∧
    ((tExe { w := [(1, 0x40FFC)] }).xlate ((tExe { w := [(1, 0x40FFC)] }).jobOf 0) .store ((tExe { w := [(1, 0x40FFC)] }).W 0 1 + (0 : BitVec 16).signExtend 32).toNat = some (0x100FFC, false)) ∧
    (0x40000 ≤ ((tExe { w := [(1, 0x40FFC)] }).W 0 1 + (0 : BitVec 16).signExtend 32).toNat) ∧
    (isMem 0x100FFC 4 = true) ∧
    ((tExe { w := [(1, 0x40FFC)] }).sound 0x100FFC 4 = true) ∧
    (((tExe { w := [(1, 0x40FFC)] }).eng 0).stale = []) ∧
    (((tExe { w := [(1, 0x40FFC)] }).W 0 1 + (0 : BitVec 16).signExtend 32).toNat % 4 = 0)) ∧
    ((((tExe { w := [(1, 0x40FFE)] }).W 0 1 + (0 : BitVec 16).signExtend 32).toNat % 2 = 0)) ∧
    ((issues (tExe { w := [(1, 0x50000)] }) 0 = true) ∧
    ((tExe { w := [(1, 0x50000)] }).xlate ((tExe { w := [(1, 0x50000)] }).jobOf 0) .store ((tExe { w := [(1, 0x50000)] }).W 0 1 + (0 : BitVec 16).signExtend 32).toNat = some (0x200000, true)) ∧
    (0x200000 % 4 = 0) ∧
    (0x40000 ≤ ((tExe { w := [(1, 0x50000)] }).W 0 1 + (0 : BitVec 16).signExtend 32).toNat) ∧
    (isMem 0x200000 4 = true) ∧
    ((tExe { w := [(1, 0x50000)] }).sound 0x200000 4 = true) ∧
    (((tExe { w := [(1, 0x50000)] }).eng 0).stale = []) ∧
    (((tExe { w := [(1, 0x50000)] }).W 0 1 + (0 : BitVec 16).signExtend 32).toNat % 4 = 0)) :=
  by and_intros <;> decide +kernel

/-- A misaligned address, an address past the page, a store to II and one to the window at 3_0000h. -/
theorem test_meets_AccessFaults :
    (issues (tExe { w := [(1, 0x40FFE), (2, 0x41000), (3, 0xFFFC), (4, 0x30000), (5, 0x3FFFC)] }) 0 = true) ∧
    (((tExe { w := [(1, 0x40FFE), (2, 0x41000), (3, 0xFFFC), (4, 0x30000), (5, 0x3FFFC)] }).W 0 1).toNat % 4 ≠ 0) ∧
    (((tExe { w := [(1, 0x40FFE), (2, 0x41000), (3, 0xFFFC), (4, 0x30000), (5, 0x3FFFC)] }).W 0 2).toNat % 4 = 0) ∧
    (0x40000 ≤ ((tExe { w := [(1, 0x40FFE), (2, 0x41000), (3, 0xFFFC), (4, 0x30000), (5, 0x3FFFC)] }).W 0 2).toNat) ∧
    ((tExe { w := [(1, 0x40FFE), (2, 0x41000), (3, 0xFFFC), (4, 0x30000), (5, 0x3FFFC)] }).xlate ((tExe { w := [(1, 0x40FFE), (2, 0x41000), (3, 0xFFFC), (4, 0x30000), (5, 0x3FFFC)] }).jobOf 0) .load ((tExe { w := [(1, 0x40FFE), (2, 0x41000), (3, 0xFFFC), (4, 0x30000), (5, 0x3FFFC)] }).W 0 2).toNat = none) ∧
    ((tExe { w := [(1, 0x40FFE), (2, 0x41000), (3, 0xFFFC), (4, 0x30000), (5, 0x3FFFC)] }).xlate ((tExe { w := [(1, 0x40FFE), (2, 0x41000), (3, 0xFFFC), (4, 0x30000), (5, 0x3FFFC)] }).jobOf 0) .store ((tExe { w := [(1, 0x40FFE), (2, 0x41000), (3, 0xFFFC), (4, 0x30000), (5, 0x3FFFC)] }).W 0 2).toNat = none) ∧
    (((tExe { w := [(1, 0x40FFE), (2, 0x41000), (3, 0xFFFC), (4, 0x30000), (5, 0x3FFFC)] }).W 0 3).toNat < 0x10000) ∧
    (0x30000 ≤ ((tExe { w := [(1, 0x40FFE), (2, 0x41000), (3, 0xFFFC), (4, 0x30000), (5, 0x3FFFC)] }).W 0 4).toNat) ∧
    (((tExe { w := [(1, 0x40FFE), (2, 0x41000), (3, 0xFFFC), (4, 0x30000), (5, 0x3FFFC)] }).W 0 5).toNat < 0x40000) :=
  by decide +kernel

/-- A bit of MK and a data bit of the private page; the foundry area lies at 30_0000h. -/
theorem test_meets_BitInstructionsOnPrivateBytes :
    (issues ((tExe { w := [(1, 0x40000)] }).wrA .schPdAreaS 0x300) 0 = true) ∧
    ((bitByte ((tExe { w := [(1, 0x40000)] }).wrA .schPdAreaS 0x300) (((tExe { w := [(1, 0x40000)] }).wrA .schPdAreaS 0x300).jobOf 0) false (bitPlace (((tExe { w := [(1, 0x40000)] }).wrA .schPdAreaS 0x300).eng 0) (.direct 2 0 7))).map (·.2) = some true) ∧
    ((bitByte ((tExe { w := [(1, 0x40000)] }).wrA .schPdAreaS 0x300) (((tExe { w := [(1, 0x40000)] }).wrA .schPdAreaS 0x300).jobOf 0) true (bitPlace (((tExe { w := [(1, 0x40000)] }).wrA .schPdAreaS 0x300).eng 0) (.direct 2 0 7))).map (·.2) = some true) ∧
    (bitByte ((tExe { w := [(1, 0x40000)] }).wrA .schPdAreaS 0x300) (((tExe { w := [(1, 0x40000)] }).wrA .schPdAreaS 0x300).jobOf 0) true (bitPlace (((tExe { w := [(1, 0x40000)] }).wrA .schPdAreaS 0x300).eng 0) (.indirect 3 0 1)) = some (0x100000, true)) ∧
    (isMem 0x100000 1 = true) ∧
    (isRack 0x100000 = false) ∧
    (((tExe { w := [(1, 0x40000)] }).wrA .schPdAreaS 0x300).sound 0x100000 1 = true) ∧
    ((((tExe { w := [(1, 0x40000)] }).wrA .schPdAreaS 0x300).eng 0).stale = []) ∧
    (bitLegal true (.direct 2 0 7) = true) ∧
    (bitLegal false (.indirect 3 0 1) = true) :=
  by decide +kernel

/-- Bits at the image ends; blocks that are misaligned, or aligned outside MK and private data. -/
theorem test_meets_BitAndBlockRefusals :
    (issues (tExe { w := [(1, 0x40004), (2, 0x40002), (3, 0x50000), (4, 0x40FF8)] }) 0 = true) ∧
    ((tExe { w := [(1, 0x40004), (2, 0x40002), (3, 0x50000), (4, 0x40FF8)] }).iiSize ((tExe { w := [(1, 0x40004), (2, 0x40002), (3, 0x50000), (4, 0x40FF8)] }).jobOf 0) ≤ 256) ∧
    ((tExe { w := [(1, 0x40004), (2, 0x40002), (3, 0x50000), (4, 0x40FF8)] }).oiSize ((tExe { w := [(1, 0x40004), (2, 0x40002), (3, 0x50000), (4, 0x40FF8)] }).jobOf 0) ≤ 256) ∧
    ((tExe { w := [(1, 0x40004), (2, 0x40002), (3, 0x50000), (4, 0x40FF8)] }).mkSize ((tExe { w := [(1, 0x40004), (2, 0x40002), (3, 0x50000), (4, 0x40FF8)] }).jobOf 0) ≤ 256) ∧
    (((tExe { w := [(1, 0x40004), (2, 0x40002), (3, 0x50000), (4, 0x40FF8)] }).W 0 1).toNat % 8 ≠ 0) ∧
    (((tExe { w := [(1, 0x40004), (2, 0x40002), (3, 0x50000), (4, 0x40FF8)] }).W 0 2).toNat % 4 ≠ 0) ∧
    (((tExe { w := [(1, 0x40004), (2, 0x40002), (3, 0x50000), (4, 0x40FF8)] }).W 0 3).toNat % 8 = 0) ∧
    (privSpan (tExe { w := [(1, 0x40004), (2, 0x40002), (3, 0x50000), (4, 0x40FF8)] }) ((tExe { w := [(1, 0x40004), (2, 0x40002), (3, 0x50000), (4, 0x40FF8)] }).jobOf 0) ((tExe { w := [(1, 0x40004), (2, 0x40002), (3, 0x50000), (4, 0x40FF8)] }).W 0 3).toNat 16 = none) ∧
    (privSpan (tExe { w := [(1, 0x40004), (2, 0x40002), (3, 0x50000), (4, 0x40FF8)] }) ((tExe { w := [(1, 0x40004), (2, 0x40002), (3, 0x50000), (4, 0x40FF8)] }).jobOf 0) ((tExe { w := [(1, 0x40004), (2, 0x40002), (3, 0x50000), (4, 0x40FF8)] }).W 0 3).toNat 8 = none) ∧
    (privSpan (tExe { w := [(1, 0x40004), (2, 0x40002), (3, 0x50000), (4, 0x40FF8)] }) ((tExe { w := [(1, 0x40004), (2, 0x40002), (3, 0x50000), (4, 0x40FF8)] }).jobOf 0) ((tExe { w := [(1, 0x40004), (2, 0x40002), (3, 0x50000), (4, 0x40FF8)] }).W 0 4).toNat 16 = none) :=
  by decide +kernel

/-- TimersOnPrivateBlocks and CountersOnPrivateBlocks at the end of the private page. -/
theorem test_meets_Blocks :
    (issues (tExe { w := [(1, 0x40FF0), (2, 0x40FF8)] }) 0 = true) ∧
    (((tExe { w := [(1, 0x40FF0), (2, 0x40FF8)] }).W 0 1).toNat % 8 = 0) ∧
    (privSpan (tExe { w := [(1, 0x40FF0), (2, 0x40FF8)] }) ((tExe { w := [(1, 0x40FF0), (2, 0x40FF8)] }).jobOf 0) ((tExe { w := [(1, 0x40FF0), (2, 0x40FF8)] }).W 0 1).toNat 16 = some [(0x100FF0, 16)]) ∧
    ((tExe { w := [(1, 0x40FF0), (2, 0x40FF8)] }).sound 0x100FF0 16 = true) ∧
    (((tExe { w := [(1, 0x40FF0), (2, 0x40FF8)] }).eng 0).stale = []) ∧
    (((tExe { w := [(1, 0x40FF0), (2, 0x40FF8)] }).W 0 2).toNat % 4 = 0) ∧
    (privSpan (tExe { w := [(1, 0x40FF0), (2, 0x40FF8)] }) ((tExe { w := [(1, 0x40FF0), (2, 0x40FF8)] }).jobOf 0) ((tExe { w := [(1, 0x40FF0), (2, 0x40FF8)] }).W 0 2).toNat 8 = some [(0x100FF8, 8)]) ∧
    ((tExe { w := [(1, 0x40FF0), (2, 0x40FF8)] }).sound 0x100FF8 8 = true) ∧
    (((tExe { w := [(1, 0x40FF0), (2, 0x40FF8)] }).eng 0).stale = []) :=
  by decide +kernel

/-- The continuous job, and a job 3 us before its boundary. -/
theorem test_meets_CyendCommits :
    ((issues (tExe { cont := true }) 0 = true) ∧
    (fenceWaits (tExe { cont := true }) 0 = false) ∧
    (((tExe { cont := true }).eng 0).job = some 0) ∧
    (((tExe { cont := true }).eng 0).cont = true) ∧
    ((tExe { cont := true }).schEn = false)) ∧
    ((issues ((tApp {}).setPart 7 { bnd := some 3000 }) 0 = true) ∧
    (fenceWaits ((tApp {}).setPart 7 { bnd := some 3000 }) 0 = false) ∧
    ((((tApp {}).setPart 7 { bnd := some 3000 }).eng 0).job = some 7) ∧
    ((((tApp {}).setPart 7 { bnd := some 3000 }).eng 0).cont = false) ∧
    ((((tApp {}).setPart 7 { bnd := some 3000 }).part 7).bnd = some 3000) ∧
    (((tApp {}).setPart 7 { bnd := some 3000 }).now + 3000 ≤ 3000) ∧
    (((tApp {}).setPart 7 { bnd := some 3000 }).sch.contPend = false)) :=
  by and_intros <;> decide +kernel

/-- Outside a handler; and inside one with a frame of zeros whose depth is 16. -/
theorem test_meets_EretRestores :
    ((issues (tExe {}) 0 = true) ∧
    (((tExe {}).eng 0).sw.getLsbD 14 = false)) ∧
    ((issues (tVec { sw := 0x4000 } (tCells ++ [(0x10030A, 16)])) 0 = true) ∧
    (((tVec { sw := 0x4000 } (tCells ++ [(0x10030A, 16)])).eng 0).sw.getLsbD 14 = true) ∧
    (fld ((tVec { sw := 0x4000 } (tCells ++ [(0x10030A, 16)])).rdA .schPdVecS ((tVec { sw := 0x4000 } (tCells ++ [(0x10030A, 16)])).jobOf 0)) 0 2 = 0) ∧
    (vecWord 0 15 (tVec { sw := 0x4000 } (tCells ++ [(0x10030A, 16)])) = (some 0x40300, (tVec { sw := 0x4000 } (tCells ++ [(0x10030A, 16)])))) ∧
    (readFrame 0 8 0x40300 (tVec { sw := 0x4000 } (tCells ++ [(0x10030A, 16)])) = (some ((List.replicate 10 (0 : Byte)) ++ [16] ++ List.replicate 21 0), (tVec { sw := 0x4000 } (tCells ++ [(0x10030A, 16)])))) ∧
    ((BitVec.ofNat 32 (leNat ((((List.replicate 10 (0 : Byte)) ++ [16] ++ List.replicate 21 0).drop 8).take 4))).toNat / 65536 % 32 ≤ 16)) :=
  by and_intros <;> decide +kernel

/-- A shared word, with an equal and an unequal comparand; a private word. -/
theorem test_meets_AtomicsOnSharedWords :
    (issues (tExe { w := [(1, 0x50000), (3, 1), (4, 0x40000)] }) 0 = true) ∧
    (fenceWaits (tExe { w := [(1, 0x50000), (3, 1), (4, 0x40000)] }) 0 = false) ∧
    (((tExe { w := [(1, 0x50000), (3, 1), (4, 0x40000)] }).W 0 1).toNat % 4 = 0) ∧
    ((tExe { w := [(1, 0x50000), (3, 1), (4, 0x40000)] }).xlate ((tExe { w := [(1, 0x50000), (3, 1), (4, 0x40000)] }).jobOf 0) .atomic ((tExe { w := [(1, 0x50000), (3, 1), (4, 0x40000)] }).W 0 1).toNat = some (0x200000, true)) ∧
    ((tExe { w := [(1, 0x50000), (3, 1), (4, 0x40000)] }).sound 0x200000 4 = true) ∧
    (((tExe { w := [(1, 0x50000), (3, 1), (4, 0x40000)] }).eng 0).stale = []) ∧
    (BitVec.ofNat 32 (leNat (overlay ((tExe { w := [(1, 0x50000), (3, 1), (4, 0x40000)] }).eng 0).dirty 0x200000 ((tExe { w := [(1, 0x50000), (3, 1), (4, 0x40000)] }).bytes 0x200000 4))) = (tExe { w := [(1, 0x50000), (3, 1), (4, 0x40000)] }).W 0 2) ∧
    (BitVec.ofNat 32 (leNat (overlay ((tExe { w := [(1, 0x50000), (3, 1), (4, 0x40000)] }).eng 0).dirty 0x200000 ((tExe { w := [(1, 0x50000), (3, 1), (4, 0x40000)] }).bytes 0x200000 4))) ≠ (tExe { w := [(1, 0x50000), (3, 1), (4, 0x40000)] }).W 0 3) ∧
    ((tExe { w := [(1, 0x50000), (3, 1), (4, 0x40000)] }).xlate ((tExe { w := [(1, 0x50000), (3, 1), (4, 0x40000)] }).jobOf 0) .atomic ((tExe { w := [(1, 0x50000), (3, 1), (4, 0x40000)] }).W 0 4).toNat = none) :=
  by decide +kernel

/-- An illegal word, a waiting load that is answered, a held target. -/
theorem test_meets_IllegalRetryAndCutoff :
    ((issues (tExe {}) 0 = true) ∧
    (gleigDecode 0 0 = none)) ∧
    ((gleigDecode 0 0 = none) ∧
    (canExec (tExe { retry := some tRetry }) 0 = true) ∧
    (execHalted (tExe { retry := some tRetry }) 0 = false) ∧
    (((tExe { retry := some tRetry }).eng 0).retry = some tRetry) ∧
    (tRetry.store = false) ∧
    (tRetry.ea.toNat % tRetry.sz.bytes = 0) ∧
    (vLoad 0 tRetry.sz tRetry.ea.toNat ((tExe { retry := some tRetry }).setEng 0 { (tExe { retry := some tRetry }).eng 0 with retry := none }) = (.ok, 0, ((tExe { retry := some tRetry }).setEng 0 { (tExe { retry := some tRetry }).eng 0 with retry := none })))) ∧
    (((tHold.target 0).holder.isSome = true) ∧
    (holdLimit tHold 0 ≠ 0)) :=
  by and_intros <;> decide +kernel

/-- A PC outside every region; an executor without a job. -/
theorem test_meets_FetchFaultsAndHeldExecutors :
    ((mayIssue (State.reset.setEng 0 { job := some 0 }) 0 = true) ∧
    (selfArmed (State.reset.setEng 0 { job := some 0 }) 0 = false) ∧
    (fetchAt (State.reset.setEng 0 { job := some 0 }) 0 = none)) ∧
    ((mayIssue State.reset 0 = false)) :=
  by and_intros <;> decide +kernel

/-- A word of a well-formed instruction, and a word that decodes. -/
theorem test_meets_Words :
    (gleigWord (.shi 0 31 31 4 255) = some 0x7BFF04FF) ∧
    (Instr.wf (.shi 0 31 31 4 255) = true) ∧
    (gleigDecode 95 0x7BFF04FF = some (.shi 95 31 31 4 255)) :=
  by decide +kernel

/-- An unassigned offset, plain registers of both senders, an active copy, addresses outside the spans, the last word of DRAM. -/
theorem test_meets_RegisterWritesByAddress :
    ((levelAdmits .dbg 0x6000000000 true State.reset = true) ∧
    (levelAdmits (.part 0) 0x6000000000 true State.reset = true) ∧
    ((spanOf 0x600000FFFC).map (fun x => regAt x.2.2.2 0x600000FFFC) = some none) ∧
    (tPlainW (.part 0) (Reg.supMntRxbase.addr 0 0) 5 State.reset = true) ∧
    (tPlainW (.part 5) (Reg.secKladdr.addr 0 0) 5 State.reset = true) ∧
    ((spanOf 0x6000200000).bind (fun x => (regAt x.2.2.2 (Reg.schPdRelS.addr 0 0 + Reg.schPdRelS.row.aoff)).map (fun y => y.2.2.2)) = some true) ∧
    (spanOf 0x5000000000 = none) ∧
    (isRack 0x5000000000 = false) ∧
    (isMem 0x5000000000 4 = false) ∧
    (isMem 0x3FFFFFFC 4 = true) ∧
    (spanOf 0x3FFFFFFC = none) ∧
    (Size.b4 ≠ .b8) ∧
    (0x3FFFFFFC % Size.b4.bytes = 0) ∧
    (State.reset.sound 0x3FFFFFFC 4 = true) ∧
    (tdbgOf (Reg.supMntRxbase.addr 0 0) = none) ∧
    (State.reset.clk.pewQ = [])) ∧
    ((Reg.supWakeen ∈ pewterRegs) ∧
    ((tCk (fun c => { c with pewQ := [(Reg.supWakeen.row.base, 1)] })).clk.pewQ = (Reg.supWakeen.row.base, 1) :: [])) :=
  by and_intros <;> decide +kernel

/-- A level that refuses a read, and the address kinds at one that admits it. -/
theorem test_meets_RegisterReadsByAddress :
    ((debugReads (tLevel 6) 0x6000010000 = false)) ∧
    ((debugReads State.reset 0x6000000000 = true) ∧
    ((spanOf 0x600000FFFC).map (fun x => regAt x.2.2.2 0x600000FFFC) = some none) ∧
    (tPlainR (Reg.supWakeen.addr 0 0) false State.reset = true) ∧
    (tPlainR (Reg.schPdRelS.addr 0 0 + Reg.schPdRelS.row.aoff) true State.reset = true) ∧
    (isMem 0x3FFFFFFF 1 = true) ∧
    (spanOf 0x3FFFFFFF = none) ∧
    (isRack 0x3FFFFFFF = false) ∧
    (Size.b1 ≠ .b8) ∧
    (State.reset.sound 0x3FFFFFFF 1 = true) ∧
    (debugReads State.reset Reg.fabTdbg.row.base = true) ∧
    (debugLevel State.reset ≠ 2)) ∧
    ((debugReads tUp Reg.fabTdbg.row.base = true) ∧
    (debugLevel tUp ≠ 2) ∧
    (dbgLaneExec tUp 31 false = some 93)) :=
  by and_intros <;> decide +kernel

/-- A queue with a command in front; a memory in canonical form. -/
theorem test_meets_QueueAndMemory :
    ((({ State.reset with pending := [.fuseLoad, .wake] } : State).pending = .fuseLoad :: [.wake])) ∧
    ((Memory.wf ({ State.reset with mem := [(0, 1), (7, 255)] } : State).mem = true)) :=
  by and_intros <;> decide +kernel

/-- Clause by clause: supplies, monitors with TEST_EN low and high, the first and the last group that disconnects, brown-out, PFAIL in and out of Run, the flush. -/
theorem test_meets_SuppliesAndPowerFail :
    (((tPw (fun p => { p with vpewOk := false })).pwr.vpewOk = false)) ∧
    (((tPw (fun p => { p with armed := false, vcaOn := true })).pwr.vpewOk = true) ∧
    (tbHeld (tPw (fun p => { p with armed := false, vcaOn := true })) = false) ∧
    ((tPw (fun p => { p with armed := false, vcaOn := true })).pwr.armed = false) ∧
    ((tPw (fun p => { p with armed := false, vcaOn := true })).pwr.fatal = false) ∧
    (vcoreOn (tPw (fun p => { p with armed := false, vcaOn := true })) = true) ∧
    ((tPw (fun p => { p with armed := false, vcaOn := true })).pins.testEn = false) ∧
    ((tPw (fun p => { p with armed := false, vcaOn := true })).pins.wrst = true)) ∧
    ((tbHeld ({ tPw (fun p => { p with armed := false, vcaOn := true }) with pins := { tUp.pins with testEn := true } } : State) = false) ∧
    (({ tPw (fun p => { p with armed := false, vcaOn := true }) with pins := { tUp.pins with testEn := true } } : State).pwr.armed = false) ∧
    (({ tPw (fun p => { p with armed := false, vcaOn := true }) with pins := { tUp.pins with testEn := true } } : State).pwr.fatal = false) ∧
    (vcoreOn ({ tPw (fun p => { p with armed := false, vcaOn := true }) with pins := { tUp.pins with testEn := true } } : State) = true) ∧
    (({ tPw (fun p => { p with armed := false, vcaOn := true }) with pins := { tUp.pins with testEn := true } } : State).pins.testEn = true)) ∧
    (((if false then (tPw (fun p => { p with vcaOn := true, vcbOn := true, browned := true, boot := .held, flush := some 0 })).pwr.vcbOn else (tPw (fun p => { p with vcaOn := true, vcbOn := true, browned := true, boot := .held, flush := some 0 })).pwr.vcaOn) = true) ∧
    ((if false then (tPw (fun p => { p with vcaOn := true, vcbOn := true, browned := true, boot := .held, flush := some 0 })).pwr.vcaOn else (tPw (fun p => { p with vcaOn := true, vcbOn := true, browned := true, boot := .held, flush := some 0 })).pwr.vcbOn) = true) ∧
    ((tPw (fun p => { p with vcaOn := true, vcbOn := true, browned := true, boot := .held, flush := some 0 })).pwr.boot = .held) ∧
    ((tPw (fun p => { p with vcaOn := true, vcbOn := true, browned := true, boot := .held, flush := some 0 })).pwr.browned = true) ∧
    (vcoreOn (tPw (fun p => { p with vcaOn := true, vcbOn := true, browned := true, boot := .held, flush := some 0 })) = true) ∧
    ((tPw (fun p => { p with vcaOn := true, vcbOn := true, browned := true, boot := .held, flush := some 0 })).pwr.fatal = false) ∧
    ((tPw (fun p => { p with vcaOn := true, vcbOn := true, browned := true, boot := .held, flush := some 0 })).pins.wrst = true) ∧
    ((tPw (fun p => { p with vcaOn := true, vcbOn := true, browned := true, boot := .held, flush := some 0 })).pwr.flush ≠ none)) ∧
    (((if true then (tPw (fun p => { p with vcbOn := true })).pwr.vcbOn else (tPw (fun p => { p with vcbOn := true })).pwr.vcaOn) = true) ∧
    ((if true then (tPw (fun p => { p with vcbOn := true })).pwr.vcaOn else (tPw (fun p => { p with vcbOn := true })).pwr.vcbOn) = false) ∧
    ((tPw (fun p => { p with vcbOn := true })).pwr.boot ≠ .held)) ∧
    ((tUp.pwr.armed = true) ∧
    (tUp.pwr.browned = false) ∧
    (tUp.pins.pfail = false) ∧
    (tbHeld tUp = false) ∧
    (inReset tUp = false) ∧
    (tUp.pwr.state = .run) ∧
    (tUp.pwr.flush = none)) ∧
    (((tPw (fun p => { p with flush := some 0 })).pins.pfail = false) ∧
    (tbHeld (tPw (fun p => { p with flush := some 0 })) = false) ∧
    (inReset (tPw (fun p => { p with flush := some 0 })) = false) ∧
    ((tPw (fun p => { p with flush := some 0 })).pwr.state = .run) ∧
    ((tPw (fun p => { p with flush := some 0 })).pwr.flush ≠ none)) ∧
    (((tPw (fun p => { p with state := .doze })).pins.pfail = false) ∧
    (tbHeld (tPw (fun p => { p with state := .doze })) = false) ∧
    (inReset (tPw (fun p => { p with state := .doze })) = true ∨ (tPw (fun p => { p with state := .doze })).pwr.state ≠ .run)) :=
  by and_intros <;> decide +kernel

/-- Clause by clause; key 5Ah with codes 1 and 2; a flush just short of 2 ms. -/
theorem test_meets_ResetsAndTheirReach :
    ((tbHeld tUp = false) ∧
    (bootPast tUp 2 = true) ∧
    (tUp.pwr.state = .run) ∧
    (tUp.pwr.flush = none) ∧
    (tUp.pwr.fatal = false) ∧
    (tUp.pwr.browned = false) ∧
    (tUp.pwr.boot ≠ .held) ∧
    (tUp.pins.wrst = true) ∧
    (tUp.sto.vol = none) ∧
    (fld (0x5A000001 : Word) 24 8 = 0x5A) ∧
    (fld (0x5A000001 : Word) 0 2 = 1) ∧
    (fld (0x5A000002 : Word) 24 8 = 0x5A) ∧
    (fld (0x5A000002 : Word) 0 2 = 2) ∧
    (fld (0x59000001 : Word) 24 8 ≠ 0x5A)) ∧
    (((tPw (fun p => { p with fatal := true })).pwr.fatal = true) ∧
    ((tPw (fun p => { p with fatal := true })).pwr.boot ≠ .held)) ∧
    ((({ tPw (fun p => { p with flush := some 0 }) with tb := { ns := 1999999 } } : State).pwr.boot ≠ .held) ∧
    (tbHeld ({ tPw (fun p => { p with flush := some 0 }) with tb := { ns := 1999999 } } : State) = false) ∧
    (({ tPw (fun p => { p with flush := some 0 }) with tb := { ns := 1999999 } } : State).pwr.fatal = false) ∧
    (({ tPw (fun p => { p with flush := some 0 }) with tb := { ns := 1999999 } } : State).pwr.browned = false) ∧
    (({ tPw (fun p => { p with flush := some 0 }) with tb := { ns := 1999999 } } : State).pwr.flush ≠ none) ∧
    (({ tPw (fun p => { p with flush := some 0 }) with tb := { ns := 1999999 } } : State).pwr.deferred ≠ some .cold) ∧
    (({ tPw (fun p => { p with flush := some 0 }) with tb := { ns := 1999999 } } : State).pwr.flush = some 0) ∧
    (({ tPw (fun p => { p with flush := some 0 }) with tb := { ns := 1999999 } } : State).now < 0 + 2000000)) ∧
    (((tPw (fun p => { p with deferred := some .cold, wrstHold := some 2 })).pins.porst = true) ∧
    ((tPw (fun p => { p with deferred := some .cold, wrstHold := some 2 })).pwr.vpewOk = true) ∧
    ((tPw (fun p => { p with deferred := some .cold, wrstHold := some 2 })).pwr.pwrup = false) ∧
    ((tPw (fun p => { p with deferred := some .cold, wrstHold := some 2 })).pwr.deferred = some .cold) ∧
    ((tPw (fun p => { p with deferred := some .cold, wrstHold := some 2 })).pwr.flush = none) ∧
    ((tPw (fun p => { p with deferred := some .cold, wrstHold := some 2 })).pins.wrst = true) ∧
    ((tPw (fun p => { p with deferred := some .cold, wrstHold := some 2 })).pwr.fatal = false) ∧
    ((tPw (fun p => { p with deferred := some .cold, wrstHold := some 2 })).pwr.wrstHold = some 2)) :=
  by and_intros <;> decide +kernel

/-- Every other partition held and one in the cycle; an entry with a posted write, with and without a wake source; doze and pewter. -/
theorem test_meets_PowerStatesAndWake :
    ((inReset tUp = false) ∧
    (tUp.pwr.state = .run) ∧
    (tUp.pwr.entering = none) ∧
    (tUp.pwr.fatal = false) ∧
    (fld (0xA5000100 : Word) 24 8 = 0xA5) ∧
    (othersHeld tUp = true) ∧
    (fld (0xA5000100 : Word) 8 2 = 1) ∧
    (fld (0xA5000200 : Word) 8 2 = 2) ∧
    (tUp.rd .supWakesrc &&& tUp.rd .supWakeen = 0) ∧
    (tbHeld tUp = false)) ∧
    ((inReset (tUp.setPart 1023 { state := .wait }) = false) ∧
    (othersHeld (tUp.setPart 1023 { state := .wait }) = false)) ∧
    (((({ tPw (fun p => { p with entering := some .doze }) with clk := { tUp.clk with pewQ := [(0, 0)] } }) : State).pwr.entering = some .doze) ∧
    ((({ tPw (fun p => { p with entering := some .doze }) with clk := { tUp.clk with pewQ := [(0, 0)] } }) : State).clk.pewQ ≠ [])) ∧
    (((((tPw (fun p => { p with entering := some .pewter })).wr .supWakesrc 1).wr .supWakeen 1).clk.pewQ = []) ∧
    ((((tPw (fun p => { p with entering := some .pewter })).wr .supWakesrc 1).wr .supWakeen 1).rd .supWakesrc &&& (((tPw (fun p => { p with entering := some .pewter })).wr .supWakesrc 1).wr .supWakeen 1).rd .supWakeen ≠ 0) ∧
    ((((tPw (fun p => { p with entering := some .pewter })).wr .supWakesrc 1).wr .supWakeen 1).pwr.entering = some .pewter)) ∧
    (((tPw (fun p => { p with entering := some .doze })).pwr.entering = some .doze) ∧
    ((tPw (fun p => { p with entering := some .doze })).clk.pewQ = []) ∧
    ((tPw (fun p => { p with entering := some .doze })).rd .supWakesrc &&& (tPw (fun p => { p with entering := some .doze })).rd .supWakeen = 0)) ∧
    (((tPw (fun p => { p with entering := some .pewter })).pwr.entering = some .pewter) ∧
    ((tPw (fun p => { p with entering := some .pewter })).sto.vol = none) ∧
    ((tPw (fun p => { p with entering := some .pewter })).clk.pewQ = []) ∧
    ((tPw (fun p => { p with entering := some .pewter })).rd .supWakesrc &&& (tPw (fun p => { p with entering := some .pewter })).rd .supWakeen = 0)) ∧
    (((((tPw (fun p => { p with state := .doze })).wr .supWakesrc 1).wr .supWakeen 1).rd .supWakesrc &&& (((tPw (fun p => { p with state := .doze })).wr .supWakesrc 1).wr .supWakeen 1).rd .supWakeen ≠ 0) ∧
    ((((tPw (fun p => { p with state := .doze })).wr .supWakesrc 1).wr .supWakeen 1).pwr.state = .doze) ∧
    ((((tPw (fun p => { p with state := .doze })).wr .supWakesrc 1).wr .supWakeen 1).pins.pfail = false)) ∧
    (((((tPw (fun p => { p with state := .pewter })).wr .supWakesrc 1).wr .supWakeen 1).rd .supWakesrc &&& (((tPw (fun p => { p with state := .pewter })).wr .supWakesrc 1).wr .supWakeen 1).rd .supWakeen ≠ 0) ∧
    ((((tPw (fun p => { p with state := .pewter })).wr .supWakesrc 1).wr .supWakeen 1).pwr.state = .pewter) ∧
    ((((tPw (fun p => { p with state := .pewter })).wr .supWakesrc 1).wr .supWakeen 1).pins.wrst = true)) :=
  by and_intros <;> decide +kernel

/-- Steps 1 to 7 with nothing in the slots; a locked fuse section whose check word does not match; links off and on. -/
theorem test_meets_BootSequence :
    (((tStep 1).pwr.boot = .step 1) ∧
    ((tStep 1).pwr.fatal = false) ∧
    ((tStep 1).pins.wrst = true) ∧
    (shadowOk { (tStep 1) with fuses := { (tStep 1).fuses with shadow := sensed (tStep 1).fuses } } = true)) ∧
    ((shadowOk { ({ tStep 1 with fuses := { cellA := [(0, 0x10000), (1, 2)] } } : State) with fuses := { ({ tStep 1 with fuses := { cellA := [(0, 0x10000), (1, 2)] } } : State).fuses with shadow := sensed ({ tStep 1 with fuses := { cellA := [(0, 0x10000), (1, 2)] } } : State).fuses } } = false)) ∧
    (((tStep 2).pwr.boot = .step 2) ∧
    ((tStep 2).clk.xaOn = true) ∧
    ((tStep 2).clk.xaPass = 4) ∧
    ((tStep 2).clk.xaDelay = true)) ∧
    ((({ tStep 2 with clk := { xaOn := true, xaPass := 3 } } : State).clk.xaPass ≠ 4)) ∧
    ((({ tStep 3 with pins := { tUp.pins with wrst := false } } : State).pins.wrst = false)) ∧
    ((({ tStep 3 with clk := { on := 15, lock := 7 } } : State).pins.wrst = true) ∧
    (({ tStep 3 with clk := { on := 15, lock := 7 } } : State).clk.on.getLsbD 3 = true) ∧
    (({ tStep 3 with clk := { on := 15, lock := 7 } } : State).clk.lock.getLsbD 3 = false) ∧
    (({ tStep 3 with clk := { on := 15, lock := 7 } } : State).pwr.fatal = false) ∧
    (({ tStep 3 with clk := { on := 15, lock := 7 } } : State).pwr.boot = .step 3) ∧
    (({ tStep 3 with clk := { on := 15, lock := 7 } } : State).clk.lock ||| BitVec.ofNat 4 (2 ^ 3) = ({ tStep 3 with clk := { on := 15, lock := 7 } } : State).clk.on)) ∧
    ((({ tStep 3 with clk := { on := 15, lock := 3 } } : State).clk.lock.getLsbD 3 = false) ∧
    (({ tStep 3 with clk := { on := 15, lock := 3 } } : State).clk.lock ||| BitVec.ofNat 4 (2 ^ 3) ≠ ({ tStep 3 with clk := { on := 15, lock := 3 } } : State).clk.on)) ∧
    ((((((((tStep 4).wr .stoLCtl 0 0).wr .stoLCtl 0 1).wr .stoLCtl 0 2).wr .stoLCtl 0 3)).pwr.boot = .step 4) ∧
    ((List.range 4).all (fun l => !(((((((tStep 4).wr .stoLCtl 0 0).wr .stoLCtl 0 1).wr .stoLCtl 0 2).wr .stoLCtl 0 3)).rd .stoLCtl l).getLsbD 31) = true)) ∧
    (((((tStep 4).wr .stoLCtl 0x80000000 0).rd .stoLCtl 0).getLsbD 31 = true)) ∧
    (((tStep 6).pwr.boot = .step 6) ∧
    (bootOrder (passOver 2 (tStep 6)) 2 = [])) ∧
    (((tStep 7).pwr.boot = .step 7) ∧
    ((trySlots 0 3 ((tStep 7).setSec { (tStep 7).sec with lastBad := .fault })).1 = false)) ∧
    (((tPw (fun p => { p with boot := .stopped 6 .crc })).pwr.boot = .stopped 6 .crc)) :=
  by and_intros <;> decide +kernel

/-- At step 6 the one FND slot has a manifest that fails. -/
theorem test_meets_BootSequence_bad :
    ((tBad6.pwr.boot = .step 6) ∧
    (tBad6.pwr.fatal = false) ∧
    (bootOrder (passOver 2 tBad6) 2 = 0 :: []) ∧
    ((trySlot 2 0 [] (tImage tBad6)).1 ≠ .ok) ∧
    (bootOrder (passOver 2 (trySlot 2 0 [] (tImage tBad6)).2) 2 = [])) ∧
    ((tBoth6.pwr.boot = .step 6) ∧
    (tBoth6.pwr.fatal = false) ∧
    (bootOrder (passOver 2 tBoth6) 2 = 0 :: [1]) ∧
    ((trySlot 2 0 [] (tImage tBoth6)).1 ≠ .ok) ∧
    (bootOrder (passOver 2 (trySlot 2 0 [] (tImage tBoth6)).2) 2 ≠ [])) :=
  by and_intros <;> decide +kernel

/-- At step 6 the one FND slot verifies: manifest, hash, signature, boot header. -/
theorem test_meets_BootSequence_fnd : (tSlots 6).pwr.boot = .step 6 ∧ bootOrder (passOver 2 (tSlots 6)) 2 = 0 :: [] ∧
    (trySlot 2 0 [] (tImage (tSlots 6))).1 = .ok := by
  refine ⟨rfl, by decide +kernel, ?_⟩
  unfold trySlot verifySlot manCheck edVerify
  generalize Config.edCofactor = b
  cases b <;> decide +kernel

/-- Slot 0 of FIO verifies and is chosen. -/
theorem test_fioVerifies : trySlots 0 3 (tFresh (tSlots 7)) = (true, tTook (tSlots 7)) := by
  unfold trySlots trySlot verifySlot manCheck edVerify
  generalize Config.edCofactor = b
  cases b <;> decide +kernel

/-- At step 7 FIO and NET verify. -/
theorem test_meets_BootSequence_net : (trySlots 0 3 (tFresh (tSlots 7))).1 = true ∧
    (trySlots 1 3 (tFresh (trySlots 0 3 (tFresh (tSlots 7))).2)).1 = true := by
  rw [test_fioVerifies]
  refine ⟨rfl, ?_⟩
  unfold trySlots trySlot verifySlot manCheck edVerify
  generalize Config.edCofactor = b
  cases b <;> decide +kernel

/-- At step 7 FIO verifies and no NET slot is there. -/
theorem test_meets_BootSequence_fio : (trySlots 0 3 (tFresh tNoNet)).1 = true ∧ (trySlots 1 3 (tFresh (trySlots 0 3 (tFresh tNoNet)).2)).1 = false := by
  have h : trySlots 0 3 (tFresh tNoNet) = (true, tTook tNoNet) := by
    unfold trySlots trySlot verifySlot manCheck edVerify
    generalize Config.edCofactor = b
    cases b <;> decide +kernel
  rw [h]
  exact ⟨rfl, by decide +kernel⟩

/-- Windows at the edges of both ranges, first and second failures, the fourth pass at step 2, XB before and after its delay. -/
theorem test_meets_MonitorsAndFallback :
    (((tCk (fun c => { c with xaFail := 0 })).clk.xaOn = true) ∧
    ((tCk (fun c => { c with xaFail := 0 })).pwr.boot ≠ .step 2) ∧
    (7373 ≤ (7373 : BitVec 16).toNat) ∧
    ((9011 : BitVec 16).toNat ≤ 9011) ∧
    ((7372 : BitVec 16).toNat < 7373) ∧
    (9011 < (9012 : BitVec 16).toNat) ∧
    ((tCk (fun c => { c with xaFail := 0 })).clk.xaFail = 0) ∧
    (xaInUse (tCk (fun c => { c with xaFail := 0 })) = true) ∧
    ((tCk (fun c => { c with xaFail := 0 })).clk.xbDelay = true) ∧
    ((tCk (fun c => { c with xaFail := 0 })).clk.pewOnXb = true) ∧
    ((tCk (fun c => { c with xaFail := 0 })).clk.xbFail = 0) ∧
    (tbSrc (tCk (fun c => { c with xaFail := 0 })) = 0) ∧
    (tbHeld (tCk (fun c => { c with xaFail := 0 })) = false) ∧
    (bootPast (tCk (fun c => { c with xaFail := 0 })) 1 = true) ∧
    (fusesDue (tCk (fun c => { c with xaFail := 0 })) = false)) ∧
    ((fusesDue State.reset = true)) ∧
    (((tCk (fun c => { c with xaFail := 1, xbFail := 1, pewOnXb := false, xbPass := 3 })).clk.xaFail = 1) ∧
    (xaInUse (tCk (fun c => { c with xaFail := 1, xbFail := 1, pewOnXb := false, xbPass := 3 })) = true) ∧
    ((tCk (fun c => { c with xaFail := 1, xbFail := 1, pewOnXb := false, xbPass := 3 })).clk.xbFail = 1) ∧
    ((tCk (fun c => { c with xaFail := 1, xbFail := 1, pewOnXb := false, xbPass := 3 })).clk.xbPass = 3) ∧
    ((tCk (fun c => { c with xaFail := 1, xbFail := 1, pewOnXb := false, xbPass := 3 })).clk.pewOnXb = false) ∧
    (tbSrc (tCk (fun c => { c with xaFail := 1, xbFail := 1, pewOnXb := false, xbPass := 3 })) = 0) ∧
    (113 ≤ (113 : BitVec 16).toNat) ∧
    ((137 : BitVec 16).toNat ≤ 137) ∧
    ((112 : BitVec 16).toNat < 113) ∧
    (137 < (138 : BitVec 16).toNat)) ∧
    ((({ tStep 2 with clk := { xaOn := true, xaDelay := true, xaPass := 3 } } : State).clk.xaOn = true) ∧
    (({ tStep 2 with clk := { xaOn := true, xaDelay := true, xaPass := 3 } } : State).pwr.boot = .step 2) ∧
    (({ tStep 2 with clk := { xaOn := true, xaDelay := true, xaPass := 3 } } : State).pwr.fatal = false) ∧
    (({ tStep 2 with clk := { xaOn := true, xaDelay := true, xaPass := 3 } } : State).clk.xaDelay = true) ∧
    (({ tStep 2 with clk := { xaOn := true, xaDelay := true, xaPass := 3 } } : State).clk.xaPass = 3) ∧
    (({ tStep 2 with clk := { xaOn := true, xaDelay := true, xaPass := 3 } } : State).clk.xbDelay = false)) :=
  by and_intros <;> decide +kernel

/-- A locked PLL, a clock request with its PLL on and off, a hold that is set, MULT at both ends and past them, the scheduler on. -/
theorem test_meets_PllsAndEngineFrequency :
    (((tUp.wr .clkPllctl 0 2).clk.on.getLsbD 2 = true) ∧
    ((tUp.wr .clkPllctl 0 2).clk.lock.getLsbD 2 = true) ∧
    (domPll .network = some 2) ∧
    ((tUp.wr .clkPllctl 0 2).pwr.state = .run) ∧
    ((tUp.wr .clkPllctl 0 2).clk.fallback = false) ∧
    ((2 : Fin 4) ≠ 3) ∧
    (fld ((tUp.wr .clkPllctl 0 2).rd .clkPllctl 2) 16 16 ≠ 0xFFFF) ∧
    (((tUp.wr .clkPllctl 0 2).rd .clkPllctl 2).getLsbD 1 = false) ∧
    (pllWork (tUp.wr .clkPllctl 0 2) 2 = false) ∧
    ((tUp.wr .clkPllctl 0 2).schEn = false) ∧
    (20 ≤ fld (20 : Word) 0 6) ∧
    (fld (20 : Word) 0 6 ≤ 40) ∧
    (fld (20 : Word) 0 6 ≠ fld ((tUp.wr .clkPllctl 0 2).rd .clkEpllfreq) 0 6) ∧
    (fld (19 : Word) 0 6 < 20) ∧
    (40 < fld (41 : Word) 0 6) ∧
    (fld ((tUp.wr .clkPllctl 0 2).rd .clkEpllfreq) 0 6 = fld ((tUp.wr .clkPllctl 0 2).rd .clkEpllfreq) 0 6) ∧
    (20 ≤ fld ((tUp.wr .clkPllctl 0 2).rd .clkEpllfreq) 0 6) ∧
    (fld ((tUp.wr .clkPllctl 0 2).rd .clkEpllfreq) 0 6 ≤ 40)) ∧
    ((domPll .network = some 2) ∧
    ((tCk (fun c => { c with on := 8 })).pwr.state = .run) ∧
    ((tCk (fun c => { c with on := 8 })).clk.on.getLsbD 2 = false)) ∧
    (((tUp.wr .schCtl 1).schEn = true)) :=
  by and_intros <;> decide +kernel

/-- An empty queue, a tick held in reset, a tick and a step from the fast source, slews at the limit, a replica one tick off and more, hand-overs both ways. -/
theorem test_meets_TimebaseCommands :
    ((State.reset.pending = []) ∧
    (tbHeld State.reset = true)) ∧
    ((tbHeld tUp = false) ∧
    (tbSrc tUp = 0) ∧
    (tUp.tb.slew = 0) ∧
    (tUp.tb.stepPend = none) ∧
    ((100000000 : Word).toInt.natAbs ≤ 100000000) ∧
    (100000000 < (100000001 : Word).toInt.natAbs) ∧
    (tUp.schEn = false) ∧
    ((Int.ofNat (4 : BitVec 64).toNat - Int.ofNat tUp.now).natAbs ≤ tickNs tUp) ∧
    (tickNs tUp < (Int.ofNat (5 : BitVec 64).toNat - Int.ofNat tUp.now).natAbs) ∧
    (fastOk tUp = true)) ∧
    ((tbHeld ({ tUp with tb := { stepPend := some (-1) } } : State) = false) ∧
    (tbSrc ({ tUp with tb := { stepPend := some (-1) } } : State) = 0) ∧
    (({ tUp with tb := { stepPend := some (-1) } } : State).tb.slew = 0) ∧
    (({ tUp with tb := { stepPend := some (-1) } } : State).tb.stepPend = some (-1))) ∧
    (((tUp.wr .schCtl 1).schEn = true)) ∧
    ((fastOk (({ tUp with tb := { ns := 10 } } : State).wr .timTbstat 1) = true) ∧
    (tbSrc (({ tUp with tb := { ns := 10 } } : State).wr .timTbstat 1) ≠ 0) ∧
    (10 * 2 ^ 28 ≤ tbUnits (({ tUp with tb := { ns := 10 } } : State).wr .timTbstat 1)) ∧
    (tbUnits (({ tUp with tb := { ns := 10 } } : State).wr .timTbstat 1) + 10 * 2 ^ 28 < 2 ^ 92)) ∧
    ((fastOk (tCk (fun c => { c with lock := 0 })) = false) ∧
    (tbSrc (tCk (fun c => { c with lock := 0 })) = 0)) :=
  by and_intros <;> decide +kernel

/-- Comparator 31: free, owned, noted by the last tick, armed, due, periodic, with a fire owed, with a release group; periods at their limits; PPS0 held by another; trigger 1 idle, enabled, holding a stamp. -/
theorem test_meets_ComparatorsTriggersAndPps :
    ((tUp.tb.hit.getLsbD 31 = false) ∧
    ((0x80000005 : Word).getLsbD 31 = true) ∧
    ((tUp.rd .timTtOwn 31).getLsbD 31 = false) ∧
    ((0 : Word).getLsbD 31 = false) ∧
    (ttOwnedBy tUp 31 5 = false) ∧
    (tbHeld tUp = false) ∧
    ((true : Bool) ≠ (tUp.rd .timTrigCtl 1).getLsbD 1) ∧
    ((tUp.rd .timTrigCtl 1).getLsbD 0 = false) ∧
    ((false : Bool) = (tUp.rd .timTrigCtl 1).getLsbD 1) ∧
    ((tUp.rd .timTtCtl 31).getLsbD 0 = false) ∧
    (tUp.tb.owed = [])) ∧
    ((({ tCmp 5 1 100 100 with tb := { ns := 100, hit := 0x80000000 } } : State).tb.hit.getLsbD 31 = true)) ∧
    ((((tCmp 5 0 0 0).rd .timTtOwn 31).getLsbD 31 = true) ∧
    (fld ((tCmp 5 0 0 0).rd .timTtOwn 31) 0 10 ≠ fld (0x80000006 : Word) 0 10) ∧
    (fld ((tCmp 5 0 0 0).rd .timTtOwn 31) 0 10 = fld (0x80000005 : Word) 0 10) ∧
    (ttOwnedBy (tCmp 5 0 0 0) 31 5 = true) ∧
    ((0x400 : Word) &&& 0x6400 ≠ 0) ∧
    (ttOwnedBy (fireFirst 31 (tCmp 5 0 0 0)) 31 0 = false) ∧
    ((0x101 : Word) &&& 0x6400 = 0) ∧
    ((0x101 : Word).getLsbD 1 = false) ∧
    (ppsTaken (fireFirst 31 (tCmp 5 0 0 0)) 31 ((0x101 : Word) &&& 0x7F07) = false) ∧
    ((3 : Word).getLsbD 0 = true) ∧
    ((3 : Word).getLsbD 1 = true) ∧
    ((fireFirst 31 (tCmp 5 0 0 0)).rd .timTtPerS 31 = 0) ∧
    (groupOf (fireFirst 31 (tCmp 5 0 0 0)) 31 = none) ∧
    (1000 ≤ (1000 : Word).toNat) ∧
    ((4000000000 : Word).toNat ≤ 4000000000) ∧
    ((((fireFirst 31 (tCmp 5 0 0 0)).rd .timTtCtl 31).getLsbD 0 && ((fireFirst 31 (tCmp 5 0 0 0)).rd .timTtCtl 31).getLsbD 1) = false) ∧
    ((999 : Word) ≠ 0) ∧
    ((999 : Word).toNat < 1000) ∧
    (4000000000 < (4000000001 : Word).toNat)) ∧
    ((ttOwnedBy ((tCmp 5 0 0 0).wr .timTtPerS 1000 31) 31 5 = true) ∧
    ((3 : Word) &&& 0x6400 = 0) ∧
    ((fireFirst 31 ((tCmp 5 0 0 0).wr .timTtPerS 1000 31)).rd .timTtPerS 31 ≠ 0)) ∧
    ((ttOwnedBy (fireFirst 31 (((tCmp 0 0 0 0).wr .timTtOwn 0x80000000 30).wr .timTtCtl 0x2001 30)) 31 0 = true) ∧
    ((0x2001 : Word).getLsbD 1 = false) ∧
    (ppsTaken (fireFirst 31 (((tCmp 0 0 0 0).wr .timTtOwn 0x80000000 30).wr .timTtCtl 0x2001 30)) 31 ((0x2001 : Word) &&& 0x7F07) = true)) ∧
    ((groupOf (fireFirst 31 ((tCmp 0 0 0 0).wr .schRg 0x8000001F 5)) 31 = some 5) ∧
    (members (fireFirst 31 ((tCmp 0 0 0 0).wr .schRg 0x8000001F 5)) = []) ∧
    (admits ((fireFirst 31 ((tCmp 0 0 0 0).wr .schRg 0x8000001F 5)).wr .timTtPerS 1000 31) ((members (fireFirst 31 ((tCmp 0 0 0 0).wr .schRg 0x8000001F 5))).filter (fun m => relGrp ((fireFirst 31 ((tCmp 0 0 0 0).wr .schRg 0x8000001F 5)).rd .schPdRelS m) = 5)) = true)) ∧
    ((((tCmp 5 1 100 99).rd .timTtCtl 31).getLsbD 0 = true) ∧
    ((tCmp 5 1 100 99).now < ((tCmp 5 1 100 99).rd .timTtCmpLo 31).toNat + 2 ^ 32 * ((tCmp 5 1 100 99).rd .timTtCmpHi 31).toNat)) ∧
    ((tbHeld (tCmp 5 1 100 100) = false) ∧
    (((tCmp 5 1 100 100).rd .timTtCtl 31).getLsbD 0 = true) ∧
    (((tCmp 5 1 100 100).rd .timTtCmpLo 31).toNat + 2 ^ 32 * ((tCmp 5 1 100 100).rd .timTtCmpHi 31).toNat ≤ (tCmp 5 1 100 100).now) ∧
    ((tCmp 5 1 100 100).tb.stepped.getLsbD 31 = false) ∧
    (((tCmp 5 1 100 100).rd .timTtCtl 31).getLsbD 2 = false) ∧
    (((tCmp 5 1 100 100).rd .timTtCtl 31).getLsbD 1 = false)) ∧
    (((((tCmp 5 3 100 100).wr .timTtPerS 1000 31).rd .timTtCtl 31).getLsbD 0 = true) ∧
    ((((tCmp 5 3 100 100).wr .timTtPerS 1000 31).rd .timTtCtl 31).getLsbD 1 = true) ∧
    ((((tCmp 5 3 100 100).wr .timTtPerS 1000 31).rd .timTtCmpLo 31).toNat + 2 ^ 32 * (((tCmp 5 3 100 100).wr .timTtPerS 1000 31).rd .timTtCmpHi 31).toNat ≤ ((tCmp 5 3 100 100).wr .timTtPerS 1000 31).now) ∧
    (((tCmp 5 3 100 100).wr .timTtPerS 1000 31).now < (((tCmp 5 3 100 100).wr .timTtPerS 1000 31).rd .timTtCmpLo 31).toNat + 2 ^ 32 * (((tCmp 5 3 100 100).wr .timTtPerS 1000 31).rd .timTtCmpHi 31).toNat + (((tCmp 5 3 100 100).wr .timTtPerS 1000 31).rd .timTtPerS 31).toNat) ∧
    ((((tCmp 5 3 100 100).wr .timTtPerS 1000 31).rd .timTtCmpLo 31).toNat + 2 ^ 32 * (((tCmp 5 3 100 100).wr .timTtPerS 1000 31).rd .timTtCmpHi 31).toNat + (((tCmp 5 3 100 100).wr .timTtPerS 1000 31).rd .timTtPerS 31).toNat < 2 ^ 64)) ∧
    (((((tCmp 5 3 100 3100).wr .timTtPerS 1000 31).rd .timTtCmpLo 31).toNat + 2 ^ 32 * (((tCmp 5 3 100 3100).wr .timTtPerS 1000 31).rd .timTtCmpHi 31).toNat + (((tCmp 5 3 100 3100).wr .timTtPerS 1000 31).rd .timTtPerS 31).toNat ≤ ((tCmp 5 3 100 3100).wr .timTtPerS 1000 31).now) ∧
    (0 < (((tCmp 5 3 100 3100).wr .timTtPerS 1000 31).rd .timTtPerS 31).toNat) ∧
    (((tCmp 5 3 100 3100).wr .timTtPerS 1000 31).now + (((tCmp 5 3 100 3100).wr .timTtPerS 1000 31).rd .timTtPerS 31).toNat < 2 ^ 64)) ∧
    ((({ tUp with tb := { owed := [(31, 100, 1)] } } : State).tb.owed.find? (fun x => decide (x.1 = 31)) = some (31, 100, 1))) ∧
    ((tbHeld (tUp.wr .timTrigCtl 9 1) = false) ∧
    ((true : Bool) ≠ ((tUp.wr .timTrigCtl 9 1).rd .timTrigCtl 1).getLsbD 1) ∧
    (((tUp.wr .timTrigCtl 9 1).rd .timTrigCtl 1).getLsbD 0 = true) ∧
    (((tUp.wr .timTrigCtl 9 1).rd .timTrigCtl 1).getLsbD 3 = true)) ∧
    (((((({ tUp with tb := { ns := 8 } } : State).wr .timTrigCtl 1 1).wr .timTbstat 1).rd .timTrigCtl 1).getLsbD 0 = true) ∧
    ((((({ tUp with tb := { ns := 8 } } : State).wr .timTrigCtl 1 1).wr .timTbstat 1).rd .timTrigCtl 1).getLsbD 3 = false) ∧
    (tbSrc ((({ tUp with tb := { ns := 8 } } : State).wr .timTrigCtl 1 1).wr .timTbstat 1) ≠ 0) ∧
    (524288 ≤ ((({ tUp with tb := { ns := 8 } } : State).wr .timTrigCtl 1 1).wr .timTbstat 1).nowAt 0 * 65536 + Int.ofNat (((({ tUp with tb := { ns := 8 } } : State).wr .timTrigCtl 1 1).wr .timTbstat 1).tb.frac / 2 ^ 12)) ∧
    (((({ tUp with tb := { ns := 8 } } : State).wr .timTrigCtl 1 1).wr .timTbstat 1).nowAt 0 * 65536 + Int.ofNat (((({ tUp with tb := { ns := 8 } } : State).wr .timTrigCtl 1 1).wr .timTbstat 1).tb.frac / 2 ^ 12) + 524288 < 2 ^ 80)) :=
  by and_intros <;> decide +kernel

/-- ALLOY3 with nothing, one output and a late lane, at 8 and 9 and at 16 and 17 cycles; ALLOY2; the states in which the voters compare; a job boundary with a resync due; RESYNC with three, two and one lane that pass. -/
theorem test_meets_VoterAndResync :
    ((((tTri {}).triad 31).state = .alloy3) ∧
    (((tTri {}).triad 31).odd = none) ∧
    (((tTri {}).triad 31).inj = none) ∧
    (((tTri {}).triad 31).late = []) ∧
    (((tTri {}).triad 31).shown = []) ∧
    (((tTri {}).triad 31).await = []) ∧
    (fld (((tTri {}).wr .fabLanecfg 0).rd .fabLanecfg) 0 4 = 0) ∧
    (alloyRuns ((tTri {}).wr .fabLanecfg 0) 31 = true) ∧
    ((((tTri {}).wr .fabLanecfg 0).eng (3 * 31)).job = none) ∧
    (enabledPart 8 = some (3, .b1)) ∧
    (enabledPart (tOut 1).be = some (0, .b4))) ∧
    ((((tTri { shown := tShown }).triad 31).state = .alloy3) ∧
    (((tTri { shown := tShown }).triad 31).late = []) ∧
    (Lane.b ≠ Lane.a) ∧
    (((tTri { shown := tShown }).triad 31).shown = [{ lane := .b, cyc := 100, out := tOut 1 }]) ∧
    (((tTri { shown := tShown }).triad 31).await = []) ∧
    (100 + 16 < 117) ∧
    (116 ≤ 100 + 16) ∧
    (headOf ((deliver 31 [.a, .b] (issueOut 31 (tOut 1) ((tTri { shown := tShown }).setTriad 31 { ((tTri { shown := tShown }).triad 31) with shown := [] })).rsp (issueOut 31 (tOut 1) ((tTri { shown := tShown }).setTriad 31 { ((tTri { shown := tShown }).triad 31) with shown := [] }))).triad 31) (thirdLane .a .b) = none)) ∧
    ((((tTri { await := [tAwait] }).triad 31).shown = []) ∧
    (((tTri { await := [tAwait] }).triad 31).await = [tAwait]) ∧
    (tAwait.lane = .c) ∧
    (tOut 1 = tAwait.out) ∧
    (tOut 2 ≠ tAwait.out) ∧
    (cycDist 108 tAwait.t2 ≤ 8) ∧
    (8 < cycDist 109 tAwait.t2) ∧
    (tAwait.t2 + 8 < 109)) ∧
    ((((tTri { state := .alloy2, odd := some .c, shown := tShown }).triad 31).state = .alloy2) ∧
    (((tTri { state := .alloy2, odd := some .c, shown := tShown }).triad 31).odd = some .c) ∧
    (((tTri { state := .alloy2, odd := some .c, shown := tShown }).triad 31).inj = none) ∧
    (((tTri { state := .alloy2, odd := some .c, shown := tShown }).triad 31).late = []) ∧
    (Lane.a ≠ Lane.c) ∧
    (Lane.b ≠ Lane.c) ∧
    (Lane.a ≠ Lane.b) ∧
    (((tTri { state := .alloy2, odd := some .c, shown := tShown }).triad 31).await = []) ∧
    (((tTri { state := .alloy2, odd := some .c, shown := tShown }).triad 31).shown = [{ lane := .b, cyc := 100, out := tOut 1 }]) ∧
    (cycDist 108 100 ≤ 8) ∧
    (8 < cycDist 109 100) ∧
    (100 + 8 < 109) ∧
    (tOut 2 ≠ tOut 1)) ∧
    ((((tTctl { state := .handover } 1).triad 31).state = .handover) ∧
    (splitMode (tTctl { state := .handover } 1) 31 = true) ∧
    (((tTctl { state := .handover } 1).eng (3 * 31)).job = none)) ∧
    ((((tTri { state := .alloy2, odd := some .a, rsPend := true, rsDue := true }).triad 31).rsPend = true) ∧
    (((tTri { state := .alloy2, odd := some .a, rsPend := true, rsDue := true }).triad 31).state = .alloy2) ∧
    (((tTri { state := .alloy2, odd := some .a, rsPend := true, rsDue := true }).triad 31).rsDue = true) ∧
    (triadIdle (tTri { state := .alloy2, odd := some .a, rsPend := true, rsDue := true }) 31 = true)) ∧
    ((((tTri { state := .resync }).triad 31).state = .resync) ∧
    (((tTri { state := .resync }).triad 31).swapped = false) ∧
    (((tTri { state := .resync }).triad 31).haltPend = false) ∧
    (wantsSplit ((tTri { state := .resync }).wr .fabLanecfg 0) 31 = splitMode ((tTri { state := .resync }).wr .fabLanecfg 0) 31) ∧
    (failedLanes 6 = [.a]) ∧
    (failedLanes 3 = [.c]) ∧
    (2 ≤ (failedLanes 4).length) ∧
    (2 ≤ (failedLanes 0).length) ∧
    (fld (((tTri { state := .resync }).wr .fabLanecfg 0).rd .fabLanecfg) 0 4 = 0)) :=
  by and_intros <;> decide +kernel

/-- A request to keep and to change MODE with room and without, MODE 2, a faulted triad; QUIESCE with BIST, without and with a resync pending; BIST; both hand-overs; an engine that fails; halts; a step; injections. -/
theorem test_meets_SplitMergeHaltAndInjection :
    ((((tTri {}).triad 31).state = .alloy3) ∧
    (splitMode (tTri {}) 31 = false) ∧
    (fld (0 : Word) 0 2 = 0) ∧
    (((tTri {}).triad 31).retired = 0) ∧
    (fld (1 : Word) 0 2 = 1) ∧
    (capA (((tTri {}).put .fabTctlS 1 31).setTriad 31 { ((tTri {}).triad 31) with state := .quiesce, before := .alloy3, req := true, inj := none }) ≠ 0) ∧
    (check1 (((tTri {}).put .fabTctlS 1 31).setTriad 31 { ((tTri {}).triad 31) with state := .quiesce, before := .alloy3, req := true, inj := none }) = true) ∧
    (check2 (((tTri {}).put .fabTctlS 1 31).setTriad 31 { ((tTri {}).triad 31) with state := .quiesce, before := .alloy3, req := true, inj := none }) = true) ∧
    (2 ≤ fld (2 : Word) 0 2) ∧
    (2 ≤ fld (3 : Word) 0 2) ∧
    (inHandover (tTri {}) 31 = false)) ∧
    ((((tOdd).triad 31).state = .alloy3) ∧
    (splitMode tOdd 31 = false) ∧
    (capA ((tOdd.put .fabTctlS 1 31).setTriad 31 { ((tOdd).triad 31) with state := .quiesce, before := .alloy3, req := true, inj := none }) = 0 ∨ check1 ((tOdd.put .fabTctlS 1 31).setTriad 31 { ((tOdd).triad 31) with state := .quiesce, before := .alloy3, req := true, inj := none }) = false ∨ check2 ((tOdd.put .fabTctlS 1 31).setTriad 31 { ((tOdd).triad 31) with state := .quiesce, before := .alloy3, req := true, inj := none }) = false)) ∧
    ((((tTri { state := .faulted }).triad 31).state = .faulted) ∧
    (((tTri { state := .faulted }).triad 31).retired = 0)) ∧
    ((((tTri { state := .quiesce, odd := some .c }).triad 31).state = .quiesce) ∧
    (triadIdle (tTctl { state := .quiesce, odd := some .c } 1) 31 = true) ∧
    (((tTri { state := .quiesce, odd := some .c }).triad 31).rsPend = false) ∧
    (fld ((tTctl { state := .quiesce, odd := some .c } 1).rd .fabTctlS 31) 0 2 = 1) ∧
    (((tTri { state := .quiesce, odd := some .c }).triad 31).odd ≠ none)) ∧
    ((triadIdle (tTctl { state := .quiesce } 0) 31 = true) ∧
    (((tTri { state := .quiesce }).triad 31).rsPend = false) ∧
    (((tTctl { state := .quiesce } 0).rd .fabTctlS 31).getLsbD 2 = false) ∧
    (fld ((tTctl { state := .quiesce } 0).rd .fabTctlS 31) 0 2 ≠ 1 ∨ ((tTri { state := .quiesce }).triad 31).odd = none)) ∧
    ((((tTri { state := .quiesce, odd := some .c, rsPend := true, retired := 3 }).triad 31).state = .quiesce) ∧
    (triadIdle (tTctl { state := .quiesce, odd := some .c, rsPend := true, retired := 3 } 0) 31 = true) ∧
    (((tTri { state := .quiesce, odd := some .c, rsPend := true, retired := 3 }).triad 31).rsPend = true) ∧
    (((tTri { state := .quiesce, odd := some .c, rsPend := true, retired := 3 }).triad 31).odd = some .c) ∧
    (((tTri { state := .quiesce, odd := some .c, rsPend := true, retired := 3 }).triad 31).retired.getLsbD Lane.c.idx = false)) ∧
    ((((tTri { state := .bist }).triad 31).state = .bist) ∧
    (((tTri { state := .bist }).triad 31).retired = 0) ∧
    (splitMode (tTctl { state := .bist } 1) 31 = true) ∧
    ((1 : BitVec 3) ≠ 0)) ∧
    ((((tTri { state := .handover }).triad 31).state = .handover) ∧
    (((tTri { state := .handover }).triad 31).haltPend = false) ∧
    (splitMode (tTctl { state := .handover } 1) 31 = true) ∧
    (inHandover (tTctl { state := .handover } 1) 31 = true)) ∧
    ((((tTri { state := .handover }).triad 31).state = .handover) ∧
    (((tTri { state := .handover }).triad 31).haltPend = false) ∧
    (splitMode (tTctl { state := .handover } 0) 31 = false) ∧
    (((tTri { state := .handover }).triad 31).retired = 0) ∧
    ((6 : BitVec 3) ≠ 7)) ∧
    ((((tTctl { state := .split } 1).triad 31).state = .split) ∧
    (wantsSplit (tTctl { state := .split } 1) 31 = splitMode (tTctl { state := .split } 1) 31) ∧
    (execSplit (tTctl { state := .split } 1) 95 = true) ∧
    (((tTctl { state := .split } 1).eng 95).job = none)) ∧
    (((((tTctl { state := .split } 1).wr .fabTctlS 0 31).triad 31).state = .split) ∧
    (wantsSplit ((tTctl { state := .split } 1).wr .fabTctlS 0 31) 31 ≠ splitMode ((tTctl { state := .split } 1).wr .fabTctlS 0 31) 31)) ∧
    ((execHalted ((tTri { halted := 7 }).setEng 93 { retry := some { store := false, reg := 0, float := false, signed := false, sz := .b4, ea := 0 } }) 93 = true) ∧
    ((((tTri { halted := 7 }).setEng 93 { retry := some { store := false, reg := 0, float := false, signed := false, sz := .b4, ea := 0 } }).eng 93).retry ≠ none)) ∧
    ((debugWrites ({ tExe {} with mem := [(0x100003, 0x10)] } : State) = true) ∧
    (fld (1 : Word) 4 2 ≠ 3) ∧
    (fld (0x21 : Word) 4 2 ≠ 3) ∧
    ((1 : Word).getLsbD 0 = true) ∧
    (inHandover ({ tExe {} with mem := [(0x100003, 0x10)] } : State) 0 = false) ∧
    ((({ tExe {} with mem := [(0x100003, 0x10)] } : State).eng 0).retry = none) ∧
    ((({ tExe {} with mem := [(0x100003, 0x10)] } : State).eng 1).retry = none) ∧
    ((({ tExe {} with mem := [(0x100003, 0x10)] } : State).eng 2).retry = none) ∧
    (fetchAt ((((dropRetries 0 ((({ tExe {} with mem := [(0x100003, 0x10)] } : State).put .fabTdbg 3 0).setTriad 0 ({ (({ tExe {} with mem := [(0x100003, 0x10)] } : State).triad 0) with halted := (({ tExe {} with mem := [(0x100003, 0x10)] } : State).triad 0).halted ||| (dbgLanes ({ tExe {} with mem := [(0x100003, 0x10)] } : State) 0 1) } : Triad))).reply .ok).setTriad 0 { ({ (({ tExe {} with mem := [(0x100003, 0x10)] } : State).triad 0) with halted := (({ tExe {} with mem := [(0x100003, 0x10)] } : State).triad 0).halted ||| (dbgLanes ({ tExe {} with mem := [(0x100003, 0x10)] } : State) 0 1) } : Triad) with halted := ({ (({ tExe {} with mem := [(0x100003, 0x10)] } : State).triad 0) with halted := (({ tExe {} with mem := [(0x100003, 0x10)] } : State).triad 0).halted ||| (dbgLanes ({ tExe {} with mem := [(0x100003, 0x10)] } : State) 0 1) } : Triad).halted &&& ~~~ (dbgLanes ({ tExe {} with mem := [(0x100003, 0x10)] } : State) 0 1) }).setEng (dbgExec ({ tExe {} with mem := [(0x100003, 0x10)] } : State) 0 1).val { (((dropRetries 0 ((({ tExe {} with mem := [(0x100003, 0x10)] } : State).put .fabTdbg 3 0).setTriad 0 ({ (({ tExe {} with mem := [(0x100003, 0x10)] } : State).triad 0) with halted := (({ tExe {} with mem := [(0x100003, 0x10)] } : State).triad 0).halted ||| (dbgLanes ({ tExe {} with mem := [(0x100003, 0x10)] } : State) 0 1) } : Triad))).reply .ok).setTriad 0 { ({ (({ tExe {} with mem := [(0x100003, 0x10)] } : State).triad 0) with halted := (({ tExe {} with mem := [(0x100003, 0x10)] } : State).triad 0).halted ||| (dbgLanes ({ tExe {} with mem := [(0x100003, 0x10)] } : State) 0 1) } : Triad) with halted := ({ (({ tExe {} with mem := [(0x100003, 0x10)] } : State).triad 0) with halted := (({ tExe {} with mem := [(0x100003, 0x10)] } : State).triad 0).halted ||| (dbgLanes ({ tExe {} with mem := [(0x100003, 0x10)] } : State) 0 1) } : Triad).halted &&& ~~~ (dbgLanes ({ tExe {} with mem := [(0x100003, 0x10)] } : State) 0 1) }).eng (dbgExec ({ tExe {} with mem := [(0x100003, 0x10)] } : State) 0 1).val with retry := none }) (dbgExec ({ tExe {} with mem := [(0x100003, 0x10)] } : State) 0 1).val = some 0x100000) ∧
    (gleigDecode (dbgExec ({ tExe {} with mem := [(0x100003, 0x10)] } : State) 0 1) (((((dropRetries 0 ((({ tExe {} with mem := [(0x100003, 0x10)] } : State).put .fabTdbg 3 0).setTriad 0 ({ (({ tExe {} with mem := [(0x100003, 0x10)] } : State).triad 0) with halted := (({ tExe {} with mem := [(0x100003, 0x10)] } : State).triad 0).halted ||| (dbgLanes ({ tExe {} with mem := [(0x100003, 0x10)] } : State) 0 1) } : Triad))).reply .ok).setTriad 0 { ({ (({ tExe {} with mem := [(0x100003, 0x10)] } : State).triad 0) with halted := (({ tExe {} with mem := [(0x100003, 0x10)] } : State).triad 0).halted ||| (dbgLanes ({ tExe {} with mem := [(0x100003, 0x10)] } : State) 0 1) } : Triad) with halted := ({ (({ tExe {} with mem := [(0x100003, 0x10)] } : State).triad 0) with halted := (({ tExe {} with mem := [(0x100003, 0x10)] } : State).triad 0).halted ||| (dbgLanes ({ tExe {} with mem := [(0x100003, 0x10)] } : State) 0 1) } : Triad).halted &&& ~~~ (dbgLanes ({ tExe {} with mem := [(0x100003, 0x10)] } : State) 0 1) }).setEng (dbgExec ({ tExe {} with mem := [(0x100003, 0x10)] } : State) 0 1).val { (((dropRetries 0 ((({ tExe {} with mem := [(0x100003, 0x10)] } : State).put .fabTdbg 3 0).setTriad 0 ({ (({ tExe {} with mem := [(0x100003, 0x10)] } : State).triad 0) with halted := (({ tExe {} with mem := [(0x100003, 0x10)] } : State).triad 0).halted ||| (dbgLanes ({ tExe {} with mem := [(0x100003, 0x10)] } : State) 0 1) } : Triad))).reply .ok).setTriad 0 { ({ (({ tExe {} with mem := [(0x100003, 0x10)] } : State).triad 0) with halted := (({ tExe {} with mem := [(0x100003, 0x10)] } : State).triad 0).halted ||| (dbgLanes ({ tExe {} with mem := [(0x100003, 0x10)] } : State) 0 1) } : Triad) with halted := ({ (({ tExe {} with mem := [(0x100003, 0x10)] } : State).triad 0) with halted := (({ tExe {} with mem := [(0x100003, 0x10)] } : State).triad 0).halted ||| (dbgLanes ({ tExe {} with mem := [(0x100003, 0x10)] } : State) 0 1) } : Triad).halted &&& ~~~ (dbgLanes ({ tExe {} with mem := [(0x100003, 0x10)] } : State) 0 1) }).eng (dbgExec ({ tExe {} with mem := [(0x100003, 0x10)] } : State) 0 1).val with retry := none }).word 0x100000) = some (.nop (dbgExec ({ tExe {} with mem := [(0x100003, 0x10)] } : State) 0 1)))) ∧
    ((fld (0x801F0102 : Word) 8 2 ≠ 3) ∧
    (fld (0x801F0102 : Word) 0 2 ≠ 3) ∧
    ((0x801F0102 : Word).getLsbD 31 = true) ∧
    ((0x001F0102 : Word).getLsbD 31 = false) ∧
    (((tTri { inj := some (.b, 0) }).triad (fld (0x801F0102 : Word) 16 5)).state = .alloy3) ∧
    (((tTri { inj := some (.b, 0) }).triad (fld (0x801F0102 : Word) 16 5)).req = false) ∧
    (((tTri { inj := some (.b, 0) }).triad (fld (0x801F0102 : Word) 16 5)).inj ≠ none)) ∧
    ((((tTri {}).triad (fld (0x801F0102 : Word) 16 5)).inj = none)) ∧
    ((((tTri { state := .split }).triad (fld (0x801F0102 : Word) 16 5)).state ≠ .alloy3)) :=
  by and_intros <;> decide +kernel

/-- Clause by clause for partition 1023 (the last): descriptors with and without admission, groups, forces, indicators, STOP, RESET, RESTART, both enables, requests, replies. -/
theorem test_meets_SchedulerWritesAndCommands :
    ((isMember tUp 1023 = false) ∧
    (pdRuns tUp 1023 2 5 = false) ∧
    (relOfs 0x0FF < relDiv 0xFFF) ∧
    (relDiv (0x10 : Word) ≤ relOfs (0x10 : Word)) ∧
    (pdCtlBad tUp 1023 0 = true) ∧
    (tUp.schEn = false) ∧
    ((tUp.part 1023).state = .off) ∧
    (svcFirst tUp = none) ∧
    ((tUp.rd .timTtOwn (fld (0 : Word) 0 5)).getLsbD 31 = false)) ∧
    ((isMember (tAdm 1023 { state := .wait } 0x60000000) 1023 = true) ∧
    (pdRuns (tAdm 1023 { state := .wait } 0x60000000) 1023 2 500000 = true) ∧
    (admits ((tAdm 1023 { state := .wait } 0x60000000).put (pdReg 2) 500000 1023) [1023] = true) ∧
    (admits ((tAdm 1023 { state := .wait } 0x60000000).put (pdReg 2) 500001 1023) [1023] = false) ∧
    (pdCtlBad (tAdm 1023 { state := .wait } 0x60000000) 1023 0x40000000 = false) ∧
    (pdEn 0x40000000 = false) ∧
    (fld (0x40000000 : Word) 8 8 = fld (ctlS (tAdm 1023 { state := .wait } 0x60000000) 1023) 8 8) ∧
    (fld (0x40000100 : Word) 8 8 ≠ fld (ctlS (tAdm 1023 { state := .wait } 0x60000000) 1023) 8 8) ∧
    (pdCtlBad (tAdm 1023 { state := .wait } 0x60000000) 1023 0x40000100 = false) ∧
    (pdEn 0x60000000 = true) ∧
    (admits ((tAdm 1023 { state := .wait } 0x60000000).put .schPdCtlS 0x60000000 1023) [1023] = true) ∧
    (admits ((tAdm 1023 { state := .wait } 0x60000000).put .schPdCtlS 0x60002000 1023) [1023] = false)) ∧
    ((pdCtlBad (tAdm 1023 {} 0) 1023 0x60000000 = false) ∧
    (admits ((tAdm 1023 {} 0).put .schPdCtlS 0x60000000 1023) [1023] = true) ∧
    (pdEn (ctlS (tAdm 1023 {} 0) 1023) = false) ∧
    (((tAdm 1023 {} 0).part 1023).state.admitted = false) ∧
    (((tAdm 1023 {} 0).rd .timTtOwn (fld (0x80000000 : Word) 0 5)).getLsbD 31 = true) ∧
    (fld ((tAdm 1023 {} 0).rd .timTtOwn (fld (0x80000000 : Word) 0 5)) 0 10 = 0) ∧
    (groupUsed (tAdm 1023 {} 0) 0 = false) ∧
    ((List.range 16).all (fun h => h == 0 || !groupOk (tAdm 1023 {} 0) h || groupCmp (tAdm 1023 {} 0) h != 0) = true) ∧
    ((15 : Fin 16) ≠ 0) ∧
    (groupOk (tAdm 1023 {} 0) 0 = true) ∧
    (groupCmp (tAdm 1023 {} 0) 0 = fld (0x80000000 : Word) 0 5)) ∧
    ((forceBad (tUp.put .schFrcS 0x3FF 255) 255 = false) ∧
    (forceBad (tUp.put .schFrcS 0x800003FF 255) 255 = true ∨ forceBad ((tUp.put .schFrcS 0x800003FF 255).put .schFrcOfsS 0xFFFF 255) 255 = true)) ∧
    ((forceBad ((((tUp.wr .schFrcS 0x800003FF 255))).put .schFrcOfsS 0xFFFF 255) 255 = true)) ∧
    ((((tUp.wr .supPinown 0x80001000 (96 + 63)).rd .supPinown (96 + fld (63 : Word) 0 6)).getLsbD 31 = true) ∧
    (fld ((tUp.wr .supPinown 0x80001000 (96 + 63)).rd .supPinown (96 + fld (63 : Word) 0 6)) 12 2 = 1) ∧
    (((tUp.wr .supPinown 0x80001000 (96 + 63)).rd .supPinown (96 + fld (0 : Word) 0 6)).getLsbD 31 = false ∨ fld ((tUp.wr .supPinown 0x80001000 (96 + 63)).rd .supPinown (96 + fld (0 : Word) 0 6)) 12 2 ≠ 1)) ∧
    ((1023 ≠ 0) ∧
    (((tAdm 1023 { state := .run, resetting := true } 0x60000000).part 1023).state ≠ .off) ∧
    (((tAdm 1023 { state := .run, resetting := true } 0x60000000).part 1023).resetting = true)) ∧
    ((1023 ≠ 0) ∧
    (((tAdm 1023 { state := .stopped } 0x60000000).part 1023).state = .stopped) ∧
    (pdEn (ctlS (tAdm 1023 { state := .stopped } 0x60000000) 1023) = true) ∧
    (admits ((tAdm 1023 { state := .stopped } 0x60000000).setPart 1023 { ((tAdm 1023 { state := .stopped } 0x60000000).part 1023) with state := if (tAdm 1023 { state := .stopped } 0x60000000).schEn then .wait else .held, first := true, count := 0, autoRst := false, swapDue := true }) [1023] = true)) ∧
    (((((tAdm 1023 { state := .shed } 0x60000000).wr .schPdBudgetS 999 1023).part 1023).state = .shed) ∧
    (pdEn (ctlS ((tAdm 1023 { state := .shed } 0x60000000).wr .schPdBudgetS 999 1023) 1023) = true) ∧
    (admits (((tAdm 1023 { state := .shed } 0x60000000).wr .schPdBudgetS 999 1023).setPart 1023 { (((tAdm 1023 { state := .shed } 0x60000000).wr .schPdBudgetS 999 1023).part 1023) with state := if ((tAdm 1023 { state := .shed } 0x60000000).wr .schPdBudgetS 999 1023).schEn then .wait else .held, first := true, count := 0, autoRst := false, swapDue := true }) [1023] = false)) ∧
    ((1023 ≠ 0) ∧
    (((tAdm 1023 { state := .stopped } 0).part 1023).state = .stopped) ∧
    (pdEn (ctlS (tAdm 1023 { state := .stopped } 0) 1023) = false)) ∧
    ((1023 ≠ 0) ∧
    ((((tPart 1023 { state := .run, exec := 0 } 0x60000000).setEng 0 { job := some 1023 }).part 1023).state ≠ .off) ∧
    ((execOf ((tPart 1023 { state := .run, exec := 0 } 0x60000000).setEng 0 { job := some 1023 }) 1023).isSome = true)) ∧
    ((((tAdm 1023 { state := .wait } 0x60000000).wr .schCtl 1).schEn = true) ∧
    ((1023, ((tAdm 1023 { state := .wait } 0x60000000).wr .schCtl 1).part 1023) ∈ ((tAdm 1023 { state := .wait } 0x60000000).wr .schCtl 1).parts) ∧
    ((((tAdm 1023 { state := .wait } 0x60000000).wr .schCtl 1).part 1023).state.admitted = true)) ∧
    (((tAdm 1023 {} 0x60000000).schEn = false) ∧
    ((List.range 1024).filter (fun n => pdEn (ctlS (tAdm 1023 {} 0x60000000) n)) = [1023]) ∧
    (admitsAll (tAdm 1023 {} 0x60000000) [1023] = true) ∧
    (((tAdm 1023 {} 0x60000000).part 1023).state ≠ .stopped) ∧
    (1023 ∈ [1023])) ∧
    (((List.range 1024).filter (fun n => pdEn (ctlS ((tAdm 1023 {} 0x60000000).wr .schPdBudgetS 999 1023) n)) = [1023]) ∧
    (admitsAll ((tAdm 1023 {} 0x60000000).wr .schPdBudgetS 999 1023) [1023] = false)) ∧
    ((svcFirst ((tUp.setPart 7 { svc := [tReq] }).setPart 1023 { svc := [{ tReq with ord := 1 }] }) = some (7, tReq))) ∧
    ((fld (((tUp.setPart 1023 { state := .queued }).wr .schRplsel 1023).rd .schRplsel) 0 10 ≠ 0) ∧
    ((((tUp.setPart 1023 { state := .queued }).wr .schRplsel 1023).part (fld (((tUp.setPart 1023 { state := .queued }).wr .schRplsel 1023).rd .schRplsel) 0 10)).state = .queued) ∧
    ((1 : Word).getLsbD 0 = true)) :=
  by and_intros <;> decide +kernel

/-- A release that is due, a snapshot, executors with nothing, an own job, the continuous job and a job to steal; budgets, margins, boundaries; shedding with and without cause. -/
theorem test_meets_ReleasesDispatchAndBoundaries :
    ((({ (tAdm 1023 { state := .wait } 0x60000000).wr .schCtl 1 with sch := { due := [(15, 1023, 5)] } } : State).sch.due = [(15, 1023, 5)]) ∧
    ((({ (tAdm 1023 { state := .wait } 0x60000000).wr .schCtl 1 with sch := { due := [(15, 1023, 5)] } } : State).part 1023).state = .wait) ∧
    ((({ (tAdm 1023 { state := .wait } 0x60000000).wr .schCtl 1 with sch := { due := [(15, 1023, 5)] } } : State).part 1023).bnd = none) ∧
    (({ (tAdm 1023 { state := .wait } 0x60000000).wr .schCtl 1 with sch := { due := [(15, 1023, 5)] } } : State).schEn = true) ∧
    (({ (tAdm 1023 { state := .wait } 0x60000000).wr .schCtl 1 with sch := { due := [(15, 1023, 5)] } } : State).pwr.fatal = false) ∧
    (({ (tAdm 1023 { state := .wait } 0x60000000).wr .schCtl 1 with sch := { due := [(15, 1023, 5)] } } : State).pwr.state = .run) ∧
    (({ (tAdm 1023 { state := .wait } 0x60000000).wr .schCtl 1 with sch := { due := [(15, 1023, 5)] } } : State).pwr.classNHeld = false ∨ ({ (tAdm 1023 { state := .wait } 0x60000000).wr .schCtl 1 with sch := { due := [(15, 1023, 5)] } } : State).cls 1023 ≠ 2)) ∧
    ((((tAdm 1023 { snapping := true, bnd := some 9 } 0x60000000).part 1023).snapping = true) ∧
    ((tAdm 1023 { snapping := true, bnd := some 9 } 0x60000000).parts.all (fun q => !copiedBefore (tAdm 1023 { snapping := true, bnd := some 9 } 0x60000000) q.1 1023) = true) ∧
    (((tAdm 1023 { snapping := true, bnd := some 9 } 0x60000000).part 1023).bnd ≠ none) ∧
    (((tAdm 1023 { snapping := true, bnd := some 9 } 0x60000000).part 1023).done = false) ∧
    (((tAdm 1023 { snapping := true, bnd := some 9 } 0x60000000).part 1023).ended = false)) ∧
    ((((tAdm 1023 { snapping := true, bnd := some 9 } 0x60000000).setPart 7 { snapping := true, bnd := some 9 }).parts.any (fun q => copiedBefore ((tAdm 1023 { snapping := true, bnd := some 9 } 0x60000000).setPart 7 { snapping := true, bnd := some 9 }) q.1 1023) = true)) ∧
    ((execIdle ((tAdm 1023 { state := .queued } 0x60000000).wr .schCtl 1) 0 = true) ∧
    (execTakes ((tAdm 1023 { state := .queued } 0x60000000).wr .schCtl 1) 0 = true) ∧
    (((tAdm 1023 { state := .queued } 0x60000000).wr .schCtl 1).sch.contPend = false) ∧
    (ownPick ((tAdm 1023 { state := .queued } 0x60000000).wr .schCtl 1) 0 = some 1023) ∧
    (execTakes ((tAdm 1023 { state := .queued } 0x60000000).wr .schCtl 1) 93 = true) ∧
    (ownPick ((tAdm 1023 { state := .queued } 0x60000000).wr .schCtl 1) 93 = none) ∧
    (ownPick ((tAdm 1023 { state := .queued } 0x60000000).wr .schCtl 1) 93 = none)) ∧
    ((execIdle (((tAdm 1023 { state := .queued } 0x60000000).wr .schCtl 1).setEng 0 { job := some 5 }) 3 = true) ∧
    (execTakes (((tAdm 1023 { state := .queued } 0x60000000).wr .schCtl 1).setEng 0 { job := some 5 }) 3 = true) ∧
    (ownPick (((tAdm 1023 { state := .queued } 0x60000000).wr .schCtl 1).setEng 0 { job := some 5 }) 3 = none) ∧
    (stealPick (((tAdm 1023 { state := .queued } 0x60000000).wr .schCtl 1).setEng 0 { job := some 5 }) 3 = some 1023)) ∧
    ((execIdle ({ tUp with sch := { contPend := true } } : State) 0 = true) ∧
    (execTakes ({ tUp with sch := { contPend := true } } : State) 0 = true) ∧
    (({ tUp with sch := { contPend := true } } : State).sch.contPend = true) ∧
    (execSplit ({ tUp with sch := { contPend := true } } : State) 0 = false)) ∧
    ((((tUp.setEng 95 { job := some 5 }).eng 95).job = some 5) ∧
    (((tUp.setEng 95 { job := some 5 }).eng 95).cont = false) ∧
    ((tUp.setEng 95 { job := some 5 }).sch.contPend = false)) ∧
    ((((tUp.setEng 0 { job := some 0, cont := true }).eng 0).job = some 0) ∧
    (((tUp.setEng 0 { job := some 0, cont := true }).eng 0).cont = true)) ∧
    (((tUp.part 1023).bnd = none) ∧
    (tUp.parts = []) ∧
    (tUp.sch.due = []) ∧
    (check1 tUp = true) ∧
    (check2 tUp = true)) ∧
    ((({ tUp with parts := [(1023, { bnd := some 0xFFFFFFFFFFFFFFFF, done := true })] } : State).parts = [(1023, ({ tUp with parts := [(1023, { bnd := some 0xFFFFFFFFFFFFFFFF, done := true })] } : State).part 1023)]) ∧
    ((({ tUp with parts := [(1023, { bnd := some 0xFFFFFFFFFFFFFFFF, done := true })] } : State).part 1023).bnd = some (0xFFFFFFFFFFFFFFFF : BitVec 64).toNat) ∧
    ((({ tUp with parts := [(1023, { bnd := some 0xFFFFFFFFFFFFFFFF, done := true })] } : State).part 1023).done = true) ∧
    ((({ tUp with parts := [(1023, { bnd := some 0xFFFFFFFFFFFFFFFF, done := true })] } : State).part 1023).rehome = false) ∧
    (({ tUp with parts := [(1023, { bnd := some 0xFFFFFFFFFFFFFFFF, done := true })] } : State).sch.due = [])) :=
  by and_intros <;> decide +kernel

/-- With one triad left the check of class N fails, the one partition is the pick, and the check passes without it. -/
theorem test_meets_Shedding :
    ((check1 (tOver.wr .schPdBudgetS 500000 1023) = true) ∧
    (check2 (tOver.wr .schPdBudgetS 500000 1023) = false) ∧
    (shedPick (tOver.wr .schPdBudgetS 500000 1023) (fun _ => true) = some 1023) ∧
    (check2 (shedPart 1023 (tOver.wr .schPdBudgetS 500000 1023)) = true)) ∧
    ((check1 ((tOver.wr .schPdBudgetS 500000 1023).setEng 0 { job := some 1023 }) = true) ∧
    (check2 ((tOver.wr .schPdBudgetS 500000 1023).setEng 0 { job := some 1023 }) = false) ∧
    (shedPick ((tOver.wr .schPdBudgetS 500000 1023).setEng 0 { job := some 1023 }) (fun _ => true) = some 1023) ∧
    (check2 (shedPart 1023 ((tOver.wr .schPdBudgetS 500000 1023).setEng 0 { job := some 1023 })) = true) ∧
    ((execOf ((tOver.wr .schPdBudgetS 500000 1023).setEng 0 { job := some 1023 }) 1023).isSome = true)) :=
  by and_intros <;> decide +kernel

/-- Region 15 of the selected partition, valid and not; a sound line; targets free, held by background, by an urgent one and with aged waiters; the last key words. -/
theorem test_meets_RegionsScrubbingArbitrationAndKeys :
    (((Reg.merge .memRgnAttrS (((tUp.wrB 0 .memRgnVbaseS 0x50000 1).wrB 0 .memRgnPbaseS 0x200 1).rdB (fld (((tUp.wrB 0 .memRgnVbaseS 0x50000 1).wrB 0 .memRgnPbaseS 0x200 1).rd .memRtsel) 0 10) .memRgnAttrS 15) 0).getLsbD 31 = false) ∧
    ((Reg.merge .memRgnAttrS (((tUp.wrB 0 .memRgnVbaseS 0x50000 1).wrB 0 .memRgnPbaseS 0x200 1).rdB (fld (((tUp.wrB 0 .memRgnVbaseS 0x50000 1).wrB 0 .memRgnPbaseS 0x200 1).rd .memRtsel) 0 10) .memRgnAttrS 15) 0x80000004).getLsbD 31 = true) ∧
    (regionOk (fld (((tUp.wrB 0 .memRgnVbaseS 0x50000 1).wrB 0 .memRgnPbaseS 0x200 1).rd .memRtsel) 0 10) 15 { ((tUp.wrB 0 .memRgnVbaseS 0x50000 1).wrB 0 .memRgnPbaseS 0x200 1).regionS (fld (((tUp.wrB 0 .memRgnVbaseS 0x50000 1).wrB 0 .memRgnPbaseS 0x200 1).rd .memRtsel) 0 10) 15 with attr := Reg.merge .memRgnAttrS (((tUp.wrB 0 .memRgnVbaseS 0x50000 1).wrB 0 .memRgnPbaseS 0x200 1).rdB (fld (((tUp.wrB 0 .memRgnVbaseS 0x50000 1).wrB 0 .memRgnPbaseS 0x200 1).rd .memRtsel) 0 10) .memRgnAttrS 15) 0x80000004 } ((tUp.wrB 0 .memRgnVbaseS 0x50000 1).wrB 0 .memRgnPbaseS 0x200 1) = false) ∧
    (regionOk (fld (((tUp.wrB 0 .memRgnVbaseS 0x50000 1).wrB 0 .memRgnPbaseS 0x200 1).rd .memRtsel) 0 10) 1 { ((tUp.wrB 0 .memRgnVbaseS 0x50000 1).wrB 0 .memRgnPbaseS 0x200 1).regionS (fld (((tUp.wrB 0 .memRgnVbaseS 0x50000 1).wrB 0 .memRgnPbaseS 0x200 1).rd .memRtsel) 0 10) 1 with attr := Reg.merge .memRgnAttrS (((tUp.wrB 0 .memRgnVbaseS 0x50000 1).wrB 0 .memRgnPbaseS 0x200 1).rdB (fld (((tUp.wrB 0 .memRgnVbaseS 0x50000 1).wrB 0 .memRgnPbaseS 0x200 1).rd .memRtsel) 0 10) .memRgnAttrS 1) 0x8000001E } ((tUp.wrB 0 .memRgnVbaseS 0x50000 1).wrB 0 .memRgnPbaseS 0x200 1) = true) ∧
    ((((tUp.wrB 0 .memRgnVbaseS 0x50000 1).wrB 0 .memRgnPbaseS 0x200 1).rd .memScrub).getLsbD 0 = true) ∧
    (((tUp.wrB 0 .memRgnVbaseS 0x50000 1).wrB 0 .memRgnPbaseS 0x200 1).pwr.state = .run) ∧
    (((tUp.wrB 0 .memRgnVbaseS 0x50000 1).wrB 0 .memRgnPbaseS 0x200 1).errAt (0x3FFFFFFFF / 64) = .none) ∧
    (isMem 0x3FFFFFFFF 1 = true) ∧
    (targetOf 0x6000D00000 = none) ∧
    (targetOf 0x6000CFFFFF = some 13) ∧
    (((tUp.wrB 0 .memRgnVbaseS 0x50000 1).wrB 0 .memRgnPbaseS 0x200 1).poison.contains (0x3FFFFFFFF / 64) = false) ∧
    (0x3FFFFFFFF < 0x400000000) ∧
    (((tUp.wrB 0 .memRgnVbaseS 0x50000 1).wrB 0 .memRgnPbaseS 0x200 1).arb.devCorr + 1 < 1024) ∧
    (isMem 0x4003FFFFFF 1 = true)) ∧
    (((({ tUp.wr .memScrub 0 with ecc := [(0, .single)] } : State).rd .memScrub).getLsbD 0 = false)) ∧
    (((({ tUp with poison := [0x3FFFFFFFF / 64], arb := { devCorr := 1023 } } : State).rd .memScrub).getLsbD 0 = true) ∧
    (({ tUp with poison := [0x3FFFFFFFF / 64], arb := { devCorr := 1023 } } : State).poison.contains (0x3FFFFFFFF / 64) = true) ∧
    (1024 ≤ ({ tUp with poison := [0x3FFFFFFFF / 64], arb := { devCorr := 1023 } } : State).arb.devCorr + 1)) ∧
    ((((tTgt {}).target 13).wait.all (fun u => u.req ≠ 0x82) = true) ∧
    (0x82 ≤ 0x89) ∧
    (0 < (64 : BitVec 7).toNat) ∧
    ((64 : BitVec 7).toNat ≤ reqBeats 0x82) ∧
    (((tTgt {}).target 13).holder = none) ∧
    (((tTgt {}).target 13).wait = [])) ∧
    ((((tTgt { holder := some (tXfer 0x82 2 0 0) }).target 13).wait.all (fun u => u.req ≠ 0x65) = true) ∧
    (((tTgt { holder := some (tXfer 0x82 2 0 0) }).target 13).holder = some (tXfer 0x82 2 0 0)) ∧
    ((tXfer 0x82 2 0 0).req ≠ 0x65) ∧
    (reqBand (tTgt { holder := some (tXfer 0x82 2 0 0) }) 0x65 = 0) ∧
    ((tXfer 0x82 2 0 0).band ≠ 0) ∧
    (reqBand (tTgt { holder := some (tXfer 0x82 2 0 0) }) 0x88 ≠ 0) ∧
    ((1 : BitVec 7).toNat ≤ reqBeats 0x88)) ∧
    ((nextGrant ((tTgt { wait := [tXfer 0x82 2 0 3, tXfer 0x60 0 1 0] }).target 13).wait = some (tXfer 0x60 0 1 0)) ∧
    ((tXfer 0x60 0 1 0).pre < 3)) ∧
    ((nextGrant ((tTgt { wait := [tXfer 0x82 2 0 3] }).target 13).wait = some (tXfer 0x82 2 0 3)) ∧
    (3 ≤ (tXfer 0x82 2 0 3).pre) ∧
    ((tXfer 0x82 2 0 3).band ≠ 0)) ∧
    (((7 : Nat) ≠ lastWord (fld (tUp.rd .sheKsCtl 31) 24 2)) ∧
    ((3 : Nat) = lastWord (fld (tUp.rd .sheKsCtl 31) 24 2))) ∧
    (((7 : Nat) = lastWord (fld ((tUp.wr .sheKsCtl 0x01000000 31).rd .sheKsCtl 31) 24 2))) :=
  by and_intros <;> decide +kernel

/-- Submissions that pass and that are too short; a free engine with a waiting job; segments and completions. -/
theorem test_meets_SharedEngineJobs_queue :
    ((partRead 0 (((tShe [] tDesc).wrB 0 .sheSubmitAddr 0x40300).rdB 0 .sheSubmitAddr).toNat 32 ((tShe [] tDesc).wrB 0 .sheSubmitAddr 0x40300) = (.ok, ([0, 0, 0, 0, 4, 0, 0, 0, 0, 0, 4, 0, 0, 1, 4] ++ List.replicate 17 0), ((tShe [] tDesc).wrB 0 .sheSubmitAddr 0x40300))) ∧
    (submitStatus (jobOf 0 (((tShe [] tDesc).wrB 0 .sheSubmitAddr 0x40300).rdB 0 .sheSubmitAddr) ([0, 0, 0, 0, 4, 0, 0, 0, 0, 0, 4, 0, 0, 1, 4] ++ List.replicate 17 0) ((tShe [] tDesc).wrB 0 .sheSubmitAddr 0x40300)) ([0, 0, 0, 0, 4, 0, 0, 0, 0, 0, 4, 0, 0, 1, 4] ++ List.replicate 17 0) ((tShe [] tDesc).wrB 0 .sheSubmitAddr 0x40300) = .ok)) ∧
    ((partRead 0 (((tShe [] []).wrB 0 .sheSubmitAddr 0x40300).rdB 0 .sheSubmitAddr).toNat 32 ((tShe [] []).wrB 0 .sheSubmitAddr 0x40300) = (.ok, (List.replicate 32 0), ((tShe [] []).wrB 0 .sheSubmitAddr 0x40300))) ∧
    (submitStatus (jobOf 0 (((tShe [] []).wrB 0 .sheSubmitAddr 0x40300).rdB 0 .sheSubmitAddr) (List.replicate 32 0) ((tShe [] []).wrB 0 .sheSubmitAddr 0x40300)) (List.replicate 32 0) ((tShe [] []).wrB 0 .sheSubmitAddr 0x40300) ≠ .ok)) ∧
    ((jobOn (tShe [({ tJob 12 0 4 with eng := none } : SJob)] ([])) 12 = none) ∧
    (headFor (tShe [({ tJob 12 0 4 with eng := none } : SJob)] ([])) 12 = some ({ tJob 12 0 4 with eng := none } : SJob))) ∧
    ((jobOn (tShe [({ tJob 27 0 4097 with worked := true } : SJob)] ([])) 27 = some ({ tJob 27 0 4097 with worked := true } : SJob)) ∧
    (({ tJob 27 0 4097 with worked := true } : SJob).worked = true) ∧
    (({ tJob 27 0 4097 with worked := true } : SJob).fin = none) ∧
    (({ tJob 27 0 4097 with worked := true } : SJob).seg + 1 < ({ tJob 27 0 4097 with worked := true } : SJob).segs) ∧
    (({ tJob 27 0 4097 with worked := true } : SJob).band ≠ 1 ∨ urgentWaits (tShe [({ tJob 27 0 4097 with worked := true } : SJob)] ([])) 27 = false)) ∧
    ((jobOn (tShe ({ tJob 27 0 4097 with worked := true } :: List.replicate 16 { tJob 12 1 4 with tag := 2, eng := none, band := 0 }) []) 27 = some ({ tJob 27 0 4097 with worked := true } : SJob)) ∧
    (({ tJob 27 0 4097 with worked := true } : SJob).band = 1) ∧
    (urgentWaits (tShe ({ tJob 27 0 4097 with worked := true } :: List.replicate 16 { tJob 12 1 4 with tag := 2, eng := none, band := 0 }) []) 27 = true)) ∧
    ((jobOn (tShe [({ tJob 27 0 4096 with worked := true } : SJob)] ([])) 27 = some ({ tJob 27 0 4096 with worked := true } : SJob)) ∧
    (({ tJob 27 0 4096 with worked := true } : SJob).fin = none) ∧
    (({ tJob 27 0 4096 with worked := true } : SJob).worked = true) ∧
    (({ tJob 27 0 4096 with worked := true } : SJob).seg + 1 = ({ tJob 27 0 4096 with worked := true } : SJob).segs)) ∧
    ((jobOn (tShe [({ tJob 27 0 4 with fin := some .cutoff } : SJob)] ([])) 27 = some ({ tJob 27 0 4 with fin := some .cutoff } : SJob)) ∧
    (({ tJob 27 0 4 with fin := some .cutoff } : SJob).fin = some .cutoff)) :=
  by and_intros <;> decide +kernel

/-- A copy that reads and writes, one whose source is nowhere, a fill. -/
theorem test_meets_SharedEngineJobs_dma :
    (((tShe [(tJob 12 0 4096)] ([])).pwr.state = .run) ∧
    (jobOn (tShe [(tJob 12 0 4096)] ([])) 12 = some (tJob 12 0 4096)) ∧
    ((tJob 12 0 4096).worked = false) ∧
    ((tJob 12 0 4096).fin = none) ∧
    ((tJob 12 0 4096).kind = 0) ∧
    ((partRead 0 ((tJob 12 0 4096).src.toNat + (tJob 12 0 4096).seg * 4096) (min 4096 ((tJob 12 0 4096).len - (tJob 12 0 4096).seg * 4096)) (tShe [(tJob 12 0 4096)] ([]))).1 = .ok)) ∧
    (((tShe [(tJob 12 0 4)] ([])).pwr.state = .run) ∧
    (jobOn (tShe [(tJob 12 0 4)] ([])) 12 = some (tJob 12 0 4)) ∧
    ((tJob 12 0 4).worked = false) ∧
    ((tJob 12 0 4).fin = none) ∧
    ((tJob 12 0 4).kind = 0) ∧
    (partRead 0 ((tJob 12 0 4).src.toNat + (tJob 12 0 4).seg * 4096) (min 4096 ((tJob 12 0 4).len - (tJob 12 0 4).seg * 4096)) (tShe [(tJob 12 0 4)] ([])) = (.ok, List.replicate 4 0, (tShe [(tJob 12 0 4)] ([])))) ∧
    ((partWrite 0 ((tJob 12 0 4).dst.toNat + (tJob 12 0 4).seg * 4096) (List.replicate 4 0) (tShe [(tJob 12 0 4)] ([]))).1 = .ok)) ∧
    (((tShe [({ tJob 12 0 4 with src := 0x60000 } : SJob)] ([])).pwr.state = .run) ∧
    (jobOn (tShe [({ tJob 12 0 4 with src := 0x60000 } : SJob)] ([])) 12 = some ({ tJob 12 0 4 with src := 0x60000 } : SJob)) ∧
    (({ tJob 12 0 4 with src := 0x60000 } : SJob).worked = false) ∧
    (({ tJob 12 0 4 with src := 0x60000 } : SJob).fin = none) ∧
    (({ tJob 12 0 4 with src := 0x60000 } : SJob).kind = 0) ∧
    ((partRead 0 (({ tJob 12 0 4 with src := 0x60000 } : SJob).src.toNat + ({ tJob 12 0 4 with src := 0x60000 } : SJob).seg * 4096) (min 4096 (({ tJob 12 0 4 with src := 0x60000 } : SJob).len - ({ tJob 12 0 4 with src := 0x60000 } : SJob).seg * 4096)) (tShe [({ tJob 12 0 4 with src := 0x60000 } : SJob)] ([]))).1 ≠ .ok)) ∧
    (((tShe [({ tJob 13 1 8 with par := 7 } : SJob)] ([])).pwr.state = .run) ∧
    (jobOn (tShe [({ tJob 13 1 8 with par := 7 } : SJob)] ([])) 13 = some ({ tJob 13 1 8 with par := 7 } : SJob)) ∧
    (({ tJob 13 1 8 with par := 7 } : SJob).worked = false) ∧
    (({ tJob 13 1 8 with par := 7 } : SJob).fin = none) ∧
    (({ tJob 13 1 8 with par := 7 } : SJob).kind = 1) ∧
    ((partWrite 0 (({ tJob 13 1 8 with par := 7 } : SJob).dst.toNat + ({ tJob 13 1 8 with par := 7 } : SJob).seg * 4096) (pattern ({ tJob 13 1 8 with par := 7 } : SJob).par (min 4096 (({ tJob 13 1 8 with par := 7 } : SJob).len - ({ tJob 13 1 8 with par := 7 } : SJob).seg * 4096))) (tShe [({ tJob 13 1 8 with par := 7 } : SJob)] ([]))).1 = .ok)) :=
  by and_intros <;> decide +kernel

/-- Hash, tag and cipher segments of zeros: one that is not the last, and the last with its write; a tag that agrees and one that does not. -/
theorem test_meets_SharedEngineJobs_crypto :
    (((tShe [(tJob 8 4 4097)] ([])).pwr.state = .run) ∧
    (jobOn (tShe [(tJob 8 4 4097)] ([])) 8 = some (tJob 8 4 4097)) ∧
    ((tJob 8 4 4097).worked = false) ∧
    ((tJob 8 4 4097).fin = none) ∧
    ((tJob 8 4 4097).kind = 4) ∧
    (¬ ((tJob 8 4 4097).seg + 1 = (tJob 8 4 4097).segs)) ∧
    ((partRead 0 ((tJob 8 4 4097).src.toNat + (tJob 8 4 4097).seg * 4096) (min 4096 ((tJob 8 4 4097).len - (tJob 8 4 4097).seg * 4096)) (tShe [(tJob 8 4 4097)] ([]))).1 = .ok)) ∧
    (((tShe [(tJob 8 4 3)] ([])).pwr.state = .run) ∧
    (jobOn (tShe [(tJob 8 4 3)] ([])) 8 = some (tJob 8 4 3)) ∧
    ((tJob 8 4 3).worked = false) ∧
    ((tJob 8 4 3).fin = none) ∧
    ((tJob 8 4 3).kind = 4) ∧
    ((tJob 8 4 3).seg + 1 = (tJob 8 4 3).segs) ∧
    (partRead 0 ((tJob 8 4 3).src.toNat + (tJob 8 4 3).seg * 4096) (min 4096 ((tJob 8 4 3).len - (tJob 8 4 3).seg * 4096)) (tShe [(tJob 8 4 3)] ([])) = (.ok, List.replicate 3 0, (tShe [(tJob 8 4 3)] ([])))) ∧
    ((partWrite 0 (tJob 8 4 3).dst.toNat (sha256 (List.replicate 3 0)) (tShe [(tJob 8 4 3)] ([]))).1 = .ok)) ∧
    (((tShe [({ tJob 9 9 4097 with keyType := 3 } : SJob)] ([])).pwr.state = .run) ∧
    (jobOn (tShe [({ tJob 9 9 4097 with keyType := 3 } : SJob)] ([])) 9 = some ({ tJob 9 9 4097 with keyType := 3 } : SJob)) ∧
    (({ tJob 9 9 4097 with keyType := 3 } : SJob).worked = false) ∧
    (({ tJob 9 9 4097 with keyType := 3 } : SJob).fin = none) ∧
    (({ tJob 9 9 4097 with keyType := 3 } : SJob).kind = 9) ∧
    (¬ (({ tJob 9 9 4097 with keyType := 3 } : SJob).seg + 1 = ({ tJob 9 9 4097 with keyType := 3 } : SJob).segs)) ∧
    ((partRead 0 (({ tJob 9 9 4097 with keyType := 3 } : SJob).src.toNat + ({ tJob 9 9 4097 with keyType := 3 } : SJob).seg * 4096) (min 4096 (({ tJob 9 9 4097 with keyType := 3 } : SJob).len - ({ tJob 9 9 4097 with keyType := 3 } : SJob).seg * 4096)) (tShe [({ tJob 9 9 4097 with keyType := 3 } : SJob)] ([]))).1 = .ok)) ∧
    (((tShe [({ tJob 9 9 16 with keyType := 3 } : SJob)] ([])).pwr.state = .run) ∧
    (jobOn (tShe [({ tJob 9 9 16 with keyType := 3 } : SJob)] ([])) 9 = some ({ tJob 9 9 16 with keyType := 3 } : SJob)) ∧
    (({ tJob 9 9 16 with keyType := 3 } : SJob).worked = false) ∧
    (({ tJob 9 9 16 with keyType := 3 } : SJob).fin = none) ∧
    (({ tJob 9 9 16 with keyType := 3 } : SJob).kind = 9) ∧
    (({ tJob 9 9 16 with keyType := 3 } : SJob).seg + 1 = ({ tJob 9 9 16 with keyType := 3 } : SJob).segs) ∧
    (partRead 0 (({ tJob 9 9 16 with keyType := 3 } : SJob).src.toNat + ({ tJob 9 9 16 with keyType := 3 } : SJob).seg * 4096) (min 4096 (({ tJob 9 9 16 with keyType := 3 } : SJob).len - ({ tJob 9 9 16 with keyType := 3 } : SJob).seg * 4096)) (tShe [({ tJob 9 9 16 with keyType := 3 } : SJob)] ([])) = (.ok, List.replicate 16 0, (tShe [({ tJob 9 9 16 with keyType := 3 } : SJob)] ([])))) ∧
    ((partWrite 0 ({ tJob 9 9 16 with keyType := 3 } : SJob).dst.toNat (cmac ({ tJob 9 9 16 with keyType := 3 } : SJob).keyBytes (List.replicate 16 0)) (tShe [({ tJob 9 9 16 with keyType := 3 } : SJob)] ([]))).1 = .ok)) ∧
    (((tShe [({ tJob 9 10 4097 with keyType := 3 } : SJob)] ([])).pwr.state = .run) ∧
    (jobOn (tShe [({ tJob 9 10 4097 with keyType := 3 } : SJob)] ([])) 9 = some ({ tJob 9 10 4097 with keyType := 3 } : SJob)) ∧
    (({ tJob 9 10 4097 with keyType := 3 } : SJob).worked = false) ∧
    (({ tJob 9 10 4097 with keyType := 3 } : SJob).fin = none) ∧
    (({ tJob 9 10 4097 with keyType := 3 } : SJob).kind = 10) ∧
    (¬ (({ tJob 9 10 4097 with keyType := 3 } : SJob).seg + 1 = ({ tJob 9 10 4097 with keyType := 3 } : SJob).segs)) ∧
    ((partRead 0 (({ tJob 9 10 4097 with keyType := 3 } : SJob).src.toNat + ({ tJob 9 10 4097 with keyType := 3 } : SJob).seg * 4096) (min 4096 (({ tJob 9 10 4097 with keyType := 3 } : SJob).len - ({ tJob 9 10 4097 with keyType := 3 } : SJob).seg * 4096)) (tShe [({ tJob 9 10 4097 with keyType := 3 } : SJob)] ([]))).1 = .ok)) ∧
    (((tShe [({ tJob 9 10 16 with keyType := 3 } : SJob)] ([])).pwr.state = .run) ∧
    (jobOn (tShe [({ tJob 9 10 16 with keyType := 3 } : SJob)] ([])) 9 = some ({ tJob 9 10 16 with keyType := 3 } : SJob)) ∧
    (({ tJob 9 10 16 with keyType := 3 } : SJob).worked = false) ∧
    (({ tJob 9 10 16 with keyType := 3 } : SJob).fin = none) ∧
    (({ tJob 9 10 16 with keyType := 3 } : SJob).kind = 10) ∧
    (({ tJob 9 10 16 with keyType := 3 } : SJob).seg + 1 = ({ tJob 9 10 16 with keyType := 3 } : SJob).segs) ∧
    (partRead 0 (({ tJob 9 10 16 with keyType := 3 } : SJob).src.toNat + ({ tJob 9 10 16 with keyType := 3 } : SJob).seg * 4096) (min 4096 (({ tJob 9 10 16 with keyType := 3 } : SJob).len - ({ tJob 9 10 16 with keyType := 3 } : SJob).seg * 4096)) (tShe [({ tJob 9 10 16 with keyType := 3 } : SJob)] ([])) = (.ok, List.replicate 16 0, (tShe [({ tJob 9 10 16 with keyType := 3 } : SJob)] ([])))) ∧
    (partRead 0 ({ tJob 9 10 16 with keyType := 3 } : SJob).par.toNat 16 (tShe [({ tJob 9 10 16 with keyType := 3 } : SJob)] ([])) = (.ok, List.replicate 16 0, (tShe [({ tJob 9 10 16 with keyType := 3 } : SJob)] ([])))) ∧
    (List.replicate 16 0 ≠ cmac ({ tJob 9 10 16 with keyType := 3 } : SJob).keyBytes (List.replicate 16 0))) ∧
    (((tShe [({ tJob 9 10 16 with keyType := 3 } : SJob)] (tTagCells)).pwr.state = .run) ∧
    (jobOn (tShe [({ tJob 9 10 16 with keyType := 3 } : SJob)] (tTagCells)) 9 = some ({ tJob 9 10 16 with keyType := 3 } : SJob)) ∧
    (({ tJob 9 10 16 with keyType := 3 } : SJob).worked = false) ∧
    (({ tJob 9 10 16 with keyType := 3 } : SJob).fin = none) ∧
    (({ tJob 9 10 16 with keyType := 3 } : SJob).kind = 10) ∧
    (partRead 0 (({ tJob 9 10 16 with keyType := 3 } : SJob).src.toNat + ({ tJob 9 10 16 with keyType := 3 } : SJob).seg * 4096) (min 4096 (({ tJob 9 10 16 with keyType := 3 } : SJob).len - ({ tJob 9 10 16 with keyType := 3 } : SJob).seg * 4096)) (tShe [({ tJob 9 10 16 with keyType := 3 } : SJob)] (tTagCells)) = (.ok, List.replicate 16 0, (tShe [({ tJob 9 10 16 with keyType := 3 } : SJob)] (tTagCells)))) ∧
    (partRead 0 ({ tJob 9 10 16 with keyType := 3 } : SJob).par.toNat 16 (tShe [({ tJob 9 10 16 with keyType := 3 } : SJob)] (tTagCells)) = (.ok, tTag, (tShe [({ tJob 9 10 16 with keyType := 3 } : SJob)] (tTagCells)))) ∧
    (tTag = cmac ({ tJob 9 10 16 with keyType := 3 } : SJob).keyBytes (List.replicate 16 0))) ∧
    (((tShe [(tJob 10 6 16)] ([])).pwr.state = .run) ∧
    (jobOn (tShe [(tJob 10 6 16)] ([])) 10 = some (tJob 10 6 16)) ∧
    ((tJob 10 6 16).worked = false) ∧
    ((tJob 10 6 16).fin = none) ∧
    ((tJob 10 6 16).kind = 6) ∧
    (partRead 0 ((tJob 10 6 16).src.toNat + (tJob 10 6 16).seg * 4096) (min 4096 ((tJob 10 6 16).len - (tJob 10 6 16).seg * 4096)) (tShe [(tJob 10 6 16)] ([])) = (.ok, List.replicate 16 0, (tShe [(tJob 10 6 16)] ([])))) ∧
    (partRead 0 (tJob 10 6 16).par.toNat 16 (tShe [(tJob 10 6 16)] ([])) = (.ok, List.replicate 16 0, (tShe [(tJob 10 6 16)] ([])))) ∧
    ((partWrite 0 ((tJob 10 6 16).dst.toNat + (tJob 10 6 16).seg * 4096) (aesCtr (tJob 10 6 16).keyBytes ((beNat (List.replicate 16 0) + (tJob 10 6 16).seg * 4096 / 16) % 2 ^ 128) 1 (List.replicate 16 0)) (tShe [(tJob 10 6 16)] ([]))).1 = .ok)) ∧
    (((tShe [(tJob 10 7 16)] ([])).pwr.state = .run) ∧
    (jobOn (tShe [(tJob 10 7 16)] ([])) 10 = some (tJob 10 7 16)) ∧
    ((tJob 10 7 16).worked = false) ∧
    ((tJob 10 7 16).fin = none) ∧
    ((tJob 10 7 16).kind = 7) ∧
    ((tJob 10 7 16).seg = 0) ∧
    (partRead 0 ((tJob 10 7 16).src.toNat + (tJob 10 7 16).seg * 4096) (min 4096 ((tJob 10 7 16).len - (tJob 10 7 16).seg * 4096)) (tShe [(tJob 10 7 16)] ([])) = (.ok, List.replicate 16 0, (tShe [(tJob 10 7 16)] ([])))) ∧
    ((partWrite 0 ((tJob 10 7 16).dst.toNat + (tJob 10 7 16).seg * 4096) (cbcEnc (tJob 10 7 16).keyBytes 1 (List.replicate 16 0) (List.replicate 16 0)) (tShe [(tJob 10 7 16)] ([]))).1 = .ok)) ∧
    (((tShe [(tJob 11 8 16)] ([])).pwr.state = .run) ∧
    (jobOn (tShe [(tJob 11 8 16)] ([])) 11 = some (tJob 11 8 16)) ∧
    ((tJob 11 8 16).worked = false) ∧
    ((tJob 11 8 16).fin = none) ∧
    ((tJob 11 8 16).kind = 8) ∧
    ((tJob 11 8 16).seg = 0) ∧
    (partRead 0 ((tJob 11 8 16).src.toNat + (tJob 11 8 16).seg * 4096) (min 4096 ((tJob 11 8 16).len - (tJob 11 8 16).seg * 4096)) (tShe [(tJob 11 8 16)] ([])) = (.ok, List.replicate 16 0, (tShe [(tJob 11 8 16)] ([])))) ∧
    ((partWrite 0 ((tJob 11 8 16).dst.toNat + (tJob 11 8 16).seg * 4096) (cbcDec (tJob 11 8 16).keyBytes 1 (List.replicate 16 0) (List.replicate 16 0)) (tShe [(tJob 11 8 16)] ([]))).1 = .ok)) :=
  by and_intros <;> decide +kernel

/-- Signature jobs: data segments, the first seven curve segments, the last with a key of 0. -/
theorem test_meets_SharedEngineJobs_ed :
    (((tShe [(tJob 8 5 4096)] ([])).pwr.state = .run) ∧
    (jobOn (tShe [(tJob 8 5 4096)] ([])) 8 = some (tJob 8 5 4096)) ∧
    ((tJob 8 5 4096).worked = false) ∧
    ((tJob 8 5 4096).fin = none) ∧
    ((tJob 8 5 4096).kind = 5) ∧
    ((tJob 8 5 4096).seg + 8 < (tJob 8 5 4096).segs) ∧
    ((partRead 0 ((tJob 8 5 4096).src.toNat + (tJob 8 5 4096).seg * 4096) (min 4096 ((tJob 8 5 4096).len - (tJob 8 5 4096).seg * 4096)) (tShe [(tJob 8 5 4096)] ([]))).1 = .ok)) ∧
    (((tShe [({ tJob 8 5 1 with seg := 1 } : SJob)] ([])).pwr.state = .run) ∧
    (jobOn (tShe [({ tJob 8 5 1 with seg := 1 } : SJob)] ([])) 8 = some ({ tJob 8 5 1 with seg := 1 } : SJob)) ∧
    (({ tJob 8 5 1 with seg := 1 } : SJob).worked = false) ∧
    (({ tJob 8 5 1 with seg := 1 } : SJob).fin = none) ∧
    (({ tJob 8 5 1 with seg := 1 } : SJob).kind = 5) ∧
    (({ tJob 8 5 1 with seg := 1 } : SJob).segs ≤ ({ tJob 8 5 1 with seg := 1 } : SJob).seg + 8) ∧
    (¬ (({ tJob 8 5 1 with seg := 1 } : SJob).seg + 1 = ({ tJob 8 5 1 with seg := 1 } : SJob).segs))) ∧
    (((tShe [({ tJob 8 5 1 with seg := 8, chain := [0] } : SJob)] ([])).pwr.state = .run) ∧
    (jobOn (tShe [({ tJob 8 5 1 with seg := 8, chain := [0] } : SJob)] ([])) 8 = some ({ tJob 8 5 1 with seg := 8, chain := [0] } : SJob)) ∧
    (({ tJob 8 5 1 with seg := 8, chain := [0] } : SJob).worked = false) ∧
    (({ tJob 8 5 1 with seg := 8, chain := [0] } : SJob).fin = none) ∧
    (({ tJob 8 5 1 with seg := 8, chain := [0] } : SJob).kind = 5) ∧
    (({ tJob 8 5 1 with seg := 8, chain := [0] } : SJob).segs ≤ ({ tJob 8 5 1 with seg := 8, chain := [0] } : SJob).seg + 8) ∧
    (({ tJob 8 5 1 with seg := 8, chain := [0] } : SJob).seg + 1 = ({ tJob 8 5 1 with seg := 8, chain := [0] } : SJob).segs) ∧
    (partRead 0 ({ tJob 8 5 1 with seg := 8, chain := [0] } : SJob).par.toNat 96 (tShe [({ tJob 8 5 1 with seg := 8, chain := [0] } : SJob)] ([])) = (.ok, List.replicate 96 0, (tShe [({ tJob 8 5 1 with seg := 8, chain := [0] } : SJob)] ([]))))) :=
  by and_intros <;> decide +kernel

/-- A signature that verifies, and one that does not (S beyond the order). -/
theorem test_meets_SharedEngineJobs_sig : edVerify (tEdPar.drop 64) (tEdPar.take 64) [0] = true ∧
    edVerify (tEdPar.drop 64) ([1] ++ List.replicate 31 0 ++ List.replicate 32 255) [0] = false := by
  unfold edVerify
  generalize Config.edCofactor = b
  cases b <;> decide +kernel

/-- A build without CMAC of 1024 bytes; checks of bytes that are no envelope, of an envelope that passes, of a tick, and two that end before the checks. -/
theorem test_meets_SharedEngineJobs_envelope :
    (((tShe [({ tJob 0 2 1024 with dst := 0x40500 } : SJob)] (tCtx 0x11 0)).pwr.state = .run) ∧
    (jobOn (tShe [({ tJob 0 2 1024 with dst := 0x40500 } : SJob)] (tCtx 0x11 0)) 0 = some ({ tJob 0 2 1024 with dst := 0x40500 } : SJob)) ∧
    (({ tJob 0 2 1024 with dst := 0x40500 } : SJob).worked = false) ∧
    (({ tJob 0 2 1024 with dst := 0x40500 } : SJob).fin = none) ∧
    (({ tJob 0 2 1024 with dst := 0x40500 } : SJob).kind = 2) ∧
    (({ tJob 0 2 1024 with dst := 0x40500 } : SJob).flags = 0) ∧
    ((partRead 0 ({ tJob 0 2 1024 with dst := 0x40500 } : SJob).par.toNat 128 (tShe [({ tJob 0 2 1024 with dst := 0x40500 } : SJob)] (tCtx 0x11 0))).1 = .ok) ∧
    ((tC ({ tJob 0 2 1024 with dst := 0x40500 } : SJob) (tShe [({ tJob 0 2 1024 with dst := 0x40500 } : SJob)] (tCtx 0x11 0))).valid 1 = true) ∧
    ((tC ({ tJob 0 2 1024 with dst := 0x40500 } : SJob) (tShe [({ tJob 0 2 1024 with dst := 0x40500 } : SJob)] (tCtx 0x11 0))).mac = false) ∧
    ((partRead 0 ({ tJob 0 2 1024 with dst := 0x40500 } : SJob).src.toNat ({ tJob 0 2 1024 with dst := 0x40500 } : SJob).len (tShe [({ tJob 0 2 1024 with dst := 0x40500 } : SJob)] (tCtx 0x11 0))).1 = .ok) ∧
    ((partWrite 0 ({ tJob 0 2 1024 with dst := 0x40500 } : SJob).dst.toNat (envelope ({ tJob 0 2 1024 with dst := 0x40500 } : SJob) (tC ({ tJob 0 2 1024 with dst := 0x40500 } : SJob) (tShe [({ tJob 0 2 1024 with dst := 0x40500 } : SJob)] (tCtx 0x11 0))) (devid (tShe [({ tJob 0 2 1024 with dst := 0x40500 } : SJob)] (tCtx 0x11 0))) (partRead 0 ({ tJob 0 2 1024 with dst := 0x40500 } : SJob).src.toNat ({ tJob 0 2 1024 with dst := 0x40500 } : SJob).len (tShe [({ tJob 0 2 1024 with dst := 0x40500 } : SJob)] (tCtx 0x11 0))).2.1) (tShe [({ tJob 0 2 1024 with dst := 0x40500 } : SJob)] (tCtx 0x11 0))).1 = .ok) ∧
    ((partWrite 0 (({ tJob 0 2 1024 with dst := 0x40500 } : SJob).par.toNat + 0x40) (leBytes 4 ((tC ({ tJob 0 2 1024 with dst := 0x40500 } : SJob) (tShe [({ tJob 0 2 1024 with dst := 0x40500 } : SJob)] (tCtx 0x11 0))).seq + 1)) (partWrite 0 ({ tJob 0 2 1024 with dst := 0x40500 } : SJob).dst.toNat (envelope ({ tJob 0 2 1024 with dst := 0x40500 } : SJob) (tC ({ tJob 0 2 1024 with dst := 0x40500 } : SJob) (tShe [({ tJob 0 2 1024 with dst := 0x40500 } : SJob)] (tCtx 0x11 0))) (devid (tShe [({ tJob 0 2 1024 with dst := 0x40500 } : SJob)] (tCtx 0x11 0))) (partRead 0 ({ tJob 0 2 1024 with dst := 0x40500 } : SJob).src.toNat ({ tJob 0 2 1024 with dst := 0x40500 } : SJob).len (tShe [({ tJob 0 2 1024 with dst := 0x40500 } : SJob)] (tCtx 0x11 0))).2.1) (tShe [({ tJob 0 2 1024 with dst := 0x40500 } : SJob)] (tCtx 0x11 0))).2).1 = .ok)) ∧
    (((tShe [(tJob 7 3 20)] (tCtx 0x21 0x10)).pwr.state = .run) ∧
    (jobOn (tShe [(tJob 7 3 20)] (tCtx 0x21 0x10)) 7 = some (tJob 7 3 20)) ∧
    ((tJob 7 3 20).worked = false) ∧
    ((tJob 7 3 20).fin = none) ∧
    ((tJob 7 3 20).kind = 3) ∧
    ((partRead 0 (tJob 7 3 20).par.toNat 128 (tShe [(tJob 7 3 20)] (tCtx 0x21 0x10))).1 = .ok) ∧
    (tBad (tJob 7 3 20) (tShe [(tJob 7 3 20)] (tCtx 0x21 0x10)) = false) ∧
    ((tV0 (tJob 7 3 20) (tShe [(tJob 7 3 20)] (tCtx 0x21 0x10))).write = false) ∧
    ((tVv (tJob 7 3 20) (tShe [(tJob 7 3 20)] (tCtx 0x21 0x10))).write = false) ∧
    ((partRead 0 (tJob 7 3 20).src.toNat (tJob 7 3 20).len (tShe [(tJob 7 3 20)] (tCtx 0x21 0x10))).1 = .ok) ∧
    ((partWrite 0 ((tJob 7 3 20).par.toNat + 0x40) (tVv (tJob 7 3 20) (tShe [(tJob 7 3 20)] (tCtx 0x21 0x10))).ctx.line (if (tVv (tJob 7 3 20) (tShe [(tJob 7 3 20)] (tCtx 0x21 0x10))).write then (partWrite 0 (tJob 7 3 20).dst.toNat (envOf (tEb (tJob 7 3 20) (tShe [(tJob 7 3 20)] (tCtx 0x21 0x10)))).payload (tShe [(tJob 7 3 20)] (tCtx 0x21 0x10))).2 else (tShe [(tJob 7 3 20)] (tCtx 0x21 0x10)))).1 = .ok)) ∧
    (((tShe [(tJob 7 3 21)] (tEnv ++ tCtx 0x21 0x10)).pwr.state = .run) ∧
    (jobOn (tShe [(tJob 7 3 21)] (tEnv ++ tCtx 0x21 0x10)) 7 = some (tJob 7 3 21)) ∧
    ((tJob 7 3 21).worked = false) ∧
    ((tJob 7 3 21).fin = none) ∧
    ((tJob 7 3 21).kind = 3) ∧
    ((partRead 0 (tJob 7 3 21).par.toNat 128 (tShe [(tJob 7 3 21)] (tEnv ++ tCtx 0x21 0x10))).1 = .ok) ∧
    (tBad (tJob 7 3 21) (tShe [(tJob 7 3 21)] (tEnv ++ tCtx 0x21 0x10)) = false) ∧
    ((tV0 (tJob 7 3 21) (tShe [(tJob 7 3 21)] (tEnv ++ tCtx 0x21 0x10))).write = true) ∧
    ((tVv (tJob 7 3 21) (tShe [(tJob 7 3 21)] (tEnv ++ tCtx 0x21 0x10))).write = true) ∧
    ((partRead 0 (tJob 7 3 21).src.toNat (tJob 7 3 21).len (tShe [(tJob 7 3 21)] (tEnv ++ tCtx 0x21 0x10))).1 = .ok) ∧
    ((partWrite 0 ((tJob 7 3 21).par.toNat + 0x40) (tVv (tJob 7 3 21) (tShe [(tJob 7 3 21)] (tEnv ++ tCtx 0x21 0x10))).ctx.line (if (tVv (tJob 7 3 21) (tShe [(tJob 7 3 21)] (tEnv ++ tCtx 0x21 0x10))).write then (partWrite 0 (tJob 7 3 21).dst.toNat (envOf (tEb (tJob 7 3 21) (tShe [(tJob 7 3 21)] (tEnv ++ tCtx 0x21 0x10)))).payload (tShe [(tJob 7 3 21)] (tEnv ++ tCtx 0x21 0x10))).2 else (tShe [(tJob 7 3 21)] (tEnv ++ tCtx 0x21 0x10)))).1 = .ok)) ∧
    (((tShe [(tJob 7 3 0)] (tCtx 0x21 0x10)).pwr.state = .run) ∧
    (jobOn (tShe [(tJob 7 3 0)] (tCtx 0x21 0x10)) 7 = some (tJob 7 3 0)) ∧
    ((tJob 7 3 0).worked = false) ∧
    ((tJob 7 3 0).fin = none) ∧
    ((tJob 7 3 0).kind = 3) ∧
    ((partRead 0 (tJob 7 3 0).par.toNat 128 (tShe [(tJob 7 3 0)] (tCtx 0x21 0x10))).1 = .ok) ∧
    (tBad (tJob 7 3 0) (tShe [(tJob 7 3 0)] (tCtx 0x21 0x10)) = false) ∧
    ((tV0 (tJob 7 3 0) (tShe [(tJob 7 3 0)] (tCtx 0x21 0x10))).write = false) ∧
    ((tVv (tJob 7 3 0) (tShe [(tJob 7 3 0)] (tCtx 0x21 0x10))).write = false) ∧
    ((partRead 0 (tJob 7 3 0).src.toNat (tJob 7 3 0).len (tShe [(tJob 7 3 0)] (tCtx 0x21 0x10))).1 = .ok) ∧
    ((partWrite 0 ((tJob 7 3 0).par.toNat + 0x40) (tVv (tJob 7 3 0) (tShe [(tJob 7 3 0)] (tCtx 0x21 0x10))).ctx.line (if (tVv (tJob 7 3 0) (tShe [(tJob 7 3 0)] (tCtx 0x21 0x10))).write then (partWrite 0 (tJob 7 3 0).dst.toNat (envOf (tEb (tJob 7 3 0) (tShe [(tJob 7 3 0)] (tCtx 0x21 0x10)))).payload (tShe [(tJob 7 3 0)] (tCtx 0x21 0x10))).2 else (tShe [(tJob 7 3 0)] (tCtx 0x21 0x10)))).1 = .ok)) ∧
    (((tShe [({ tJob 7 3 21 with flags := 1 } : SJob)] (tEnv ++ tCtx 0x21 0x10)).pwr.state = .run) ∧
    (jobOn (tShe [({ tJob 7 3 21 with flags := 1 } : SJob)] (tEnv ++ tCtx 0x21 0x10)) 7 = some ({ tJob 7 3 21 with flags := 1 } : SJob)) ∧
    (({ tJob 7 3 21 with flags := 1 } : SJob).worked = false) ∧
    (({ tJob 7 3 21 with flags := 1 } : SJob).fin = none) ∧
    (({ tJob 7 3 21 with flags := 1 } : SJob).kind = 3) ∧
    ((partRead 0 ({ tJob 7 3 21 with flags := 1 } : SJob).par.toNat 128 (tShe [({ tJob 7 3 21 with flags := 1 } : SJob)] (tEnv ++ tCtx 0x21 0x10))).1 = .ok) ∧
    (tBad ({ tJob 7 3 21 with flags := 1 } : SJob) (tShe [({ tJob 7 3 21 with flags := 1 } : SJob)] (tEnv ++ tCtx 0x21 0x10)) = true) ∧
    ((tV0 ({ tJob 7 3 21 with flags := 1 } : SJob) (tShe [({ tJob 7 3 21 with flags := 1 } : SJob)] (tEnv ++ tCtx 0x21 0x10))).write = false) ∧
    ((tVv ({ tJob 7 3 21 with flags := 1 } : SJob) (tShe [({ tJob 7 3 21 with flags := 1 } : SJob)] (tEnv ++ tCtx 0x21 0x10))).write = false) ∧
    ((partRead 0 ({ tJob 7 3 21 with flags := 1 } : SJob).src.toNat ({ tJob 7 3 21 with flags := 1 } : SJob).len (tShe [({ tJob 7 3 21 with flags := 1 } : SJob)] (tEnv ++ tCtx 0x21 0x10))).1 = .ok) ∧
    ((partWrite 0 (({ tJob 7 3 21 with flags := 1 } : SJob).par.toNat + 0x40) (tVv ({ tJob 7 3 21 with flags := 1 } : SJob) (tShe [({ tJob 7 3 21 with flags := 1 } : SJob)] (tEnv ++ tCtx 0x21 0x10))).ctx.line (if (tVv ({ tJob 7 3 21 with flags := 1 } : SJob) (tShe [({ tJob 7 3 21 with flags := 1 } : SJob)] (tEnv ++ tCtx 0x21 0x10))).write then (partWrite 0 ({ tJob 7 3 21 with flags := 1 } : SJob).dst.toNat (envOf (tEb ({ tJob 7 3 21 with flags := 1 } : SJob) (tShe [({ tJob 7 3 21 with flags := 1 } : SJob)] (tEnv ++ tCtx 0x21 0x10)))).payload (tShe [({ tJob 7 3 21 with flags := 1 } : SJob)] (tEnv ++ tCtx 0x21 0x10))).2 else (tShe [({ tJob 7 3 21 with flags := 1 } : SJob)] (tEnv ++ tCtx 0x21 0x10)))).1 = .ok)) ∧
    (((tShe [(tJob 7 3 21)] (tEnv ++ tCtx 0x11 0x10)).pwr.state = .run) ∧
    (jobOn (tShe [(tJob 7 3 21)] (tEnv ++ tCtx 0x11 0x10)) 7 = some (tJob 7 3 21)) ∧
    ((tJob 7 3 21).worked = false) ∧
    ((tJob 7 3 21).fin = none) ∧
    ((tJob 7 3 21).kind = 3) ∧
    ((partRead 0 (tJob 7 3 21).par.toNat 128 (tShe [(tJob 7 3 21)] (tEnv ++ tCtx 0x11 0x10))).1 = .ok) ∧
    (tBad (tJob 7 3 21) (tShe [(tJob 7 3 21)] (tEnv ++ tCtx 0x11 0x10)) = true) ∧
    ((tV0 (tJob 7 3 21) (tShe [(tJob 7 3 21)] (tEnv ++ tCtx 0x11 0x10))).write = false) ∧
    ((tVv (tJob 7 3 21) (tShe [(tJob 7 3 21)] (tEnv ++ tCtx 0x11 0x10))).write = false) ∧
    ((partRead 0 (tJob 7 3 21).src.toNat (tJob 7 3 21).len (tShe [(tJob 7 3 21)] (tEnv ++ tCtx 0x11 0x10))).1 = .ok) ∧
    ((partWrite 0 ((tJob 7 3 21).par.toNat + 0x40) (tVv (tJob 7 3 21) (tShe [(tJob 7 3 21)] (tEnv ++ tCtx 0x11 0x10))).ctx.line (if (tVv (tJob 7 3 21) (tShe [(tJob 7 3 21)] (tEnv ++ tCtx 0x11 0x10))).write then (partWrite 0 (tJob 7 3 21).dst.toNat (envOf (tEb (tJob 7 3 21) (tShe [(tJob 7 3 21)] (tEnv ++ tCtx 0x11 0x10)))).payload (tShe [(tJob 7 3 21)] (tEnv ++ tCtx 0x11 0x10))).2 else (tShe [(tJob 7 3 21)] (tEnv ++ tCtx 0x11 0x10)))).1 = .ok)) ∧
    (((tShe [(tJob 7 3 21)] (tEnv ++ tCtx 0x21 0x10 ++ [(0x10024B, 0x40)])).pwr.state = .run) ∧
    (jobOn (tShe [(tJob 7 3 21)] (tEnv ++ tCtx 0x21 0x10 ++ [(0x10024B, 0x40)])) 7 = some (tJob 7 3 21)) ∧
    ((tJob 7 3 21).worked = false) ∧
    ((tJob 7 3 21).fin = none) ∧
    ((tJob 7 3 21).kind = 3) ∧
    ((partRead 0 (tJob 7 3 21).par.toNat 128 (tShe [(tJob 7 3 21)] (tEnv ++ tCtx 0x21 0x10 ++ [(0x10024B, 0x40)]))).1 = .ok) ∧
    (tBad (tJob 7 3 21) (tShe [(tJob 7 3 21)] (tEnv ++ tCtx 0x21 0x10 ++ [(0x10024B, 0x40)])) = false) ∧
    ((tV0 (tJob 7 3 21) (tShe [(tJob 7 3 21)] (tEnv ++ tCtx 0x21 0x10 ++ [(0x10024B, 0x40)]))).write = false) ∧
    ((tVv (tJob 7 3 21) (tShe [(tJob 7 3 21)] (tEnv ++ tCtx 0x21 0x10 ++ [(0x10024B, 0x40)]))).write = false) ∧
    ((partRead 0 (tJob 7 3 21).src.toNat (tJob 7 3 21).len (tShe [(tJob 7 3 21)] (tEnv ++ tCtx 0x21 0x10 ++ [(0x10024B, 0x40)]))).1 = .ok) ∧
    ((partWrite 0 ((tJob 7 3 21).par.toNat + 0x40) (tVv (tJob 7 3 21) (tShe [(tJob 7 3 21)] (tEnv ++ tCtx 0x21 0x10 ++ [(0x10024B, 0x40)]))).ctx.line (if (tVv (tJob 7 3 21) (tShe [(tJob 7 3 21)] (tEnv ++ tCtx 0x21 0x10 ++ [(0x10024B, 0x40)]))).write then (partWrite 0 (tJob 7 3 21).dst.toNat (envOf (tEb (tJob 7 3 21) (tShe [(tJob 7 3 21)] (tEnv ++ tCtx 0x21 0x10 ++ [(0x10024B, 0x40)])))).payload (tShe [(tJob 7 3 21)] (tEnv ++ tCtx 0x21 0x10 ++ [(0x10024B, 0x40)]))).2 else (tShe [(tJob 7 3 21)] (tEnv ++ tCtx 0x21 0x10 ++ [(0x10024B, 0x40)])))).1 = .ok)) ∧
    (((tShe [(tJob 7 3 21)] ([(0x100000, 0x10), (0x100003, 1), (0x100010, 7)] ++ tCtx 0x21 0x10)).pwr.state = .run) ∧
    (jobOn (tShe [(tJob 7 3 21)] ([(0x100000, 0x10), (0x100003, 1), (0x100010, 7)] ++ tCtx 0x21 0x10)) 7 = some (tJob 7 3 21)) ∧
    ((tJob 7 3 21).worked = false) ∧
    ((tJob 7 3 21).fin = none) ∧
    ((tJob 7 3 21).kind = 3) ∧
    ((partRead 0 (tJob 7 3 21).par.toNat 128 (tShe [(tJob 7 3 21)] ([(0x100000, 0x10), (0x100003, 1), (0x100010, 7)] ++ tCtx 0x21 0x10))).1 = .ok) ∧
    (tBad (tJob 7 3 21) (tShe [(tJob 7 3 21)] ([(0x100000, 0x10), (0x100003, 1), (0x100010, 7)] ++ tCtx 0x21 0x10)) = false) ∧
    ((tV0 (tJob 7 3 21) (tShe [(tJob 7 3 21)] ([(0x100000, 0x10), (0x100003, 1), (0x100010, 7)] ++ tCtx 0x21 0x10))).write = false) ∧
    ((tVv (tJob 7 3 21) (tShe [(tJob 7 3 21)] ([(0x100000, 0x10), (0x100003, 1), (0x100010, 7)] ++ tCtx 0x21 0x10))).write = false) ∧
    ((partRead 0 (tJob 7 3 21).src.toNat (tJob 7 3 21).len (tShe [(tJob 7 3 21)] ([(0x100000, 0x10), (0x100003, 1), (0x100010, 7)] ++ tCtx 0x21 0x10))).1 = .ok) ∧
    ((partWrite 0 ((tJob 7 3 21).par.toNat + 0x40) (tVv (tJob 7 3 21) (tShe [(tJob 7 3 21)] ([(0x100000, 0x10), (0x100003, 1), (0x100010, 7)] ++ tCtx 0x21 0x10))).ctx.line (if (tVv (tJob 7 3 21) (tShe [(tJob 7 3 21)] ([(0x100000, 0x10), (0x100003, 1), (0x100010, 7)] ++ tCtx 0x21 0x10))).write then (partWrite 0 (tJob 7 3 21).dst.toNat (envOf (tEb (tJob 7 3 21) (tShe [(tJob 7 3 21)] ([(0x100000, 0x10), (0x100003, 1), (0x100010, 7)] ++ tCtx 0x21 0x10)))).payload (tShe [(tJob 7 3 21)] ([(0x100000, 0x10), (0x100003, 1), (0x100010, 7)] ++ tCtx 0x21 0x10))).2 else (tShe [(tJob 7 3 21)] ([(0x100000, 0x10), (0x100003, 1), (0x100010, 7)] ++ tCtx 0x21 0x10)))).1 = .ok)) :=
  by and_intros <;> decide +kernel

/-- A port that is down; lengths of 63, 64, 2000 and 2001 bytes; the special types; a learned port; a frame to send; a follow-up; ages; channels with rings of 8. -/
theorem test_meets_EthernetFramesAndChannels :
    ((portUp tUp 13 = false) ∧
    (fld (tUp.rdA .ethAgeS) 0 16 = 0 ∨ fld (tUp.rdA .ethAgeS) 0 16 ≠ 0) ∧
    (chEn tUp 1023 = false) ∧
    (chBad tUp 1023 0x80000202 = true) ∧
    (chBad tUp 1023 0x80000C0C = false) ∧
    (tUp.schEn = false) ∧
    (tUp.eth.fup.find? (fun e => e.port = 13) = none)) ∧
    ((portUp tEth 12 = true) ∧
    (({ tFrame 46 with fcsOk := false } : Frame).fcsOk = false) ∧
    (frameLen (tFrame 45) < 64) ∧
    (2000 < frameLen (tFrame 1983)) ∧
    (64 ≤ frameLen (tFrame 46)) ∧
    (frameLen (tFrame 1982) ≤ 2000) ∧
    (({ tFrame 46 with etype := 0x88B5, payload := [0, 1] ++ List.replicate 44 0 } : Frame).etype = 0x88B5) ∧
    (slice ([0, 1] ++ List.replicate 44 0 : List Byte) 0 2 = [0, 1]) ∧
    (pairOf tEth 12 = none) ∧
    (beNat (slice ([0, 1] ++ List.replicate 44 0 : List Byte) 2 6) = devid tEth) ∧
    (beNat (slice ([0, 1, 1] ++ List.replicate 43 0 : List Byte) 2 6) ≠ devid tEth) ∧
    (serveFrom tEth 12 8 = none)) ∧
    ((portUp ({ tEth with eth := { fdb := [{ vid := 5, mac := 0x020000000001, port := 13 }] } } : State) 12 = true) ∧
    ((tFrame 46).fcsOk = true) ∧
    ((tFrame 46).etype ≠ 0x8808) ∧
    ((tFrame 46).etype ≠ 0x88B5) ∧
    ((tFrame 46).tag = none) ∧
    ((tFrame 46).dst ≠ asAddr) ∧
    (isGroup (tFrame 46).dst = false) ∧
    (ptpAt ({ tEth with eth := { fdb := [{ vid := 5, mac := 0x020000000001, port := 13 }] } } : State) (tFrame 46) = none) ∧
    (ptpChan ({ tEth with eth := { fdb := [{ vid := 5, mac := 0x020000000001, port := 13 }] } } : State) = none) ∧
    (pairOf ({ tEth with eth := { fdb := [{ vid := 5, mac := 0x020000000001, port := 13 }] } } : State) 12 = none) ∧
    (fld (({ tEth with eth := { fdb := [{ vid := 5, mac := 0x020000000001, port := 13 }] } } : State).rdA .ethCtlS) 0 2 = 1) ∧
    ((({ tEth with eth := { fdb := [{ vid := 5, mac := 0x020000000001, port := 13 }] } } : State).rdA .ethPcfgS 12).getLsbD 30 = false) ∧
    (({ tEth with eth := { fdb := [{ vid := 5, mac := 0x020000000001, port := 13 }] } } : State).eth.fdb.find? (fun z => z.vid.toNat = fld (({ tEth with eth := { fdb := [{ vid := 5, mac := 0x020000000001, port := 13 }] } } : State).rdA .ethPcfgS 12) 0 12 && z.mac = (tFrame 46).dst) = some ({ vid := 5, mac := 0x020000000001, port := 13 } : Fdb)) ∧
    (({ vid := 5, mac := 0x020000000001, port := 13 } : Fdb).port < 14) ∧
    (({ vid := 5, mac := 0x020000000001, port := 13 } : Fdb).port ≠ 12) ∧
    (ethMember ({ tEth with eth := { fdb := [{ vid := 5, mac := 0x020000000001, port := 13 }] } } : State) (fld (({ tEth with eth := { fdb := [{ vid := 5, mac := 0x020000000001, port := 13 }] } } : State).rdA .ethPcfgS 12) 0 12) ({ vid := 5, mac := 0x020000000001, port := 13 } : Fdb).port = true) ∧
    (logUp ({ tEth with eth := { fdb := [{ vid := 5, mac := 0x020000000001, port := 13 }] } } : State) ({ vid := 5, mac := 0x020000000001, port := 13 } : Fdb).port = true) ∧
    (qBytes (Tab.get [] ({ tEth with eth := { fdb := [{ vid := 5, mac := 0x020000000001, port := 13 }] } } : State).eth.q (8 * ({ vid := 5, mac := 0x020000000001, port := 13 } : Fdb).port + pcpQueue ({ tEth with eth := { fdb := [{ vid := 5, mac := 0x020000000001, port := 13 }] } } : State) 0)) + frameLen (tFrame 46) ≤ (({ tEth with eth := { fdb := [{ vid := 5, mac := 0x020000000001, port := 13 }] } } : State).rdA .ethQlimS).toNat) ∧
    (bufBytes ({ tEth with eth := { fdb := [{ vid := 5, mac := 0x020000000001, port := 13 }] } } : State) + frameLen (tFrame 46) ≤ 4194304)) ∧
    ((portUp ({ tEth with eth := { q := [(8 * 13 + 7, [tQ])], fup := [{ port := 13, domain := 0, src := [], seq := 0, res := 0 }] } } : State) 13 = true) ∧
    (serveFrom ({ tEth with eth := { q := [(8 * 13 + 7, [tQ])], fup := [{ port := 13, domain := 0, src := [], seq := 0, res := 0 }] } } : State) 13 8 = some (7, 8 * 13 + 7, tQ)) ∧
    (tQ.chan = none) ∧
    ((({ tEth with eth := { q := [(8 * 13 + 7, [tQ])], fup := [{ port := 13, domain := 0, src := [], seq := 0, res := 0 }] } } : State).rdA .ethPtpctlS).getLsbD 0 = false) ∧
    (({ tEth with eth := { q := [(8 * 13 + 7, [tQ])], fup := [{ port := 13, domain := 0, src := [], seq := 0, res := 0 }] } } : State).eth.fup.find? (fun e => e.port = 13) = some { port := 13, domain := 0, src := [], seq := 0, res := 0 })) ∧
    ((fld ((tEth.wrA .ethAgeS 0).rdA .ethAgeS) 0 16 = 0)) ∧
    ((fld ((tEth.wrA .ethAgeS 1).rdA .ethAgeS) 0 16 ≠ 0)) ∧
    ((chEn (tUp.wrA .ethChCtlS 0x80000303 1023) 1023 = true) ∧
    (txCommitOn (tUp.wrA .ethChCtlS 0x80000303 1023) 1023 = false) ∧
    (((tUp.wrA .ethChCtlS 0x80000303 1023).rdB 1023 .ethTxhead).toNat = 8 % chTxN (tUp.wrA .ethChCtlS 0x80000303 1023) 1023) ∧
    (((tUp.wrA .ethChCtlS 0x80000303 1023).rdB 1023 .ethTxhead).toNat ≠ 9 % chTxN (tUp.wrA .ethChCtlS 0x80000303 1023) 1023) ∧
    ((((tUp.wrA .ethChCtlS 0x80000303 1023).rdB 1023 .ethTxhead).toNat + 1) % chTxN (tUp.wrA .ethChCtlS 0x80000303 1023) 1023 = 9 % chTxN (tUp.wrA .ethChCtlS 0x80000303 1023) 1023)) ∧
    ((chEn ((tUp.wrA .ethChCtlS 0xA0000303 1023).wr .schCtl 1) 1023 = true) ∧
    (txCommitOn ((tUp.wrA .ethChCtlS 0xA0000303 1023).wr .schCtl 1) 1023 = true) ∧
    (((tUp.wrA .ethChCtlS 0xA0000303 1023).wr .schCtl 1).schEn = true)) :=
  by and_intros <;> decide +kernel

/-- A frame that a lost link cuts off; pair 6 good, bad and not valid; one port up; learning due; link, checks and hold-offs of both roles; swaps possible and not; verification with and without the new port heard. -/
theorem test_meets_EthernetPairs :
    ((portUp ({ tEth with eth := { q := [(8 * 13 + 7, [tQ])] } } : State) 13 = true) ∧
    (serveFrom ({ tEth with eth := { q := [(8 * 13 + 7, [tQ])] } } : State) 13 8 = some (7, 8 * 13 + 7, tQ)) ∧
    (tQ.chan = none)) ∧
    ((netsUp ({ tEth with clk := { tEth.clk with fallback := true } } : State) = false)) ∧
    ((netsUp tEth = true) ∧
    (pairBad tEth 6 0x80000CD0 = true) ∧
    (pairBad tEth 6 0 = false) ∧
    (tEth.schEn = false) ∧
    (pairValid tEth 6 = false) ∧
    ((tEth.pair 6).learn = false) ∧
    (pairOf tEth 13 = none) ∧
    ((tEth.rdA .ethPcfgS 13).getLsbD 31 = true) ∧
    (2 ≤ (13 : Fin 14).val) ∧
    ((tEth.rdA .ethPcfgS 2).getLsbD 31 = false) ∧
    ((tEth.pair 6).verify = none) ∧
    (canPairSwap tEth 6 = none)) ∧
    (((tEth.wr .schCtl 1).schEn = true) ∧
    (pairBad (tEth.wr .schCtl 1) 6 0 = false)) ∧
    ((pairValid (tPair { a := .active, b := .nochk, learn := true } 5 0) 6 = true) ∧
    (pairA (tPair { a := .active, b := .nochk, learn := true } 5 0) 6 ≠ pairB (tPair { a := .active, b := .nochk, learn := true } 5 0) 6) ∧
    (portUp (tPair { a := .active, b := .nochk, learn := true } 5 0) (pairA (tPair { a := .active, b := .nochk, learn := true } 5 0) 6) = true) ∧
    (portUp (tPair { a := .active, b := .nochk, learn := true } 5 0) (pairB (tPair { a := .active, b := .nochk, learn := true } 5 0) 6) = false) ∧
    (qBytes (ethQ (tPair { a := .active, b := .nochk, learn := true } 5 0) (pairA (tPair { a := .active, b := .nochk, learn := true } 5 0) 6) 7) + 64 ≤ ((tPair { a := .active, b := .nochk, learn := true } 5 0).rdA .ethQlimS).toNat) ∧
    (bufBytes (tPair { a := .active, b := .nochk, learn := true } 5 0) + 64 ≤ 4194304) ∧
    (((tPair { a := .active, b := .nochk, learn := true } 5 0).pair 6).learn = true) ∧
    (((tPair { a := .active, b := .nochk, learn := true } 5 0).pair 6).active ≠ none) ∧
    ((List.range 1024).all (fun n => !chEn (tPair { a := .active, b := .nochk, learn := true } 5 0) n) = true) ∧
    (canPairSwap (tPair { a := .active, b := .nochk, learn := true } 5 0) 6 = none)) ∧
    ((pairOf ((tPair { a := .active, b := .standby } 5 5).wrA .ethPrSwapS 1 6) 12 = some 6) ∧
    (decide ((12 : Fin 14).val = pairB ((tPair { a := .active, b := .standby } 5 5).wrA .ethPrSwapS 1 6) 6) = false) ∧
    ((((tPair { a := .active, b := .standby } 5 5).wrA .ethPrSwapS 1 6).pair 6).at false = .active) ∧
    ((((tPair { a := .active, b := .standby } 5 5).wrA .ethPrSwapS 1 6).pair 6).at (!false) = .standby) ∧
    (canPairSwap ((tPair { a := .active, b := .standby } 5 5).wrA .ethPrSwapS 1 6) 6 = some true) ∧
    (fld (((tPair { a := .active, b := .standby } 5 5).wrA .ethPrSwapS 1 6).rdA .ethPrSwapS 6) 0 16 ≠ 0) ∧
    (pairOf ((tPair { a := .active, b := .standby } 5 5).wrA .ethPrSwapS 1 6) 13 = some 6) ∧
    (decide ((13 : Fin 14).val = pairB ((tPair { a := .active, b := .standby } 5 5).wrA .ethPrSwapS 1 6) 6) = true) ∧
    ((((tPair { a := .active, b := .standby } 5 5).wrA .ethPrSwapS 1 6).pair 6).at true = .standby)) ∧
    (((((tPair { a := .active, b := .down } 5 0).wrA .ethPrSwapS 1 6).pair 6).at true = .down) ∧
    ((((tPair { a := .active, b := .down } 5 0).wrA .ethPrSwapS 1 6).rdA .ethPcfgS 13).getLsbD 31 = true) ∧
    ((((tPair { a := .active, b := .down } 5 0).wrA .ethPrSwapS 1 6).rd .ethPstat 13).getLsbD 2 = false) ∧
    (canPairSwap ((tPair { a := .active, b := .down } 5 0).wrA .ethPrSwapS 1 6) 6 = none) ∧
    (pairValid ((tPair { a := .active, b := .down } 5 0).wrA .ethPrSwapS 1 6) 6 = true) ∧
    (fld (((tPair { a := .active, b := .down } 5 0).wrA .ethPrSwapS 1 6).rdA .ethPrSwapS 6) 0 16 ≠ 0)) ∧
    ((((tPair { a := .active, b := .down } 5 4).pair 6).at true = .down) ∧
    (((tPair { a := .active, b := .down } 5 4).rd .ethPstat 13).getLsbD 2 = true) ∧
    (((tPair { a := .active, b := .down } 5 4).pair 6).active ≠ none)) ∧
    ((((tPair { a := .down, b := .down } 0 4).pair 6).at true = .down) ∧
    (((tPair { a := .down, b := .down } 0 4).rd .ethPstat 13).getLsbD 2 = true) ∧
    (((tPair { a := .down, b := .down } 0 4).pair 6).active = none)) ∧
    ((((tPair { a := .active, b := .hold } 5 1).pair 6).at true = .hold) ∧
    (portUp (tPair { a := .active, b := .hold } 5 1) 13 = true) ∧
    (((tPair { a := .active, b := .hold } 5 1).rd .ethPstat 13).getLsbD 2 = false)) ∧
    ((((tPair { a := .active, b := .hold } 5 5).pair 6).at true = .hold) ∧
    (portUp (tPair { a := .active, b := .hold } 5 5) 13 = true) ∧
    (((tPair { a := .active, b := .hold } 5 5).rd .ethPstat 13).getLsbD 2 = true) ∧
    (((tPair { a := .active, b := .hold } 5 5).pair 6).active ≠ none)) ∧
    ((((tPair { a := .down, b := .hold } 0 5).pair 6).at true = .hold) ∧
    (portUp (tPair { a := .down, b := .hold } 0 5) 13 = true) ∧
    (((tPair { a := .down, b := .hold } 0 5).rd .ethPstat 13).getLsbD 2 = true) ∧
    (((tPair { a := .down, b := .hold } 0 5).pair 6).active = none)) ∧
    ((((tPair { a := .active, b := .hold } 5 0).pair 6).at true = .hold) ∧
    (portUp (tPair { a := .active, b := .hold } 5 0) 13 = false)) ∧
    ((((tPair { a := .standby, b := .active, verify := some true, newRx := true } 5 5).pair 6).verify = some true) ∧
    (((tPair { a := .standby, b := .active, verify := some true, newRx := true } 5 5).pair 6).newRx = true ∨ ((tPair { a := .standby, b := .active, verify := some true, newRx := true } 5 5).pair 6).oldRx = none)) ∧
    ((((tPair { a := .standby, b := .active, verify := some true, oldRx := some 5 } 5 5).pair 6).verify = some true) ∧
    (((tPair { a := .standby, b := .active, verify := some true, oldRx := some 5 } 5 5).pair 6).newRx = false) ∧
    (((tPair { a := .standby, b := .active, verify := some true, oldRx := some 5 } 5 5).pair 6).oldRx ≠ none) ∧
    (((tPair { a := .standby, b := .active, verify := some true, oldRx := some 5 } 5 5).pair 6).at true = .active) ∧
    (((tPair { a := .standby, b := .active, verify := some true, oldRx := some 5 } 5 5).pair 6).at (!true) = .standby)) :=
  by and_intros <;> decide +kernel

/-- Payload blocks that read and do not; transmit windows on star and ring at their shortest and one quantum short, both ring ports up, one and none; a station that may not send, one with no payload; windows of other kinds. -/
theorem test_meets_StolnetWindows :
    ((stnEn tUp = false) ∧
    ((stnSlot tUp 4095).sends = false)) ∧
    ((stnEn ((tEnt {} 0x5F001000 0x01000004 0).wrA .schPdAreaS 0x4000000) = true) ∧
    ((readSlot ((tEnt {} 0x5F001000 0x01000004 0).wrA .schPdAreaS 0x4000000) 4095).sends = true) ∧
    (((tEnt {} 0x5F001000 0x01000004 0).wrA .schPdAreaS 0x4000000).sound (txSource ((tEnt {} 0x5F001000 0x01000004 0).wrA .schPdAreaS 0x4000000) (readSlot ((tEnt {} 0x5F001000 0x01000004 0).wrA .schPdAreaS 0x4000000) 4095) + (readSlot ((tEnt {} 0x5F001000 0x01000004 0).wrA .schPdAreaS 0x4000000) 4095).ofs) (readSlot ((tEnt {} 0x5F001000 0x01000004 0).wrA .schPdAreaS 0x4000000) 4095).len = true) ∧
    ((stnSlot ((tEnt {} 0x5F001000 0x01000004 0).wrA .schPdAreaS 0x4000000) 4095).sends = true) ∧
    (maySend ((tEnt {} 0x5F001000 0x01000004 0).wrA .schPdAreaS 0x4000000) 4095 = true) ∧
    (Tab.get none ((tEnt {} 0x5F001000 0x01000004 0).wrA .schPdAreaS 0x4000000).stn.pay 4095 = none)) ∧
    ((stnEn ({ (tEnt {} 0x5F001000 0x01000004 0).wrA .schPdAreaS 0x4000000 with poison := (List.range 64).map (fun i => 0x4000000000 / 64 + i) } : State) = true) ∧
    ((readSlot ({ (tEnt {} 0x5F001000 0x01000004 0).wrA .schPdAreaS 0x4000000 with poison := (List.range 64).map (fun i => 0x4000000000 / 64 + i) } : State) 4095).sends = true) ∧
    ((memRead (txSource ({ (tEnt {} 0x5F001000 0x01000004 0).wrA .schPdAreaS 0x4000000 with poison := (List.range 64).map (fun i => 0x4000000000 / 64 + i) } : State) (readSlot ({ (tEnt {} 0x5F001000 0x01000004 0).wrA .schPdAreaS 0x4000000 with poison := (List.range 64).map (fun i => 0x4000000000 / 64 + i) } : State) 4095) + (readSlot ({ (tEnt {} 0x5F001000 0x01000004 0).wrA .schPdAreaS 0x4000000 with poison := (List.range 64).map (fun i => 0x4000000000 / 64 + i) } : State) 4095).ofs) (readSlot ({ (tEnt {} 0x5F001000 0x01000004 0).wrA .schPdAreaS 0x4000000 with poison := (List.range 64).map (fun i => 0x4000000000 / 64 + i) } : State) 4095).len ({ (tEnt {} 0x5F001000 0x01000004 0).wrA .schPdAreaS 0x4000000 with poison := (List.range 64).map (fun i => 0x4000000000 / 64 + i) } : State)).1 ≠ .ok)) ∧
    (((stnSlot ((tEnt { pay := [(4095, some [1, 2, 3, 4])] } 0x5F001000 0x01000004 0).wr .stnRingstat 0x41000000) 4095).sends = true) ∧
    (maySend ((tEnt { pay := [(4095, some [1, 2, 3, 4])] } 0x5F001000 0x01000004 0).wr .stnRingstat 0x41000000) 4095 = false)) ∧
    (((stnSlot (tEnt { pay := [(4095, some [1, 2, 3, 4])] } 0x5F000A00 0x01000004 0) 4095).sends = true) ∧
    (maySend (tEnt { pay := [(4095, some [1, 2, 3, 4])] } 0x5F000A00 0x01000004 0) 4095 = true) ∧
    (Tab.get none (tEnt { pay := [(4095, some [1, 2, 3, 4])] } 0x5F000A00 0x01000004 0).stn.pay 4095 = some [1, 2, 3, 4]) ∧
    ((stnSlot (tEnt { pay := [(4095, some [1, 2, 3, 4])] } 0x5F000A00 0x01000004 0) 4095).kind = 5) ∧
    ((stnSlot (tEnt { pay := [(4095, some [1, 2, 3, 4])] } 0x5F000A00 0x01000004 0) 4095).port < 16) ∧
    (wireNs false (ownStn (tEnt { pay := [(4095, some [1, 2, 3, 4])] } 0x5F000A00 0x01000004 0) (fld ((tEnt { pay := [(4095, some [1, 2, 3, 4])] } 0x5F000A00 0x01000004 0).rdA .stnSpCtlS 15) 0 4) 1 4095 (stnSlot (tEnt { pay := [(4095, some [1, 2, 3, 4])] } 0x5F000A00 0x01000004 0) 4095).node [1, 2, 3, 4]) ≤ (stnSlot (tEnt { pay := [(4095, some [1, 2, 3, 4])] } 0x5F000A00 0x01000004 0) 4095).dur)) ∧
    (((stnSlot (tEnt { pay := [(4095, some [1, 2, 3, 4])] } 0x5F0009FF 0x01000004 0) 4095).sends = true) ∧
    (maySend (tEnt { pay := [(4095, some [1, 2, 3, 4])] } 0x5F0009FF 0x01000004 0) 4095 = true) ∧
    (Tab.get none (tEnt { pay := [(4095, some [1, 2, 3, 4])] } 0x5F0009FF 0x01000004 0).stn.pay 4095 = some [1, 2, 3, 4]) ∧
    ((stnSlot (tEnt { pay := [(4095, some [1, 2, 3, 4])] } 0x5F0009FF 0x01000004 0) 4095).kind = 5) ∧
    ((stnSlot (tEnt { pay := [(4095, some [1, 2, 3, 4])] } 0x5F0009FF 0x01000004 0) 4095).port < 16) ∧
    ((stnSlot (tEnt { pay := [(4095, some [1, 2, 3, 4])] } 0x5F0009FF 0x01000004 0) 4095).dur < wireNs false (ownStn (tEnt { pay := [(4095, some [1, 2, 3, 4])] } 0x5F0009FF 0x01000004 0) (fld ((tEnt { pay := [(4095, some [1, 2, 3, 4])] } 0x5F0009FF 0x01000004 0).rdA .stnSpCtlS 15) 0 4) 1 4095 (stnSlot (tEnt { pay := [(4095, some [1, 2, 3, 4])] } 0x5F0009FF 0x01000004 0) 4095).node [1, 2, 3, 4]))) ∧
    (((stnSlot (tEnt { pay := [(4095, some [1, 2, 3, 4])] } 0x10000100 0x01000004 0) 4095).sends = true) ∧
    (maySend (tEnt { pay := [(4095, some [1, 2, 3, 4])] } 0x10000100 0x01000004 0) 4095 = true) ∧
    (Tab.get none (tEnt { pay := [(4095, some [1, 2, 3, 4])] } 0x10000100 0x01000004 0).stn.pay 4095 = some [1, 2, 3, 4]) ∧
    ((stnSlot (tEnt { pay := [(4095, some [1, 2, 3, 4])] } 0x10000100 0x01000004 0) 4095).kind = 1) ∧
    (wireNs true (ownStn (tEnt { pay := [(4095, some [1, 2, 3, 4])] } 0x10000100 0x01000004 0) (ringVer (tEnt { pay := [(4095, some [1, 2, 3, 4])] } 0x10000100 0x01000004 0)) 1 4095 (stnSlot (tEnt { pay := [(4095, some [1, 2, 3, 4])] } 0x10000100 0x01000004 0) 4095).node [1, 2, 3, 4]) ≤ (stnSlot (tEnt { pay := [(4095, some [1, 2, 3, 4])] } 0x10000100 0x01000004 0) 4095).dur) ∧
    (ringTx (tEnt { pay := [(4095, some [1, 2, 3, 4])] } 0x10000100 0x01000004 0) 0 = true)) ∧
    (((stnSlot ((tEnt { pay := [(4095, some [1, 2, 3, 4])] } 0x10000100 0x01000004 0).wrA .stnRpCtlS 0 0) 4095).sends = true) ∧
    (maySend ((tEnt { pay := [(4095, some [1, 2, 3, 4])] } 0x10000100 0x01000004 0).wrA .stnRpCtlS 0 0) 4095 = true) ∧
    (Tab.get none ((tEnt { pay := [(4095, some [1, 2, 3, 4])] } 0x10000100 0x01000004 0).wrA .stnRpCtlS 0 0).stn.pay 4095 = some [1, 2, 3, 4]) ∧
    ((stnSlot ((tEnt { pay := [(4095, some [1, 2, 3, 4])] } 0x10000100 0x01000004 0).wrA .stnRpCtlS 0 0) 4095).kind = 1) ∧
    (wireNs true (ownStn ((tEnt { pay := [(4095, some [1, 2, 3, 4])] } 0x10000100 0x01000004 0).wrA .stnRpCtlS 0 0) (ringVer ((tEnt { pay := [(4095, some [1, 2, 3, 4])] } 0x10000100 0x01000004 0).wrA .stnRpCtlS 0 0)) 1 4095 (stnSlot ((tEnt { pay := [(4095, some [1, 2, 3, 4])] } 0x10000100 0x01000004 0).wrA .stnRpCtlS 0 0) 4095).node [1, 2, 3, 4]) ≤ (stnSlot ((tEnt { pay := [(4095, some [1, 2, 3, 4])] } 0x10000100 0x01000004 0).wrA .stnRpCtlS 0 0) 4095).dur) ∧
    (ringTx ((tEnt { pay := [(4095, some [1, 2, 3, 4])] } 0x10000100 0x01000004 0).wrA .stnRpCtlS 0 0) 0 = false) ∧
    (ringTx ((tEnt { pay := [(4095, some [1, 2, 3, 4])] } 0x10000100 0x01000004 0).wrA .stnRpCtlS 0 0) 1 = true)) ∧
    (((stnSlot (((tEnt { pay := [(4095, some [1, 2, 3, 4])] } 0x10000100 0x01000004 0).wrA .stnRpCtlS 0 0).wrA .stnRpCtlS 0 1) 4095).sends = true) ∧
    (maySend (((tEnt { pay := [(4095, some [1, 2, 3, 4])] } 0x10000100 0x01000004 0).wrA .stnRpCtlS 0 0).wrA .stnRpCtlS 0 1) 4095 = true) ∧
    (Tab.get none (((tEnt { pay := [(4095, some [1, 2, 3, 4])] } 0x10000100 0x01000004 0).wrA .stnRpCtlS 0 0).wrA .stnRpCtlS 0 1).stn.pay 4095 = some [1, 2, 3, 4]) ∧
    ((stnSlot (((tEnt { pay := [(4095, some [1, 2, 3, 4])] } 0x10000100 0x01000004 0).wrA .stnRpCtlS 0 0).wrA .stnRpCtlS 0 1) 4095).kind = 1) ∧
    (ringTx (((tEnt { pay := [(4095, some [1, 2, 3, 4])] } 0x10000100 0x01000004 0).wrA .stnRpCtlS 0 0).wrA .stnRpCtlS 0 1) 0 = false) ∧
    (ringTx (((tEnt { pay := [(4095, some [1, 2, 3, 4])] } 0x10000100 0x01000004 0).wrA .stnRpCtlS 0 0).wrA .stnRpCtlS 0 1) 1 = false)) :=
  by and_intros <;> decide +kernel

/-- Star and ring frames inside and outside windows, complete, late and with a bad CRC; own, new, valid and unknown ones, hops 0 and 1, the far port up and out; window ends with a frame, without one and of a partition that is OFF. -/
theorem test_meets_StolnetReceive :
    ((stnGoing (tStn {}) = true) ∧
    (starUp (tStn {}) 15 = true) ∧
    (starExcl (tStn {}) 15 = false) ∧
    ((List.range 4096).find? (fun k => (stnSlot (tStn {}) k).kind = 6 && (stnSlot (tStn {}) k).port = 15 && (stnSlot (tStn {}) k).holds 0) = none) ∧
    (ringRx (tStn {}) 0 = true) ∧
    ((List.range 4096).find? (fun k => (stnSlot (tStn {}) k).ring && (stnSlot (tStn {}) k).holds 0) = none)) ∧
    ((stnGoing (tEnt {} 0x6F000001 0x010F0000 0) = true) ∧
    (starUp (tEnt {} 0x6F000001 0x010F0000 0) 15 = true) ∧
    (starExcl (tEnt {} 0x6F000001 0x010F0000 0) 15 = false) ∧
    ((List.range 4096).find? (fun k => (stnSlot (tEnt {} 0x6F000001 0x010F0000 0) k).kind = 6 && (stnSlot (tEnt {} 0x6F000001 0x010F0000 0) k).port = 15 && (stnSlot (tEnt {} 0x6F000001 0x010F0000 0) k).holds 0) = some 4095) ∧
    ((tStnF 1).late = false) ∧
    (Tab.get (.timeout, none) (tEnt {} 0x6F000001 0x010F0000 0).stn.rx 4095 = (.timeout, none)) ∧
    (({ tStnF 1 with crcOk := false } : StnFrame).crcOk = false) ∧
    (({ tStnF 1 with late := true } : StnFrame).late = true)) ∧
    ((stnGoing (tEnt { cyc := 7 } 0x10000001 0 0) = true) ∧
    (ringRx (tEnt { cyc := 7 } 0x10000001 0 0) 0 = true) ∧
    ((List.range 4096).find? (fun k => (stnSlot (tEnt { cyc := 7 } 0x10000001 0 0) k).ring && (stnSlot (tEnt { cyc := 7 } 0x10000001 0 0) k).holds 0) = some 4095) ∧
    ((stnSlot (tEnt { cyc := 7 } 0x10000001 0 0) 4095).kind = 1) ∧
    ((stnSlot (tEnt { cyc := 7 } 0x10000001 0 0) 4095).spare = false) ∧
    ((tStnF 2).station.toNat ≠ stnNo (tEnt { cyc := 7 } 0x10000001 0 0))) ∧
    ((stnGoing (tEnt { cyc := 7 } 0x20000001 0 0) = true) ∧
    (ringRx (tEnt { cyc := 7 } 0x20000001 0 0) 0 = true) ∧
    ((List.range 4096).find? (fun k => (stnSlot (tEnt { cyc := 7 } 0x20000001 0 0) k).ring && (stnSlot (tEnt { cyc := 7 } 0x20000001 0 0) k).holds 0) = some 4095) ∧
    ((stnSlot (tEnt { cyc := 7 } 0x20000001 0 0) 4095).kind = 2) ∧
    ((tStnF 1).station.toNat = stnNo (tEnt { cyc := 7 } 0x20000001 0 0)) ∧
    (stripsOwn (tEnt { cyc := 7 } 0x20000001 0 0) (tStnF 1) = true) ∧
    (Tab.get (.timeout, none) (tEnt { cyc := 7 } 0x20000001 0 0).stn.rx 4095 = (.timeout, none))) ∧
    ((stnGoing (tEnt { cyc := 7 } 0x30000001 0 0) = true) ∧
    (ringRx (tEnt { cyc := 7 } 0x30000001 0 0) 0 = true) ∧
    ((List.range 4096).find? (fun k => (stnSlot (tEnt { cyc := 7 } 0x30000001 0 0) k).ring && (stnSlot (tEnt { cyc := 7 } 0x30000001 0 0) k).holds 0) = some 4095) ∧
    ((stnSlot (tEnt { cyc := 7 } 0x30000001 0 0) 4095).kind = 3) ∧
    ((tStnF 1).station.toNat = stnNo (tEnt { cyc := 7 } 0x30000001 0 0)) ∧
    (stripsOwn (tEnt { cyc := 7 } 0x30000001 0 0) (tStnF 1) = true) ∧
    (stripsOwn (tEnt { cyc := 7 } 0x30000001 0 0) { tStnF 1 with lb := true, hops := 64 } = false) ∧
    ((tStnF 2).station.toNat ≠ stnNo (tEnt { cyc := 7 } 0x30000001 0 0)) ∧
    (stnValid (tEnt { cyc := 7 } 0x30000001 0 0) (tStnF 2) = false) ∧
    (unknownType (tStnF 2) = false) ∧
    ((tStnF 2).hops ≠ 0) ∧
    (ringTx (tEnt { cyc := 7 } 0x30000001 0 0) (1 - 0) = true) ∧
    (({ tStnF 2 with hops := 0 } : StnFrame).hops = 0) ∧
    (unknownType { tStnF 2 with typ := 5 } = true) ∧
    (stnValid (tEnt { cyc := 7 } 0x30000001 0 0) { tStnF 2 with typ := 5 } = false)) ∧
    ((stnGoing ((tEnt { cyc := 7 } 0x30000001 0 0).wrA .stnRpCtlS 0 1) = true) ∧
    (ringRx ((tEnt { cyc := 7 } 0x30000001 0 0).wrA .stnRpCtlS 0 1) 0 = true) ∧
    ((stnSlot ((tEnt { cyc := 7 } 0x30000001 0 0).wrA .stnRpCtlS 0 1) 4095).kind = 3) ∧
    ((tStnF 2).hops ≠ 0) ∧
    (ringTx ((tEnt { cyc := 7 } 0x30000001 0 0).wrA .stnRpCtlS 0 1) (1 - 0) = false) ∧
    (ringTx ((tEnt { cyc := 7 } 0x30000001 0 0).wrA .stnRpCtlS 0 1) 0 = true)) ∧
    ((stnEn ((tEnt { rx := [(4095, (.ok, some (tStnF 2)))] } 0x20000100 0 0x00C00004).setPart 3 { state := .wait }) = true) ∧
    (((tEnt { rx := [(4095, (.ok, some (tStnF 2)))] } 0x20000100 0 0x00C00004).setPart 3 { state := .wait }).stn.going = true) ∧
    ((stnSlot ((tEnt { rx := [(4095, (.ok, some (tStnF 2)))] } 0x20000100 0 0x00C00004).setPart 3 { state := .wait }) 4095).kind = 2) ∧
    ((((tEnt { rx := [(4095, (.ok, some (tStnF 2)))] } 0x20000100 0 0x00C00004).setPart 3 { state := .wait }).part (stnSlot ((tEnt { rx := [(4095, (.ok, some (tStnF 2)))] } 0x20000100 0 0x00C00004).setPart 3 { state := .wait }) 4095).part).state ≠ .off) ∧
    ((Tab.get (.timeout, none) ((tEnt { rx := [(4095, (.ok, some (tStnF 2)))] } 0x20000100 0 0x00C00004).setPart 3 { state := .wait }).stn.rx 4095).2 = some (tStnF 2))) ∧
    ((stnEn ((tEnt {} 0x20000100 0 0x00C00004).setPart 3 { state := .wait }) = true) ∧
    ((stnSlot ((tEnt {} 0x20000100 0 0x00C00004).setPart 3 { state := .wait }) 4095).kind = 2) ∧
    ((((tEnt {} 0x20000100 0 0x00C00004).setPart 3 { state := .wait }).part (stnSlot ((tEnt {} 0x20000100 0 0x00C00004).setPart 3 { state := .wait }) 4095).part).state ≠ .off) ∧
    ((Tab.get (.timeout, none) ((tEnt {} 0x20000100 0 0x00C00004).setPart 3 { state := .wait }).stn.rx 4095).2 = none)) ∧
    ((stnEn (tEnt {} 0x20000100 0 0x00C00004) = true) ∧
    ((stnSlot (tEnt {} 0x20000100 0 0x00C00004) 4095).kind = 2) ∧
    (((tEnt {} 0x20000100 0 0x00C00004).part (stnSlot (tEnt {} 0x20000100 0 0x00C00004) 4095).part).state = .off) ∧
    ((Tab.get (.timeout, none) (tEnt {} 0x20000100 0 0x00C00004).stn.rx 4095).2 = none)) :=
  by and_intros <;> decide +kernel

/-- Star port 15 marked and not; ring ports not enabled, enabled, looped with 15 and 16 cycles behind them; the network clocks off. -/
theorem test_meets_StolnetPorts :
    (((tStn {}).stn.starX.getLsbD 15 = false) ∧
    (((tStn {}).rdA .stnRpCtlS 0).getLsbD 31 = true) ∧
    (ringLooped (tStn {}) 0 = false) ∧
    (((tStn {}).rd .stnSpStat 15).getLsbD 0 = true) ∧
    (netsUp (tStn {}) = true)) ∧
    (((tStn { starX := 0x8000 }).stn.starX.getLsbD 15 = true)) ∧
    ((netsUp (tCk (fun c => { c with fallback := true })) = false) ∧
    (((tCk (fun c => { c with fallback := true })).rdA .stnRpCtlS 1).getLsbD 31 = false)) ∧
    ((Tab.get none ((tStn { upSince := [(1, some 5)], cyc := 20 }).wr .stnRpStat 5 1).stn.upSince 1 = some 5) ∧
    (ringLooped ((tStn { upSince := [(1, some 5)], cyc := 20 }).wr .stnRpStat 5 1) 1 = true) ∧
    (ringIsol ((tStn { upSince := [(1, some 5)], cyc := 20 }).wr .stnRpStat 5 1) 1 = false) ∧
    (((tStn { upSince := [(1, some 5)], cyc := 20 }).wr .stnRpStat 5 1).stn.txOff.getLsbD (16 + 1) = false) ∧
    (((tStn { upSince := [(1, some 5)], cyc := 20 }).wr .stnRpStat 5 1).stn.cyc < 5 + 16)) ∧
    ((netsUp ((tStn { upSince := [(1, some 5)], cyc := 21 }).wr .stnRpStat 5 1) = true) ∧
    (Tab.get none ((tStn { upSince := [(1, some 5)], cyc := 21 }).wr .stnRpStat 5 1).stn.upSince 1 = some 5) ∧
    (ringLooped ((tStn { upSince := [(1, some 5)], cyc := 21 }).wr .stnRpStat 5 1) 1 = true) ∧
    (5 + 16 ≤ ((tStn { upSince := [(1, some 5)], cyc := 21 }).wr .stnRpStat 5 1).stn.cyc)) :=
  by and_intros <;> decide +kernel

/-- A check not due and due, with and without an offender, and with a cycle that is not ahead; enables at 1, 2, 32 and 33 stations. -/
theorem test_meets_StolnetTable :
    ((tUp.stn.checking = false) ∧
    ((0x80020000 : Word).getLsbD 31 = true) ∧
    (fld (0x80010000 : Word) 16 6 < 2) ∧
    (32 < fld (0x80210000 : Word) 16 6) ∧
    (stnTtOk tUp (fld (0x80020000 : Word) 8 5) = false) ∧
    ((0 : Word).getLsbD 31 = false)) ∧
    ((({ tUp.wr .stnSlDurS 0x70000000 4095 with stn := { checking := true } } : State).stn.checking = true) ∧
    (firstBad ({ tUp.wr .stnSlDurS 0x70000000 4095 with stn := { checking := true } } : State) = some 4095)) ∧
    ((({ tUp.wr .stnTswap 2 with stn := { checking := true } } : State).stn.checking = true) ∧
    (firstBad ({ tUp.wr .stnTswap 2 with stn := { checking := true } } : State) = none) ∧
    (swapCycleOk ({ tUp.wr .stnTswap 2 with stn := { checking := true } } : State) = true)) ∧
    ((firstBad ({ tUp.wr .stnTswap 1 with stn := { checking := true } } : State) = none) ∧
    (swapCycleOk ({ tUp.wr .stnTswap 1 with stn := { checking := true } } : State) = false)) ∧
    ((2 ≤ fld (0x80021F00 : Word) 16 6) ∧
    (fld (0x80201F00 : Word) 16 6 ≤ 32) ∧
    (stnTtOk ((tUp.wr .timTtOwn 0x80000000 31).wr .timTtCtl 0x800 31) (fld (0x80021F00 : Word) 8 5) = true) ∧
    (stnEn ((tUp.wr .timTtOwn 0x80000000 31).wr .timTtCtl 0x800 31) = false)) ∧
    ((stnEn (tStn {}) = true) ∧
    ((0x80021F00 : Word).getLsbD 31 = true) ∧
    ((0 : Word).getLsbD 31 = false)) :=
  by and_intros <;> decide +kernel

/-- A station that may join, asked and not; grants in odd cycles with no request, a bad one and a good one; cycle A; the silences at 16 and 64 cycles and one short. -/
theorem test_meets_StolnetMembership :
    ((mayJoin (tStn {}) = false) ∧
    (stnActs (tStn {}) = false)) ∧
    ((mayJoin (tJoin { cyc := 2 } 0 0x40000000) = true) ∧
    (joinSlot (tJoin { cyc := 2 } 0 0x40000000) = some 4095) ∧
    (ringTx (tJoin { cyc := 2 } 0 0x40000000) 0 = true) ∧
    ((tJoin { cyc := 2 } 0 0x40000000).stn.asked = none) ∧
    (forwardsAt (tJoin { cyc := 2 } 0 0x40000000) 4095 = false)) ∧
    ((mayJoin (tJoin { cyc := 2, fwd := some (0, tStnF 2), fwdEnd := 9 } 0 0x40000000) = true) ∧
    (joinSlot (tJoin { cyc := 2, fwd := some (0, tStnF 2), fwdEnd := 9 } 0 0x40000000) = some 4095) ∧
    (ringTx (tJoin { cyc := 2, fwd := some (0, tStnF 2), fwdEnd := 9 } 0 0x40000000) 0 = true) ∧
    ((tJoin { cyc := 2, fwd := some (0, tStnF 2), fwdEnd := 9 } 0 0x40000000).stn.asked = none) ∧
    (forwardsAt (tJoin { cyc := 2, fwd := some (0, tStnF 2), fwdEnd := 9 } 0 0x40000000) 4095 = true)) ∧
    ((mayJoin (tJoin { cyc := 32, asked := some 0 } 0 0x40000000) = true) ∧
    (joinSlot (tJoin { cyc := 32, asked := some 0 } 0 0x40000000) = some 4095) ∧
    (ringTx (tJoin { cyc := 32, asked := some 0 } 0 0x40000000) 0 = true) ∧
    ((tJoin { cyc := 32, asked := some 0 } 0 0x40000000).stn.asked = some 0) ∧
    (forwardsAt (tJoin { cyc := 32, asked := some 0 } 0 0x40000000) 4095 = false) ∧
    ((List.range 16).all (fun b => decide (0 + 2 + 2 * b ≤ (tJoin { cyc := 32, asked := some 0 } 0 0x40000000).stn.cyc)) = true)) ∧
    ((mayJoin (tJoin { cyc := 2, asked := some 1 } 0 0x40000000) = true) ∧
    ((tJoin { cyc := 2, asked := some 1 } 0 0x40000000).stn.asked = some 1) ∧
    ((tJoin { cyc := 2, asked := some 1 } 0 0x40000000).stn.cyc < 1 + 2 + 2 * 0)) ∧
    ((stnGoing (tJoin { cyc := 3 } 0 0x81018000) = true) ∧
    (stnActs (tJoin { cyc := 3 } 0 0x81018000) = true) ∧
    ((tJoin { cyc := 3 } 0 0x81018000).stn.cyc % 2 = 1) ∧
    (joinSlot (tJoin { cyc := 3 } 0 0x81018000) = some 4095) ∧
    (ringTx (tJoin { cyc := 3 } 0 0x81018000) 0 = true) ∧
    ((tJoin { cyc := 3 } 0 0x81018000).stn.join = none) ∧
    ((tJoin { cyc := 3 } 0 0x81018000).stn.verPend = none)) ∧
    (((tJoin { cyc := 3, join := some (tReqJ 1) } 0 0x81018000).stn.join = some (tReqJ 1)) ∧
    ((judgeJoin (tJoin { cyc := 3, join := some (tReqJ 1) } 0 0x81018000) (tReqJ 1)).1 ≠ .ok) ∧
    ((judgeJoin (tJoin { cyc := 3, join := some (tReqJ 1) } 0 0x81018000) (tReqJ 1)).1 ≠ .full) ∧
    ((tReqJ 1).cfgid ≠ stnCfg (tJoin { cyc := 3, join := some (tReqJ 1) } 0 0x81018000))) ∧
    (((tJoin { cyc := 3, join := some (tReqJ 0) } 0 0x81018000).stn.join = some (tReqJ 0)) ∧
    ((judgeJoin (tJoin { cyc := 3, join := some (tReqJ 0) } 0 0x81018000) (tReqJ 0)).1 = .ok) ∧
    (bestVer (tJoin { cyc := 3, join := some (tReqJ 0) } 0 0x81018000) (tReqJ 0) = ringVer (tJoin { cyc := 3, join := some (tReqJ 0) } 0 0x81018000))) ∧
    ((stnGoing (tJoin { cyc := 8, actA := some 8 } 0 0x41000000) = true) ∧
    ((tJoin { cyc := 8, actA := some 8 } 0 0x41000000).stn.verPend = none) ∧
    (ringVer (tJoin { cyc := 8, actA := some 8 } 0 0x41000000) = 1) ∧
    ((tJoin { cyc := 8, actA := some 8 } 0 0x41000000).stn.actA = some 8) ∧
    (cycReached (tJoin { cyc := 8, actA := some 8 } 0 0x41000000) 8 = true)) ∧
    ((stnGoing (tJoin { cyc := 8, actA := some 9 } 0 0x41000000) = true) ∧
    ((tJoin { cyc := 8, actA := some 9 } 0 0x41000000).stn.verPend = none) ∧
    (ringVer (tJoin { cyc := 8, actA := some 9 } 0 0x41000000) = 1) ∧
    ((tJoin { cyc := 8, actA := some 9 } 0 0x41000000).stn.actA = some 9) ∧
    (cycReached (tJoin { cyc := 8, actA := some 9 } 0 0x41000000) 9 = false)) ∧
    ((joinMaster (tJoin { cyc := 16 } 1 0x81000000) = some (1, 1)) ∧
    (stnGoing (tJoin { cyc := 16 } 1 0x81000000) = true) ∧
    (stnActs (tJoin { cyc := 16 } 1 0x81000000) = false) ∧
    ((1 : Nat) = stnNo (tJoin { cyc := 16 } 1 0x81000000)) ∧
    ((tJoin { cyc := 16 } 1 0x81000000).stn.seenM + 16 ≤ (tJoin { cyc := 16 } 1 0x81000000).stn.cyc)) ∧
    (((tJoin { cyc := 15 } 1 0x81000000).stn.cyc < (tJoin { cyc := 15 } 1 0x81000000).stn.seenM + 16)) ∧
    ((stnGoing (tStn { cyc := 64 }) = true) ∧
    (stnActs (tStn { cyc := 64 }) = false) ∧
    (stnState (tStn { cyc := 64 }) = 2) ∧
    ((tStn { cyc := 64 }).stn.seenA + 64 ≤ (tStn { cyc := 64 }).stn.cyc)) ∧
    (((tStn { cyc := 63 }).stn.cyc < (tStn { cyc := 63 }).stn.seenA + 64)) :=
  by and_intros <;> decide +kernel

/-- MODE 3, an enable without pins, one with them; a controller that does not run, in bus-off, stuck. -/
theorem test_meets_CanControllers_enable :
    ((fld (0xC00000 : Word) 22 2 = 3) ∧
    (fld (0x80000000 : Word) 22 2 ≠ 3) ∧
    ((0x80000000 : Word).getLsbD 31 = true) ∧
    (canPins tUp 19 = false) ∧
    (canLive tUp 19 = false) ∧
    ((tUp.can 19).state ≠ .busOff)) ∧
    (((0x80000000 : Word).getLsbD 31 = true) ∧
    (canPins (tCanFree.wr .canRamS 0xFFFF 19) 19 = true) ∧
    (canEnableBad (tCanFree.wr .canRamS 0xFFFF 19) 19 0x80000000 = true)) ∧
    ((canEnableBad tCanFree 19 0x80000000 = false) ∧
    (fld (0x80000000 : Word) 22 2 < 2) ∧
    ((tCanFree.rdA .canCtlS 19).getLsbD 31 = false) ∧
    (canBoth tCanFree 19 = true)) ∧
    ((((tCan { state := .busOff, recov := true } 0x80000000).can 19).state = .busOff) ∧
    (((tCan { state := .busOff, recov := true } 0x80000000).can 19).recov = true) ∧
    (((tCan { state := .busOff, recov := true } 0x80000000).can 19).dead = false) ∧
    (netsUp (tCan { state := .busOff, recov := true } 0x80000000) = true)) ∧
    ((canEn (tCan {} 0x80000000) 19 = true) ∧
    (netsUp (tCan {} 0x80000000) = true) ∧
    (((tCan {} 0x80000000).can 19).dead = false) ∧
    (((tCan {} 0x80000000).can 19).state ≠ .stuck) ∧
    (ardSearching (tCan {} 0x80000000) 19 = false)) ∧
    ((((tCan { state := .stuck } 0x80000000).can 19).state = .stuck) ∧
    (((tCan { state := .stuck } 0x80000000).can 19).dead = false) ∧
    (netsUp (tCan { state := .stuck } 0x80000000) = true)) ∧
    ((canLive (((tCan {} 0x80800000).wr .canArdNbt 0x10 19 15)) 19 = true) ∧
    (ardSearching (((tCan {} 0x80800000).wr .canArdNbt 0x10 19 15)) 19 = true) ∧
    (ardNext (((tCan {} 0x80800000).wr .canArdNbt 0x10 19 15)) 19 (15 - ((((tCan {} 0x80800000).wr .canArdNbt 0x10 19 15)).can 19).ard.1) (((((tCan {} 0x80800000).wr .canArdNbt 0x10 19 15)).can 19).ard.1 + 1) = some 15)) :=
  by and_intros <;> decide +kernel

/-- Frames that no filter takes, that are too long, that find the ring full and that are stored; an error frame. -/
theorem test_meets_CanControllers_receive :
    ((canLive (tCan {} 0x80000000) 19 = true) ∧
    (ardSearching (tCan {} 0x80000000) 19 = false) ∧
    (tCf.err = 0) ∧
    (tCf.fdf = false) ∧
    (canDecide (canRxGood 19 (tCan {} 0x80000000)) 19 tCf = none) ∧
    (({ tCf with err := 7 } : CanFrame).err ≠ 0) ∧
    (canMode (tCan {} 0x80000000) 19 = 0) ∧
    (((tCan {} 0x80000000).can 19).state = .active) ∧
    (((tCan {} 0x80000000).can 19).reCnt < 127) ∧
    (((tCan {} 0x80000000).can 19).teCnt ≤ 127) ∧
    (tCf.inFlag = false) ∧
    (({ tCf with err := 7, inFlag := true } : CanFrame).inFlag = true) ∧
    (((tCan {} 0x80000000).can 19).reCnt < 120)) ∧
    ((((tCan {} 0x89000000).rdA .canCtlS 19).getLsbD 27 = true) ∧
    (canDecide (canRxGood 19 (tCan {} 0x89000000)) 19 tCf = some 0x1FF) ∧
    (canDs (fld ((tCan {} 0x89000000).rdA .canCtlS 19) 16 3) < (if isRemote true false then 0 else dlcLen true 9)) ∧
    ((if isRemote false false then 0 else dlcLen false 8) ≤ canDs (fld ((tCan {} 0x89000000).rdA .canCtlS 19) 16 3)) ∧
    (ringNext (canRxn (tCan {} 0x89000000) 19) ((tCan {} 0x89000000).can 19).put ≠ fld ((tCan {} 0x89000000).rd .canRxget 19) 0 8)) ∧
    ((ringNext (canRxn (tCan { put := 1 } 0x89000000) 19) ((tCan { put := 1 } 0x89000000).can 19).put = fld ((tCan { put := 1 } 0x89000000).rd .canRxget 19) 0 8)) :=
  by and_intros <;> decide +kernel

/-- Head elements that fit and that do not, with SINGLE and without, at the limits of the counts; an empty ring; RXGET and TXPUT in and out of range by owner and stranger. -/
theorem test_meets_CanControllers_send :
    ((canLive ((tCan { reCnt := 127, teCnt := 119 } 0x80000000).wr .canTxput 1 19) 19 = true) ∧
    (canMode ((tCan { reCnt := 127, teCnt := 119 } 0x80000000).wr .canTxput 1 19) 19 = 0) ∧
    (fld (((tCan { reCnt := 127, teCnt := 119 } 0x80000000).wr .canTxput 1 19).rd .canTxhead 19) 0 8 ≠ canLimit ((tCan { reCnt := 127, teCnt := 119 } 0x80000000).wr .canTxput 1 19) 19) ∧
    (canBadElem ((tCan { reCnt := 127, teCnt := 119 } 0x80000000).wr .canTxput 1 19) 19 (canHead ((tCan { reCnt := 127, teCnt := 119 } 0x80000000).wr .canTxput 1 19) 19) = false) ∧
    ((canHead ((tCan { reCnt := 127, teCnt := 119 } 0x80000000).wr .canTxput 1 19) 19).2.getLsbD 0 = false) ∧
    ((((tCan { reCnt := 127, teCnt := 119 } 0x80000000).wr .canTxput 1 19).can 19).state = .active) ∧
    ((((tCan { reCnt := 127, teCnt := 119 } 0x80000000).wr .canTxput 1 19).can 19).reCnt ≤ 127) ∧
    ((((tCan { reCnt := 127, teCnt := 119 } 0x80000000).wr .canTxput 1 19).can 19).teCnt ≤ 119) ∧
    ((((tCan { reCnt := 127, teCnt := 119 } 0x80000000).wr .canTxput 1 19).can 19).clash = none)) ∧
    ((canBadElem ((tCan { tx := [(1, 1)] } 0x80000000).wr .canTxput 1 19) 19 (canHead ((tCan { tx := [(1, 1)] } 0x80000000).wr .canTxput 1 19) 19) = false) ∧
    ((canHead ((tCan { tx := [(1, 1)] } 0x80000000).wr .canTxput 1 19) 19).2.getLsbD 0 = true)) ∧
    ((canLive ((tCan { tx := [(1, 0x80000000)] } 0x80000000).wr .canTxput 1 19) 19 = true) ∧
    (canMode ((tCan { tx := [(1, 0x80000000)] } 0x80000000).wr .canTxput 1 19) 19 = 0) ∧
    (canBadElem ((tCan { tx := [(1, 0x80000000)] } 0x80000000).wr .canTxput 1 19) 19 (canHead ((tCan { tx := [(1, 0x80000000)] } 0x80000000).wr .canTxput 1 19) 19) = true)) ∧
    ((fld ((tCan {} 0x80000000).rd .canTxhead 19) 0 8 = canLimit (tCan {} 0x80000000) 19) ∧
    ((5 : Part) ≠ 0) ∧
    (canOwner (tCan {} 0x80000000) 19 ≠ some 5) ∧
    (fld (1 : Word) 0 8 < canRxn (tCan {} 0x80000000) 19) ∧
    (canRxn (tCan {} 0x80000000) 19 ≤ fld (2 : Word) 0 8) ∧
    (canTxn (tCan {} 0x80000000) 19 ≤ fld (2 : Word) 0 8) ∧
    (fld (1 : Word) 0 8 < canTxn (tCan {} 0x80000000) 19) ∧
    (fld (0 : Word) 0 8 = fld ((tCan {} 0x80000000).rd .canTxput 19) 0 8)) ∧
    ((fld (0 : Word) 0 8 ≠ fld (((tCan {} 0x80000000).wr .canTxput 1 19).rd .canTxput 19) 0 8) ∧
    (fld (0 : Word) 0 8 = fld (((tCan {} 0x80000000).wr .canTxput 1 19).rd .canTxhead 19) 0 8) ∧
    (fld (1 : Word) 0 8 = fld (((tCan {} 0x80000000).wr .canTxput 1 19).rd .canTxput 19) 0 8)) ∧
    ((canOwner (tUp.wr .canOwn 0x80000005 19) 19 = some 5)) :=
  by and_intros <;> decide +kernel

/-- An empty FIFO and one of two stamps for both readers, and an accepted edge on a wake channel. -/
theorem test_meets_EdgeStampFifoReads :
    ((State.reset.dio.lostL = false) ∧
    (debugReads State.reset 0x6000800010 = true) ∧
    (State.reset.dio.fifo = [])) ∧
    ((({ State.reset with dio := { fifo := [⟨95, true, 100, 3⟩, ⟨0, false, 200, 0⟩] } } : State).dio.lostL = false) ∧
    (({ State.reset with dio := { fifo := [⟨95, true, 100, 3⟩, ⟨0, false, 200, 0⟩] } } : State).dio.fifo = ⟨95, true, 100, 3⟩ :: [⟨0, false, 200, 0⟩]) ∧
    ((⟨95, true, 100, 3⟩ : EdgeStamp).ch < 96)) ∧
    (((((tUp.setDi 95 { raw := true }).wrA .dioDiCfgS 0xA0000000 95).rdA .dioDiCfgS 95).getLsbD 31 = true) ∧
    ((((tUp.setDi 95 { raw := true }).wrA .dioDiCfgS 0xA0000000 95).rdA .dioDiCfgS 95).getLsbD 29 = true) ∧
    ((((tUp.setDi 95 { raw := true }).wrA .dioDiCfgS 0xA0000000 95).di 95).raw ≠ (((tUp.setDi 95 { raw := true }).wrA .dioDiCfgS 0xA0000000 95).di 95).filt) ∧
    (diMasked ((tUp.setDi 95 { raw := true }).wrA .dioDiCfgS 0xA0000000 95) (((tUp.setDi 95 { raw := true }).wrA .dioDiCfgS 0xA0000000 95).di 95) = false) ∧
    (tbHeld ((tUp.setDi 95 { raw := true }).wrA .dioDiCfgS 0xA0000000 95) = false)) :=
  by and_intros <;> decide +kernel

/-- Raw changes, acceptance with TTEN, with stamps into a FIFO with and without room; pulses and checks of own and other sources; DIACK before and after a passed check. -/
theorem test_meets_FieldInputs :
    ((((tDi {} 0).di 95).raw = false) ∧
    (((tDi {} 0).di 95).raw ≠ true) ∧
    (((tDi {} 0).rdA .dioDiCfgS 95).getLsbD 31 = false) ∧
    (pulseHolder (tDi {} 0) 7 = none) ∧
    ((tDi {} 0).dio.pulses.getLsbD 7 = false) ∧
    ((tDi {} 0).dio.lostL = false) ∧
    ((0x8000005F : Word).getLsbD 31 = true) ∧
    (fld (0x8000005F : Word) 0 7 = 95) ∧
    (((tDi {} 0).di 95).ownOk = false)) ∧
    ((((tDi { raw := true, ownOk := true } 0x80000000).rdA .dioDiCfgS 95).getLsbD 31 = true) ∧
    (((tDi { raw := true, ownOk := true } 0x80000000).di 95).raw ≠ ((tDi { raw := true, ownOk := true } 0x80000000).di 95).filt) ∧
    (diMasked (tDi { raw := true, ownOk := true } 0x80000000) ((tDi { raw := true, ownOk := true } 0x80000000).di 95) = false) ∧
    (tbHeld (tDi { raw := true, ownOk := true } 0x80000000) = false) ∧
    (((tDi { raw := true, ownOk := true } 0x80000000).rdA .dioDiCfgS 95).getLsbD 29 = false) ∧
    (fld ((tDi { raw := true, ownOk := true } 0x80000000).rdA .dioDiCfgS 95) 16 2 = 0) ∧
    (((tDi { raw := true, ownOk := true } 0x80000000).rdA .dioDiCfgS 95).getLsbD 28 = false) ∧
    (((tDi { raw := true, ownOk := true } 0x80000000).di 95).ownOk = true)) ∧
    ((fld ((tDi { raw := true } 0x90000000).rdA .dioDiCfgS 95) 16 2 = 0) ∧
    (((tDi { raw := true } 0x90000000).rdA .dioDiCfgS 95).getLsbD 28 = true)) ∧
    ((((tDi { raw := true } 0x90010000).rdA .dioDiCfgS 95).getLsbD 28 = true) ∧
    (fld ((tDi { raw := true } 0x90010000).rdA .dioDiCfgS 95) 16 2 = (if ((tDi { raw := true } 0x90010000).di 95).raw then 1 else 2)) ∧
    (((tDi { raw := true } 0x90010000).rdA .dioDiCfgS 95).getLsbD 29 = false) ∧
    ((tDi { raw := true } 0x90010000).dio.fifo.length < 4096)) ∧
    ((((tDiF { raw := true } 0x90030000 (fun f => { f with fifo := List.replicate 4096 ⟨0, true, 0, 0⟩ })).rdA .dioDiCfgS 95).getLsbD 31 = true) ∧
    (((tDiF { raw := true } 0x90030000 (fun f => { f with fifo := List.replicate 4096 ⟨0, true, 0, 0⟩ })).di 95).raw ≠ ((tDiF { raw := true } 0x90030000 (fun f => { f with fifo := List.replicate 4096 ⟨0, true, 0, 0⟩ })).di 95).filt) ∧
    (diMasked (tDiF { raw := true } 0x90030000 (fun f => { f with fifo := List.replicate 4096 ⟨0, true, 0, 0⟩ })) ((tDiF { raw := true } 0x90030000 (fun f => { f with fifo := List.replicate 4096 ⟨0, true, 0, 0⟩ })).di 95) = false) ∧
    (tbHeld (tDiF { raw := true } 0x90030000 (fun f => { f with fifo := List.replicate 4096 ⟨0, true, 0, 0⟩ })) = false) ∧
    (((tDiF { raw := true } 0x90030000 (fun f => { f with fifo := List.replicate 4096 ⟨0, true, 0, 0⟩ })).rdA .dioDiCfgS 95).getLsbD 29 = false) ∧
    (((tDiF { raw := true } 0x90030000 (fun f => { f with fifo := List.replicate 4096 ⟨0, true, 0, 0⟩ })).rdA .dioDiCfgS 95).getLsbD 28 = true) ∧
    (fld ((tDiF { raw := true } 0x90030000 (fun f => { f with fifo := List.replicate 4096 ⟨0, true, 0, 0⟩ })).rdA .dioDiCfgS 95) 16 2 = 3) ∧
    (4096 ≤ (tDiF { raw := true } 0x90030000 (fun f => { f with fifo := List.replicate 4096 ⟨0, true, 0, 0⟩ })).dio.fifo.length)) ∧
    ((pulseHolder ((tDo {} 0xC01C0000).wrA .dioDiCfgS 0x80780000 95) 7 ≠ none) ∧
    (((tDo {} 0xC01C0000).wrA .dioDiCfgS 0x80780000 95).dio.vfdi = true) ∧
    (((tDo {} 0xC01C0000).wrA .dioDiCfgS 0x80780000 95).dio.cfgd = true) ∧
    (((tDo {} 0xC01C0000).wrA .dioDiCfgS 0x80780000 95).dio.pulses.getLsbD 7 ≠ true) ∧
    ((((tDo {} 0xC01C0000).wrA .dioDiCfgS 0x80780000 95).rdA .dioDiCfgS 95).getLsbD 31 = true) ∧
    ((((tDo {} 0xC01C0000).wrA .dioDiCfgS 0x80780000 95).rdA .dioDiCfgS 95).getLsbD 19 = true) ∧
    (fld (((tDo {} 0xC01C0000).wrA .dioDiCfgS 0x80780000 95).rdA .dioDiCfgS 95) 20 3 = 7)) ∧
    ((pulseHolder ((tDo {} 0xC01C0000).wrA .dioDiCfgS 0x80680000 95) 7 ≠ none) ∧
    (((tDo {} 0xC01C0000).wrA .dioDiCfgS 0x80680000 95).dio.pulses.getLsbD 7 ≠ true) ∧
    ((((tDo {} 0xC01C0000).wrA .dioDiCfgS 0x80680000 95).rdA .dioDiCfgS 95).getLsbD 31 = true) ∧
    ((((tDo {} 0xC01C0000).wrA .dioDiCfgS 0x80680000 95).rdA .dioDiCfgS 95).getLsbD 19 = true) ∧
    (fld (((tDo {} 0xC01C0000).wrA .dioDiCfgS 0x80680000 95).rdA .dioDiCfgS 95) 20 3 ≠ 7)) ∧
    ((pulseHolder ({ (tDo {} 0xC01C0000).wrA .dioDiCfgS 0x80780000 95 with dio := { (tDo {} 0xC01C0000).dio with pulses := 0x80 } } : State) 7 ≠ none) ∧
    (({ (tDo {} 0xC01C0000).wrA .dioDiCfgS 0x80780000 95 with dio := { (tDo {} 0xC01C0000).dio with pulses := 0x80 } } : State).dio.vfdi = true) ∧
    (({ (tDo {} 0xC01C0000).wrA .dioDiCfgS 0x80780000 95 with dio := { (tDo {} 0xC01C0000).dio with pulses := 0x80 } } : State).dio.cfgd = true) ∧
    (({ (tDo {} 0xC01C0000).wrA .dioDiCfgS 0x80780000 95 with dio := { (tDo {} 0xC01C0000).dio with pulses := 0x80 } } : State).dio.pulses.getLsbD 7 ≠ false) ∧
    (fld (({ (tDo {} 0xC01C0000).wrA .dioDiCfgS 0x80780000 95 with dio := { (tDo {} 0xC01C0000).dio with pulses := 0x80 } } : State).rdA .dioDiCfgS 95) 20 3 = 7)) ∧
    (((tDiF { raw := true } 0x80780000 (fun f => { f with pulses := 0x80 })).dio.pulses.getLsbD 7 = true) ∧
    (((tDiF { raw := true } 0x80780000 (fun f => { f with pulses := 0x80 })).rdA .dioDiCfgS 95).getLsbD 31 = true) ∧
    (((tDiF { raw := true } 0x80780000 (fun f => { f with pulses := 0x80 })).rdA .dioDiCfgS 95).getLsbD 19 = true) ∧
    (fld ((tDiF { raw := true } 0x80780000 (fun f => { f with pulses := 0x80 })).rdA .dioDiCfgS 95) 20 3 = 7) ∧
    (((tDiF { raw := true } 0x80780000 (fun f => { f with pulses := 0x80 })).di 95).raw = true)) ∧
    (((tDiF { wasOn := 0x80 } 0x80680000 (fun f => { f with pulses := 0x80 })).dio.pulses.getLsbD 7 = true) ∧
    (((tDiF { wasOn := 0x80 } 0x80680000 (fun f => { f with pulses := 0x80 })).rdA .dioDiCfgS 95).getLsbD 31 = true) ∧
    (((tDiF { wasOn := 0x80 } 0x80680000 (fun f => { f with pulses := 0x80 })).rdA .dioDiCfgS 95).getLsbD 19 = true) ∧
    (fld ((tDiF { wasOn := 0x80 } 0x80680000 (fun f => { f with pulses := 0x80 })).rdA .dioDiCfgS 95) 20 3 ≠ 7)) ∧
    ((({ tUp with dio := { lostL := true } } : State).dio.lostL = true)) :=
  by and_intros <;> decide +kernel

/-- Pulses and minimum intervals; an output that is on and off, in limiting, with OPEN and EXTV; recoveries with AUTOCLR and without; supplies up and down. -/
theorem test_meets_FieldOutputs :
    ((((tDo { pulse := true } 0x80000000).dout 63).pulse = true) ∧
    (doPushPull (tDo { pulse := true } 0x80000000) 63 = false) ∧
    (((tDo { pulse := true } 0x80000000).dout 63).busy = false)) ∧
    ((((tDo { pulse := true, drive := true, fsafe := false } 0xB0000064).dout 63).pulse = true) ∧
    (doPushPull (tDo { pulse := true, drive := true, fsafe := false } 0xB0000064) 63 = true) ∧
    (dieLead (tDo { pulse := true, drive := true, fsafe := false } 0xB0000064) 63 = 63) ∧
    (isForceLamp (tDo { pulse := true, drive := true, fsafe := false } 0xB0000064) 63 = false) ∧
    (((tDo { pulse := true, drive := true, fsafe := false } 0xB0000064).dout 63).fsafe = false) ∧
    (doLevel (tDo { pulse := true, drive := true, fsafe := false } 0xB0000064) 63 = true) ∧
    (fld ((tDo { pulse := true, drive := true, fsafe := false } 0xB0000064).die .dioDoCfgS 63) 0 7 * 500 ≠ 0)) ∧
    ((((tDo { busy := true, wait := some false } 0x80000000).dout 63).busy = true) ∧
    (((tDo { busy := true, wait := some false } 0x80000000).dout 63).wait = some false) ∧
    (fld ((tDo { busy := true, wait := some false } 0x80000000).rdA .dioDoPulseS 63) 0 16 = 0) ∧
    ((false : Bool) = ((tDo { busy := true, wait := some false } 0x80000000).dout 63).drive)) ∧
    (((((tDo { busy := true, wait := some true } 0x80000000).wrA .dioDoPulseS 1 63).dout 63).busy = true) ∧
    ((((tDo { busy := true, wait := some true } 0x80000000).wrA .dioDoPulseS 1 63).dout 63).wait = some true) ∧
    (fld (((tDo { busy := true, wait := some true } 0x80000000).wrA .dioDoPulseS 1 63).rdA .dioDoPulseS 63) 0 16 ≠ 0)) ∧
    ((((tDo { busy := true, wait := some true } 0x80000000).dout 63).pulse = false) ∧
    (((tDo { busy := true, wait := some true } 0x80000000).dout 63).busy = true) ∧
    (((tDo { busy := true, wait := some true } 0x80000000).dout 63).wait = some true) ∧
    (fld ((tDo { busy := true, wait := some true } 0x80000000).rdA .dioDoPulseS 63) 0 16 = 0) ∧
    ((true : Bool) ≠ ((tDo { busy := true, wait := some true } 0x80000000).dout 63).drive)) ∧
    ((((tDo { busy := true, drive := true, fsafe := false } 0x80020000).dout 63).wait = none) ∧
    (doOn (tDo { busy := true, drive := true, fsafe := false } 0x80020000) 63 = true) ∧
    (((tDo { busy := true, drive := true, fsafe := false } 0x80020000).dout (doLead (tDo { busy := true, drive := true, fsafe := false } 0x80020000) 63)).limit = false) ∧
    (((tDo { busy := true, drive := true, fsafe := false } 0x80020000).rdA .dioDoCfgS (doLead (tDo { busy := true, drive := true, fsafe := false } 0x80020000) 63)).getLsbD 17 = true)) ∧
    ((((tDo { limit := true, opn := true, extv := true } 0x80000000).dout (doLead (tDo { limit := true, opn := true, extv := true } 0x80000000) 63)).limit = true) ∧
    (((tDo { limit := true, opn := true, extv := true } 0x80000000).dout (doLead (tDo { limit := true, opn := true, extv := true } 0x80000000) 63)).opn = true) ∧
    (((tDo { limit := true, opn := true, extv := true } 0x80000000).dout (doLead (tDo { limit := true, opn := true, extv := true } 0x80000000) 63)).extv = true) ∧
    (doOn (tDo { limit := true, opn := true, extv := true } 0x80000000) 63 = false)) ∧
    (((((tDo { ovld := true, sawOff := true } 0x80000000).wrA .dioCtlS 0).dout (doLead ((tDo { ovld := true, sawOff := true } 0x80000000).wrA .dioCtlS 0) 63)).off = true) ∧
    (fld (((tDo { ovld := true, sawOff := true } 0x80000000).wrA .dioCtlS 0).rdA .dioCtlS) 16 8 = 0) ∧
    ((((tDo { ovld := true, sawOff := true } 0x80000000).wrA .dioCtlS 0).dout (doLead ((tDo { ovld := true, sawOff := true } 0x80000000).wrA .dioCtlS 0) 63)).sawOff = true)) ∧
    ((fld (((tDo { ovld := true, cmd := true } 0x80000000).wrA .dioCtlS 0x10000).rdA .dioCtlS) 16 8 ≠ 0) ∧
    ((((tDo { ovld := true, cmd := true } 0x80000000).wrA .dioCtlS 0x10000).dout (doLead ((tDo { ovld := true, cmd := true } 0x80000000).wrA .dioCtlS 0x10000) 63)).cmd = true) ∧
    ((((tDo { ovld := true, cmd := true } 0x80000000).wrA .dioCtlS 0x10000).dout (doLead ((tDo { ovld := true, cmd := true } 0x80000000).wrA .dioCtlS 0x10000) 63)).off = true) ∧
    (((tDo { ovld := true, cmd := true } 0x80000000).wrA .dioCtlS 0x10000).dio.vfld.getLsbD 7 = true) ∧
    (((tDo { ovld := true, cmd := true } 0x80000000).wrA .dioCtlS 0x10000).dio.kept = []) ∧
    (fld (((tDo { ovld := true, cmd := true } 0x80000000).wrA .dioCtlS 0x10000).rdA .dioDoCfgS (doLead ((tDo { ovld := true, cmd := true } 0x80000000).wrA .dioCtlS 0x10000) 63)) 28 3 ≠ 4) ∧
    ((63 : Fin 64).val / 8 = (7 : Fin 8).val) ∧
    (((tDo { ovld := true, cmd := true } 0x80000000).wrA .dioCtlS 0x10000).dio.vfdi = true)) ∧
    ((({ tUp with dio := { vfdi := false, vfld := 0 } } : State).dio.vfdi = false) ∧
    (({ tUp with dio := { vfdi := false, vfld := 0 } } : State).dio.vfld.getLsbD 7 = false)) :=
  by and_intros <;> decide +kernel

/-- The watchdog running and not, REARM with a cause and without, commits to a die that is lost, in the safe state and out of it, and START. -/
theorem test_meets_FieldSafeState :
    ((({ tUp with dio := { wdg := true, cfgd := true, cmdSafe := false, offSafe := false } } : State).dio.wdg = true) ∧
    (({ tUp with dio := { wdg := true, cfgd := true, cmdSafe := false, offSafe := false } } : State).dio.lostL = false) ∧
    (fieldCauses ({ tUp with dio := { wdg := true, cfgd := true, cmdSafe := false, offSafe := false } } : State) = [])) ∧
    ((tUp.dio.wdg = false) ∧
    (tUp.dio.lostL = false) ∧
    (fieldCauses tUp ≠ []) ∧
    (tUp.dio.lostF = true ∨ tUp.dio.cfgd = false) ∧
    (tUp.schEn = false ∨ tUp.dio.lostF = true)) ∧
    (((((tDo { cmd := true } 0x84000000).wrA .dioDoMapS 0x80000007 63).setPart 7 { safe := true }).dio.lostF = false) ∧
    ((((tDo { cmd := true } 0x84000000).wrA .dioDoMapS 0x80000007 63).setPart 7 { safe := true }).dio.cfgd = true) ∧
    (63 ∈ doLeads (((tDo { cmd := true } 0x84000000).wrA .dioDoMapS 0x80000007 63).setPart 7 { safe := true }) 7) ∧
    ((((tDo { cmd := true } 0x84000000).wrA .dioDoMapS 0x80000007 63).setPart 7 { safe := true }).dio.fsafe = false) ∧
    (((((tDo { cmd := true } 0x84000000).wrA .dioDoMapS 0x80000007 63).setPart 7 { safe := true }).part 7).safe = true)) ∧
    ((((tDo { cmd := true } 0x84000000).wrA .dioDoMapS 0x80000007 63).dio.lostF = false) ∧
    (((tDo { cmd := true } 0x84000000).wrA .dioDoMapS 0x80000007 63).dio.cfgd = true) ∧
    (62 ∉ doLeads ((tDo { cmd := true } 0x84000000).wrA .dioDoMapS 0x80000007 63) 7)) ∧
    ((({ (tDo { cmd := true } 0x84000000).wrA .dioDoMapS 0x80000007 63 with dio := { (tDo { cmd := true } 0x84000000).dio with fsafe := true } } : State).dio.lostF = false) ∧
    (({ (tDo { cmd := true } 0x84000000).wrA .dioDoMapS 0x80000007 63 with dio := { (tDo { cmd := true } 0x84000000).dio with fsafe := true } } : State).dio.cfgd = true) ∧
    (({ (tDo { cmd := true } 0x84000000).wrA .dioDoMapS 0x80000007 63 with dio := { (tDo { cmd := true } 0x84000000).dio with fsafe := true } } : State).dio.fsafe = true) ∧
    (63 ∈ doLeads ({ (tDo { cmd := true } 0x84000000).wrA .dioDoMapS 0x80000007 63 with dio := { (tDo { cmd := true } 0x84000000).dio with fsafe := true } } : State) 7)) ∧
    ((63 ∈ doLeads (((tDo { cmd := true } 0x84000000).wrA .dioDoMapS 0x80000007 63).setPart 7 { safe := false }) 7) ∧
    ((((tDo { cmd := true } 0x84000000).wrA .dioDoMapS 0x80000007 63).setPart 7 { safe := false }).dio.fsafe = false) ∧
    (((((tDo { cmd := true } 0x84000000).wrA .dioDoMapS 0x80000007 63).setPart 7 { safe := false }).part 7).safe = false) ∧
    (((((tDo { cmd := true } 0x84000000).wrA .dioDoMapS 0x80000007 63).setPart 7 { safe := false }).rdA .dioDoCfgS 63).getLsbD 26 = true)) ∧
    ((({ tUp with dio := { cfgd := true, fsafe := true } } : State).dio.lostF = false) ∧
    (({ tUp with dio := { cfgd := true, fsafe := true } } : State).dio.cfgd = true) ∧
    (({ tUp with dio := { cfgd := true, fsafe := true } } : State).dio.fsafe = true)) ∧
    (((tUp.wr .schCtl 1).schEn = true) ∧
    ((tUp.wr .schCtl 1).dio.lostF = false)) :=
  by and_intros <;> decide +kernel

/-- A settling channel; an input with limiting, open, on retry and with MISWIRE; an output with and without COMPL; a trim with its buttons. -/
theorem test_meets_LoopChannels :
    ((((tLoop { settle := true } 0x80000000).loop 31).settle = true)) ∧
    ((((tLoop {} 0x80000000).loop 31).settle = false) ∧
    (alpInput (tLoop {} 0x80000000) 31 = true) ∧
    (((tLoop {} 0x80000000).loop 31).opn = false) ∧
    (((tLoop {} 0x80000000).loop 31).limit = false) ∧
    (((tLoop {} 0x80000000).loop 31).retry = none)) ∧
    ((alpInput (tLoop { opn := true, miswire := true } 0) 31 = false) ∧
    (((tLoop { opn := true, miswire := true } 0).loop 31).opn = true) ∧
    (((tLoop { opn := true, miswire := true } 0).loop 31).miswire = true) ∧
    (((tLoop { opn := true, miswire := true } 0).loop 31).settle = false)) ∧
    ((((tLoop { limit := true, opens := 255 } 0x80000000).loop 31).limit = true) ∧
    (((tLoop { limit := true, opens := 255 } 0x80000000).loop 31).opn = false) ∧
    (((tLoop { limit := true, opens := 255 } 0x80000000).loop 31).hart = .idle) ∧
    (((tLoop { limit := true, opens := 255 } 0x80000000).loop 31).retry = none)) ∧
    ((((tLoop { limit := true, retry := some 0, miswire := true, hart := .sending } 0x80000000).loop 31).limit = true) ∧
    (((tLoop { limit := true, retry := some 0, miswire := true, hart := .sending } 0x80000000).loop 31).opn = false) ∧
    (((tLoop { limit := true, retry := some 0, miswire := true, hart := .sending } 0x80000000).loop 31).retry ≠ none) ∧
    (((tLoop { limit := true, retry := some 0, miswire := true, hart := .sending } 0x80000000).loop 31).hart ≠ .idle)) ∧
    ((((tLoop { retry := some 0, miswire := true } 0x80000000).loop 31).miswire = true) ∧
    (((tLoop { retry := some 0, miswire := true } 0x80000000).loop 31).retry ≠ none) ∧
    (((tLoop { retry := some 0, miswire := true } 0x80000000).loop 31).opn = false) ∧
    (((tLoop { retry := some 0, miswire := true } 0x80000000).loop 31).limit = false)) ∧
    ((alpOutEn ((tLoop {} 0xC0000000).wrA .alpCRbposS 0x80000000 31) 31 = true) ∧
    ((((tLoop {} 0xC0000000).wrA .alpCRbposS 0x80000000 31).loop 31).compl = false) ∧
    ((((tLoop {} 0xC0000000).wrA .alpCRbposS 0x80000000 31).rdA .alpCRbposS 31).getLsbD 31 = true) ∧
    ((((tLoop {} 0xC0000000).wrA .alpCRbposS 0x80000000 31).loop 31).outerr = false)) ∧
    ((((tLoop { compl := true, outerr := true } 0xC0000000).loop 31).compl = true) ∧
    (((tLoop { compl := true, outerr := true } 0xC0000000).loop 31).outerr = true)) :=
  by and_intros <;> decide +kernel

/-- Buttons that are not assigned to ALP, service words in and out of rule, one button, both and none, and means at both ends of both limits and past them. -/
theorem test_meets_LoopTrim :
    ((buttonTaken tUp 0x9F000060 = some 96) ∧
    (buttonTaken tUp 0 = none) ∧
    (serviceBad tUp 0 = false) ∧
    ((tUp.rdA .alpTrimcfgS).getLsbD 31 = false) ∧
    (tUp.alp.trim = none)) ∧
    ((buttonTaken (tBtn.wrA .alpCCfgS 0xC0000000 31) 0x9F000100 = none) ∧
    (serviceBad (tBtn.wrA .alpCCfgS 0xC0000000 31) 0x9F000100 = true)) ∧
    ((((tUp.wrA .alpTrimcfgS 0x9F000100).rdA .alpTrimcfgS).getLsbD 31 = true) ∧
    (((tUp.wrA .alpTrimcfgS 0x9F000100).di (fld ((tUp.wrA .alpTrimcfgS 0x9F000100).rdA .alpTrimcfgS) 0 7)).filt = false) ∧
    ((tUp.wrA .alpTrimcfgS 0x9F000100).alp.trim = none)) ∧
    (((((tUp.wrA .alpTrimcfgS 0x9F000100).setDi 0 { filt := true }).rdA .alpTrimcfgS).getLsbD 31 = true) ∧
    ((((tUp.wrA .alpTrimcfgS 0x9F000100).setDi 0 { filt := true }).di (fld (((tUp.wrA .alpTrimcfgS 0x9F000100).setDi 0 { filt := true }).rdA .alpTrimcfgS) 0 7)).filt = true) ∧
    ((((tUp.wrA .alpTrimcfgS 0x9F000100).setDi 0 { filt := true }).di (fld (((tUp.wrA .alpTrimcfgS 0x9F000100).setDi 0 { filt := true }).rdA .alpTrimcfgS) 8 7)).filt = false) ∧
    (((tUp.wrA .alpTrimcfgS 0x9F000100).setDi 0 { filt := true }).alp.trim = none)) ∧
    ((((((tUp.wrA .alpTrimcfgS 0x9F000100).setDi 0 { filt := true }).setDi 1 { filt := true }).di (fld ((((tUp.wrA .alpTrimcfgS 0x9F000100).setDi 0 { filt := true }).setDi 1 { filt := true }).rdA .alpTrimcfgS) 0 7)).filt = true) ∧
    (((((tUp.wrA .alpTrimcfgS 0x9F000100).setDi 0 { filt := true }).setDi 1 { filt := true }).di (fld ((((tUp.wrA .alpTrimcfgS 0x9F000100).setDi 0 { filt := true }).setDi 1 { filt := true }).rdA .alpTrimcfgS) 8 7)).filt = true)) ∧
    (((({ tUp with alp := { trim := some true } } : State).wrA .alpTrimcfgS 0x9F000100).alp.trim = some true) ∧
    ((40000 : Nat) ≤ (38400 : BitVec 16).toNat + 1600) ∧
    ((41600 : BitVec 16).toNat ≤ 40000 + 1600) ∧
    (¬ ((40000 : Nat) ≤ (38399 : BitVec 16).toNat + 1600)) ∧
    (¬ ((41601 : BitVec 16).toNat ≤ 40000 + 1600)) ∧
    ((({ tUp with alp := { trim := some true } } : State).wrA .alpTrimcfgS 0x9F000100).rdA .alpCGainS (fld ((({ tUp with alp := { trim := some true } } : State).wrA .alpTrimcfgS 0x9F000100).rdA .alpTrimcfgS) 24 5) = 0x10000) ∧
    ((({ tUp with alp := { trim := some true } } : State).wrA .alpTrimcfgS 0x9F000100).rdA .alpCZeroS (fld ((({ tUp with alp := { trim := some true } } : State).wrA .alpTrimcfgS 0x9F000100).rdA .alpTrimcfgS) 24 5) = 0)) ∧
    ((({ tUp with alp := { trim := some false } } : State).alp.trim = some false) ∧
    ((8000 : Nat) ≤ (6400 : BitVec 16).toNat + 1600) ∧
    ((9600 : BitVec 16).toNat ≤ 8000 + 1600) ∧
    (¬ ((8000 : Nat) ≤ (6399 : BitVec 16).toNat + 1600)) ∧
    (¬ ((9601 : BitVec 16).toNat ≤ 8000 + 1600))) :=
  by and_intros <;> decide +kernel

/-- HART by the owner, by a stranger, refused and started, with a carrier and in each phase. -/
theorem test_meets_LoopHart :
    (((5 : Part) ≠ 0) ∧
    (alpOwner (tHart { fsafe := false } 0xA0000000) 31 ≠ some 5) ∧
    (alpOwner (tHart { fsafe := false } 0xA0000000) 31 = some 0) ∧
    (((tHart { fsafe := false } 0xA0000000).loop 31).hart = .idle) ∧
    (fld (0x80000001 : Word) 0 16 ≠ 0) ∧
    (fld (0x80000000 : Word) 0 16 = 0) ∧
    ((0x80000001 : Word).getLsbD 31 = true) ∧
    ((0x80000001 : Word).getLsbD 30 = false) ∧
    (hartRefused (tHart { fsafe := false } 0xA0000000) 31 false = false) ∧
    (hartRefused (tHart { fsafe := false } 0xA0000000) 31 true = false) ∧
    ((0xC0000001 : Word).getLsbD 30 = true) ∧
    ((partRead 0 ((tHart { fsafe := false } 0xA0000000).rd .alpHTxaddr 31).toNat (fld ((tHart { fsafe := false } 0xA0000000).rd .alpHTxlen 31) 0 9) ((tHart { fsafe := false } 0xA0000000).put .alpHCtl 0x80000001 31)).1 = .ok)) ∧
    (((({ tHart { fsafe := false } 0xA0000000 with poison := [0x100000 / 64] } : State).loop 31).hart = .idle) ∧
    (hartRefused ({ tHart { fsafe := false } 0xA0000000 with poison := [0x100000 / 64] } : State) 31 false = false) ∧
    ((partRead 0 (({ tHart { fsafe := false } 0xA0000000 with poison := [0x100000 / 64] } : State).rd .alpHTxaddr 31).toNat (fld (({ tHart { fsafe := false } 0xA0000000 with poison := [0x100000 / 64] } : State).rd .alpHTxlen 31) 0 9) (({ tHart { fsafe := false } 0xA0000000 with poison := [0x100000 / 64] } : State).put .alpHCtl 0x80000001 31)).1 ≠ .ok)) ∧
    ((((tLoop { hart := .receiving } 0xA0000000).loop 31).hart = .receiving) ∧
    (alpOwner (tLoop { hart := .receiving } 0xA0000000) 31 = none)) ∧
    ((((tHart { fsafe := true } 0xA0000000).loop 31).hart = .idle) ∧
    (hartRefused (tHart { fsafe := true } 0xA0000000) 31 false = true)) ∧
    ((((tHart { hart := .carrierWait } 0xA0000000).loop 31).hart ≠ .idle) ∧
    (((tHart { hart := .carrierWait } 0xA0000000).loop 31).hart = .carrierWait)) ∧
    ((((tHart { hart := .sending } 0xA0000000).loop 31).hart = .sending)) ∧
    ((((tHart { hart := .replyWait } 0xA0000000).loop 31).hart = .replyWait) ∧
    (((tHart { hart := .replyWait } 0xA0000000).loop 31).hart ≠ .receiving)) ∧
    ((((tHart { hart := .receiving } 0xA0000000).loop 31).hart = .receiving) ∧
    (alpOwner (tHart { hart := .receiving } 0xA0000000) 31 = some 0)) :=
  by and_intros <;> decide +kernel

/-- Each link state, with what the SSD answers, the networks up and down; commands with a wrong key, running and free. -/
theorem test_meets_StorageLinks :
    ((bootAt (tLink {}) 5 = false) ∧
    (((tLink {}).link 3).state = .off) ∧
    (((tLink {}).link 3).state ≠ .train) ∧
    (((tLink {}).link 3).state ≠ .init) ∧
    ((0x80000000 : Word).getLsbD 31 = true) ∧
    ((0 : Word).getLsbD 31 = false) ∧
    (((tLink {}).link 3).state ≠ .online) ∧
    ((tLink {}).sto.cmd = none) ∧
    ((tLink {}).sto.reads = []) ∧
    ((tLink {}).sto.vol = none)) ∧
    ((((tLink { state := .train }).link 3).state = .train) ∧
    (((tLink { state := .train }).link 3).state ≠ .off) ∧
    (netsUp (tLink { state := .train }) = true)) ∧
    (((({ tLink { state := .train } with clk := { tUp.clk with fallback := true } } : State).link 3).state = .train) ∧
    (netsUp ({ tLink { state := .train } with clk := { tUp.clk with fallback := true } } : State) = false)) ∧
    ((((tLink { state := .init }).link 3).state = .init) ∧
    (((tLink { state := .init }).link 3).state = .init ∨ ((tLink { state := .init }).link 3).state = .online)) ∧
    ((((tLink { state := .online, tmo := true }).link 3).state = .online) ∧
    (((tLink { state := .online, tmo := true }).link 3).tmo = true)) ∧
    ((((tLink { state := .online }).link 3).state = .online) ∧
    (((tLink { state := .online }).link 3).tmo = false)) ∧
    ((((tLink { state := .failed }).link 3).state ≠ .online)) ∧
    ((fld (0xC3000011 : Word) 24 8 = 0xC3) ∧
    (fld (0xC3000011 : Word) 0 2 = 1) ∧
    (fld (0xC3000002 : Word) 0 2 = 2) ∧
    (fld (0xC3000003 : Word) 0 2 = 3) ∧
    (fld (0xC2000000 : Word) 24 8 ≠ 0xC3) ∧
    (fld (0xC2000000 : Word) 0 2 = 0)) ∧
    ((({ ver14 := false, block4k := true, blocks := 10, otherError := false, cacheRefused := false, cachePresent := false } : SsdInfo).block4k = true) ∧
    (({ ver14 := false, block4k := true, blocks := 10, otherError := false, cacheRefused := false, cachePresent := false } : SsdInfo).ver14 = false)) :=
  by and_intros <;> decide +kernel

/-- MOUNT without and with a header, UNMOUNT without and with a volume, FORMAT without and with an ONLINE link. -/
theorem test_meets_StorageVolume :
    (((tSto (fun z => { z with cmd := some (1, false) }) []).sto.cmd = some (1, false)) ∧
    ((tSto (fun z => { z with cmd := some (1, false) }) []).sto.vol = none) ∧
    ((tSto (fun z => { z with cmd := some (1, false) }) []).sto.early = []) ∧
    (mountCheck false (tSto (fun z => { z with cmd := some (1, false) }) []) = (.crc, none)) ∧
    ((.crc : Status) ≠ .ok)) ∧
    (((tSto (fun z => { z with cmd := some (1, false), hdrs := [(3, tHdr)] }) []).sto.cmd = some (1, false)) ∧
    (mountCheck false (tSto (fun z => { z with cmd := some (1, false), hdrs := [(3, tHdr)] }) []) = (.ok, some tHdr))) ∧
    (((tSto (fun z => { z with cmd := some (2, false), vol := some tVol }) []).sto.cmd = some (2, false)) ∧
    ((tSto (fun z => { z with cmd := some (2, false), vol := some tVol }) []).sto.vol = some tVol) ∧
    ((List.range 4).all (fun k => !tVol.mask.getLsbD k || (tSto (fun z => { z with cmd := some (2, false), vol := some tVol }) []).online k) = true) ∧
    (tVol.mask.getLsbD 3 = true)) ∧
    (((tSto (fun z => { z with cmd := some (3, false) }) []).sto.cmd = some (3, false)) ∧
    ((tSto (fun z => { z with cmd := some (3, false) }) []).sto.early = []) ∧
    ((tSto (fun z => { z with cmd := some (3, false) }) []).onlineMask ≠ 0)) ∧
    (((tSto (fun z => { z with cmd := some (2, false) }) []).sto.cmd = some (2, false)) ∧
    ((tSto (fun z => { z with cmd := some (2, false) }) []).sto.vol = none)) ∧
    ((({ tUp with sto := { cmd := some (3, false) } } : State).onlineMask = 0)) :=
  by and_intros <;> decide +kernel

/-- A post with a code, a disabled stream, a reserved bit or 4097 bytes; one that is stored; one over its quota; one that finds the buffer full to the byte and past it. -/
theorem test_meets_StoragePosts :
    ((partRead 0 (((tPost id tPostD).wr .stoSCtl 0 0).rdB 0 .stoPostAddr).toNat 16 ((tPost id tPostD).wr .stoSCtl 0 0) = (.ok, tPostB, ((tPost id tPostD).wr .stoSCtl 0 0))) ∧
    ((((tPost id tPostD).wr .stoSCtl 0 0).rd .stoSCtl 0).getLsbD 31 = false) ∧
    ((postDesc tPostB).code.getLsbD 31 = false) ∧
    ((postDesc tPostB).rsv = false) ∧
    ((postDesc tPostB).noRep = true) ∧
    ((postDesc tPostB).len ≤ 4096) ∧
    (partRead 0 (postDesc tPostB).addr (postDesc tPostB).len ((tPost id tPostD).wr .stoSCtl 0 0) = (.ok, [0, 0, 0, 0], ((tPost id tPostD).wr .stoSCtl 0 0)))) ∧
    ((partRead 0 ((tPost id [(0x100304, 1), (0x100305, 16)]).rdB 0 .stoPostAddr).toNat 16 (tPost id [(0x100304, 1), (0x100305, 16)]) = (.ok, [0, 0, 0, 0, 1, 16, 0, 0] ++ List.replicate 8 0, (tPost id [(0x100304, 1), (0x100305, 16)]))) ∧
    ((postDesc ([0, 0, 0, 0, 1, 16, 0, 0] ++ List.replicate 8 0)).len = 4097)) ∧
    (((postDesc ([0, 0, 0, 128] ++ List.replicate 12 0)).code.getLsbD 31 = true)) ∧
    ((((tPost id tPostD).rd .stoSCtl 0).getLsbD 31 = true) ∧
    ((tPost id tPostD).quotaFull 0 (recSize 4) = false) ∧
    ((tPost id tPostD).sto.vol = some tVol) ∧
    (placeIn (tPost id tPostD).online (recSize 4) tVol.spans (tPost id tPostD).sto.endOff [] = some (0, [])) ∧
    (0 + recSize 4 - (tPost id tPostD).sto.fullOff ≤ bufSize)) ∧
    (((tPost (fun z => { z with streams := [(0, { used := 1048576 })] }) tPostD).quotaFull 0 (recSize 4) = true)) ∧
    ((placeIn (tPost (fun z => { z with endOff := 262080 }) tPostD).online (recSize 4) tVol.spans (tPost (fun z => { z with endOff := 262080 }) tPostD).sto.endOff [] = some (262080, [])) ∧
    (bufSize < 262080 + recSize 4 - (tPost (fun z => { z with endOff := 262080 }) tPostD).sto.fullOff)) :=
  by and_intros <;> decide +kernel

/-- Read jobs that pass and that are of no kind; completions with a status and with data; writes to a link; flush and header intervals. -/
theorem test_meets_StorageReads :
    ((partRead 0 (((tSto id tReadD).wrB 0 .stoRdAddr 0x40300).rdB 0 .stoRdAddr).toNat 32 ((tSto id tReadD).wrB 0 .stoRdAddr 0x40300) = (.ok, tReadB, ((tSto id tReadD).wrB 0 .stoRdAddr 0x40300))) ∧
    (readJobCheck 0 0x40300 (fld (BitVec.ofNat 32 (leNat (slice tReadB 0 4))) 28 4) (leNat (slice tReadB 4 8)) (leNat (slice tReadB 12 4)) (leNat (slice tReadB 16 4)) ((tSto id tReadD).wrB 0 .stoRdAddr 0x40300) = .ok) ∧
    (readJobCheck 0 0x40300 2 0 64 0x40100 ((tSto id tReadD).wrB 0 .stoRdAddr 0x40300) ≠ .ok)) ∧
    (((partRead 0 (((tSto id ((0x100303, 32) :: tReadD)).wrB 0 .stoRdAddr 0x40300).rdB 0 .stoRdAddr).toNat 32 ((tSto id ((0x100303, 32) :: tReadD)).wrB 0 .stoRdAddr 0x40300)).1 = .ok)) ∧
    (((tSto (fun z => { z with reads := [tRJob 1] }) []).sto.reads = tRJob 1 :: []) ∧
    ((readResult (tRJob 1) { (tSto (fun z => { z with reads := [tRJob 1] }) []) with sto := { (tSto (fun z => { z with reads := [tRJob 1] }) []).sto with reads := [] } }).1 ≠ .ok)) ∧
    (((readResult (tRJob 0) { (tSto (fun z => { z with reads := [tRJob 0], vol := some tVol, endOff := 4096, fullOff := 4096 }) []) with sto := { (tSto (fun z => { z with reads := [tRJob 0], vol := some tVol, endOff := 4096, fullOff := 4096 }) []).sto with reads := [] } }).1 = .ok) ∧
    ((partWrite 0 (tRJob 0).dst.toNat (readResult (tRJob 0) { (tSto (fun z => { z with reads := [tRJob 0], vol := some tVol, endOff := 4096, fullOff := 4096 }) []) with sto := { (tSto (fun z => { z with reads := [tRJob 0], vol := some tVol, endOff := 4096, fullOff := 4096 }) []).sto with reads := [] } }).2 (countReads (tRJob 0).off (readResult (tRJob 0) { (tSto (fun z => { z with reads := [tRJob 0], vol := some tVol, endOff := 4096, fullOff := 4096 }) []) with sto := { (tSto (fun z => { z with reads := [tRJob 0], vol := some tVol, endOff := 4096, fullOff := 4096 }) []).sto with reads := [] } }).2.length { (tSto (fun z => { z with reads := [tRJob 0], vol := some tVol, endOff := 4096, fullOff := 4096 }) []) with sto := { (tSto (fun z => { z with reads := [tRJob 0], vol := some tVol, endOff := 4096, fullOff := 4096 }) []).sto with reads := [] } })).1 = .ok)) ∧
    ((((tSto (fun z => { z with vol := some tVol, links := [(3, { state := .online, cmds := [.block 0] })] }) []).link 3).state = .online) ∧
    (((tSto (fun z => { z with vol := some tVol, links := [(3, { state := .online, cmds := [.block 0] })] }) []).link 3).cmds = .block 0 :: []) ∧
    ((tSto (fun z => { z with vol := some tVol, links := [(3, { state := .online, cmds := [.block 0] })] }) []).sto.vol = some tVol)) ∧
    ((((tSto (fun z => { z with vol := some tVol, links := [(3, { state := .online, cmds := [.tail 64] })] }) []).link 3).state = .online) ∧
    (((tSto (fun z => { z with vol := some tVol, links := [(3, { state := .online, cmds := [.tail 64] })] }) []).link 3).cmds = .tail 64 :: []) ∧
    ((tSto (fun z => { z with vol := some tVol, links := [(3, { state := .online, cmds := [.tail 64] })] }) []).sto.vol = some tVol)) ∧
    ((((tSto (fun z => { z with vol := some tVol, links := [(3, { state := .online, cmds := [.header] })] }) []).link 3).state = .online) ∧
    (((tSto (fun z => { z with vol := some tVol, links := [(3, { state := .online, cmds := [.header] })] }) []).link 3).cmds = .header :: []) ∧
    ((tSto (fun z => { z with vol := some tVol, links := [(3, { state := .online, cmds := [.header] })] }) []).sto.vol = some tVol)) ∧
    (((tSto (fun z => { z with vol := some tVol, endDirty := true, hdrDirty := true, endOff := 64 }) []).sto.vol = some tVol) ∧
    ((tSto (fun z => { z with vol := some tVol, endDirty := true, hdrDirty := true, endOff := 64 }) []).sto.endDirty = true) ∧
    ((tSto (fun z => { z with vol := some tVol, endDirty := true, hdrDirty := true, endOff := 64 }) []).sto.endOff % 4096 ≠ 0) ∧
    (tVol.linkAt ((tSto (fun z => { z with vol := some tVol, endDirty := true, hdrDirty := true, endOff := 64 }) []).sto.endOff - 1) = some 3) ∧
    ((tSto (fun z => { z with vol := some tVol, endDirty := true, hdrDirty := true, endOff := 64 }) []).online 3 = true) ∧
    ((tSto (fun z => { z with vol := some tVol, endDirty := true, hdrDirty := true, endOff := 64 }) []).sto.hdrDirty = true)) ∧
    (((tSto (fun z => { z with vol := some tVol }) []).sto.endDirty = false) ∧
    ((tSto (fun z => { z with vol := some tVol }) []).sto.hdrDirty = false)) :=
  by and_intros <;> decide +kernel

/-- A bridge that is off and one that takes accesses; the write queue at 30, 31 and 32 entries; reads new, waiting, ended, and with all eight entries taken; an assertion. -/
theorem test_meets_BrassBridge_queues :
    (((tUp.rd .brbCtl).getLsbD 31 = false) ∧
    (rackCheck 0 0 .b2 tUp = some .denied) ∧
    (tUp.brb.cyc = .none) ∧
    (tUp.pins.brst = false) ∧
    (rackEntry tUp 7 = none)) ∧
    ((((tBrb { wq := List.replicate 30 tRw }).rd .brbCtl).getLsbD 31 = true) ∧
    ((tBrb { wq := List.replicate 30 tRw }).brb.sem = none) ∧
    (rackCheck 0 0xFFFFFC .b4 (tBrb { wq := List.replicate 30 tRw }) = none) ∧
    ((tBrb { wq := List.replicate 30 tRw }).brb.wq.length ≤ 30) ∧
    ((tBrb { wq := List.replicate 30 tRw }).brb.rd.find? (fun e => e.2.req = 0x88 && e.2.addr = 0x10 && e.2.wide = decide (Size.b4 = .b4)) = none) ∧
    ((List.range 8).find? (fun j => (rackEntry (tBrb { wq := List.replicate 30 tRw }) j).isNone) = some 0)) ∧
    ((rackCheck 0 0 .b2 (tBrb { wq := List.replicate 31 tRw }) = none) ∧
    (30 < (tBrb { wq := List.replicate 31 tRw }).brb.wq.length) ∧
    ((tBrb { wq := List.replicate 31 tRw }).brb.wq.length ≤ 31)) ∧
    ((31 < (tBrb { wq := List.replicate 32 tRw }).brb.wq.length)) ∧
    (((List.range 8).find? (fun j => (rackEntry (tBrb { rd := (List.range 8).map (fun j => (j, { tRr .waiting [] with addr := 0x20 })) }) j).isNone) = none)) ∧
    (((tBrb { rd := [(7, tRr .waiting [])] }).brb.rd.find? (fun e => e.2.req = 0x88 && e.2.addr = 0x10 && e.2.wide = decide (Size.b4 = .b4)) = some (7, tRr .waiting [])) ∧
    (rackCheck 0 0x10 .b4 (tBrb { rd := [(7, tRr .waiting [])] }) = none)) ∧
    (((tBrb { rd := [(7, tRr (.ended .fault) [1, 2])] }).brb.rd.find? (fun e => e.2.req = 0x88 && e.2.addr = 0x10 && e.2.wide = decide (Size.b4 = .b4)) = some (7, tRr (.ended .fault) [1, 2])) ∧
    (rackEntry (tBrb { rd := [(7, tRr (.ended .fault) [1, 2])] }) 7 = some (tRr (.ended .fault) [1, 2]))) ∧
    (((tBrb {}).brb.irq.getLsbD 7 = false) ∧
    ((tBrb {}).brb.irq.getLsbD 7 ≠ true) ∧
    (fld (0 : Word) 8 8 = 0) ∧
    (fld (0x80001400 : Word) 8 8 ≠ 0)) ∧
    (((((tBrb {}).wrA .brbIrqCtlS 0xC0000000 7).rdA .brbIrqCtlS 7).getLsbD 31 = true) ∧
    ((((tBrb {}).wrA .brbIrqCtlS 0xC0000000 7).rdA .brbIrqCtlS 7).getLsbD 30 = true) ∧
    ((((tBrb {}).wrA .brbIrqCtlS 0xC0000000 7).rd .brbIrqStat 7).getLsbD 31 = false)) ∧
    ((((((tBrb {}).wr .brbIrqStat 0x80000000 7).wrA .brbIrqCtlS 0xC0000000 7).rd .brbIrqStat 7).getLsbD 31 = true)) :=
  by and_intros <;> decide +kernel

/-- A free bus with a half-done fetch, with a write, with nothing; a running write and both halves of a fetch; the semaphore free, own and held by another. -/
theorem test_meets_BrassBridge_cycles :
    (((tBrb { rd := [(7, tRr .fetching [1])] }).brb.cyc = .none) ∧
    ((tBrb { rd := [(7, tRr .fetching [1])] }).pins.brst = true) ∧
    ((tBrb { rd := [(7, tRr .fetching [1])] }).brb.rd.find? (fun e => e.2.state = .fetching) = some (7, tRr .fetching [1]))) ∧
    (((tBrb { wq := [tRw] }).brb.cyc = .none) ∧
    ((tBrb { wq := [tRw] }).brb.rd.find? (fun e => e.2.state = .fetching) = none) ∧
    ((tBrb { wq := [tRw] }).brb.wq = tRw :: [])) ∧
    (((tBrb { rd := [(7, tRr .waiting [])] }).brb.wq = []) ∧
    ((tBrb { rd := [(7, tRr .waiting [])] }).brb.rd.filter (fun e => e.2.state = .waiting) ≠ [])) ∧
    ((rackEntry (tBrb { cyc := .fetch (some 7), rd := [(7, { tRr .fetching [] with wide := false })] }) 7 = some { tRr .fetching [] with wide := false })) ∧
    (((tBrb {}).brb.rd.find? (fun e => e.2.state = .fetching) = none) ∧
    ((tBrb {}).brb.wq = []) ∧
    ((tBrb {}).brb.rd.filter (fun e => e.2.state = .waiting) = []) ∧
    ((tBrb {}).brb.sem = none)) ∧
    (((tBrb { cyc := .write, wq := [tRw] }).brb.cyc ≠ .none) ∧
    ((tBrb { cyc := .write, wq := [tRw] }).brb.cyc = .write) ∧
    ((tBrb { cyc := .write, wq := [tRw] }).brb.wq = tRw :: [])) ∧
    (((tBrb { cyc := .fetch (some 7), rd := [(7, tRr .fetching [1])] }).brb.cyc = .fetch (some 7)) ∧
    (rackEntry (tBrb { cyc := .fetch (some 7), rd := [(7, tRr .fetching [1])] }) 7 = some (tRr .fetching [1])) ∧
    ((tRr .fetching [1]).wide = true) ∧
    ((tRr .fetching [1]).got.length = 1)) ∧
    (((tBrb { sem := some ⟨7, 5⟩ }).brb.sem = some ⟨7, 5⟩) ∧
    ((⟨7, 5⟩ : Sem).slot = 7) ∧
    ((⟨7, 5⟩ : Sem).part = 5) ∧
    ((⟨7, 5⟩ : Sem).slot ≠ 6 ∨ (⟨7, 5⟩ : Sem).part ≠ 5)) :=
  by and_intros <;> decide +kernel

/-- FPROG with a wrong key, running, under PFAIL, for an unlisted, a locked and a free word, and for the second group while the scheduler runs; the end of a word. -/
theorem test_meets_Fuses :
    ((fld (0x95000000 : Word) 24 8 ≠ 0x96) ∧
    (fld (0x96000040 : Word) 24 8 = 0x96) ∧
    (tUp.fuses.prog = none) ∧
    (tUp.pins.pfail = false) ∧
    (fuseBits (fld (0x9600003C : Word) 0 7) = 0) ∧
    (fuseBits (fld (0x96000040 : Word) 0 7) ≠ 0) ∧
    (fld (0x96000040 : Word) 0 7 ≠ 0) ∧
    (sections.all (fun z => !z.has (fld (0x96000040 : Word) 0 7) || !sectionLocked tUp z) = true) ∧
    (tUp.schEn = false) ∧
    (64 ≤ fld (0x96000040 : Word) 0 7) ∧
    (fld (0x96000040 : Word) 0 7 ≤ 95) ∧
    ((5 : Part) ≠ 0) ∧
    ((0x68 : BitVec 8) ≠ 0x69) ∧
    ((0x80000000 : Word).getLsbD 31 = true) ∧
    ((tUp.fuse 0).getLsbD 19 = false)) ∧
    ((({ tUp with fuses := { prog := some (64, 6) } } : State).fuses.prog = some (64, 6)) ∧
    (({ tUp with fuses := { prog := some (64, 6) } } : State).sec.raising = none) ∧
    (({ tUp with fuses := { prog := some (64, 6) } } : State).sec.raise = []) ∧
    ((6 : Word) &&& 2 ≠ 6) ∧
    ((6 : Word) &&& 7 = 6)) ∧
    ((({ tUp with fuses := { prog := some (64, 6) }, sec := { raising := some 2 } } : State).sec.raising = some 2) ∧
    ((6 : Word) &&& 2 ≠ 6) ∧
    (({ tUp with fuses := { prog := some (64, 6) }, sec := { raising := some 2 } } : State).sec.raise = [])) ∧
    ((({ tUp with pins := { tUp.pins with pfail := true } } : State).pins.pfail = true)) ∧
    ((sections.any (fun z => z.has 2 && sectionLocked ({ tUp with fuses := { shadow := [(0, 0x10000)] } } : State) z) = true)) :=
  by and_intros <;> decide +kernel

/-- Blobs of a wrong type, with a wrapped key that does not verify, and with one that does. -/
theorem test_meets_KeyLoad :
    ((((tBlob 0 0).fuse 0).getLsbD 19 = true) ∧
    (partRead 0 ((tBlob 0 0).rd .secKladdr).toNat 48 (tBlob 0 0) = (.ok, (leBytes 8 0 ++ beBytes 40 0), (tBlob 0 0))) ∧
    (fld (BitVec.ofNat 32 (leNat ((leBytes 8 0 ++ beBytes 40 0).take 4))) 24 8 ≠ 1)) ∧
    ((partRead 0 ((tBlob 0x01000001 0).rd .secKladdr).toNat 48 (tBlob 0x01000001 0) = (.ok, (leBytes 8 0x01000001 ++ beBytes 40 0), (tBlob 0x01000001 0))) ∧
    (fld (BitVec.ofNat 32 (leNat ((leBytes 8 0x01000001 ++ beBytes 40 0).take 4))) 24 8 = 1) ∧
    (fld (BitVec.ofNat 32 (leNat ((leBytes 8 0x01000001 ++ beBytes 40 0).take 4))) 0 2 = fld ((tBlob 0x01000001 0).rd .sheKsCtl 0) 24 2) ∧
    (keyUnwrap (wordBytes (sectionWords (tBlob 0x01000001 0) ⟨19, 44, 51, 59⟩)) ((leBytes 8 0x01000001 ++ beBytes 40 0).drop 8) = none)) ∧
    ((partRead 0 ((tBlob 0x01000001 tWrapped).rd .secKladdr).toNat 48 (tBlob 0x01000001 tWrapped) = (.ok, (leBytes 8 0x01000001 ++ beBytes 40 tWrapped), (tBlob 0x01000001 tWrapped))) ∧
    (keyUnwrap (wordBytes (sectionWords (tBlob 0x01000001 tWrapped) ⟨19, 44, 51, 59⟩)) ((leBytes 8 0x01000001 ++ beBytes 40 tWrapped).drop 8) ≠ none)) :=
  by and_intros <;> decide +kernel

/-- Slots in use, empty, staged with and without its billets, links up and down, under PFAIL; MIRROR; a manifest that fails. -/
theorem test_meets_UpdateSlots :
    (((uComp (tSec {} [])) = 0) ∧
    ((uSlot (tSec {} [])) = 2) ∧
    ((uSlot (tSec {} [])) ≠ 3) ∧
    (((tSec {} []).slot 0 2).state.inUse = false) ∧
    ((tSec {} []).onlineMask ≠ 0) ∧
    (((tSec {} []).slot 0 2).state ≠ .staging) ∧
    (partRead 0 ((tSec {} []).rd .secUaddr).toNat 0x80 (tSec {} []) = (.ok, List.replicate 128 0, (tSec {} []))) ∧
    (partRead 0 ((tSec {} []).rd .secUaddr).toNat (0xC0 + 32 * min (manN (List.replicate 128 0)) 3584) (tSec {} []) = (.ok, List.replicate 192 0, (tSec {} []))) ∧
    (manCheck (tSec {} []) (uComp (tSec {} [])) (List.replicate 192 0) = .version) ∧
    ((.version : Status) ≠ .ok)) ∧
    ((((tSec { state := .active, links := 8 } []).slot 0 2).state.inUse = true) ∧
    ((List.range 12).all (fun j => ((tSec { state := .active, links := 8 } []).slot (j / 3) (j % 3)).state = .empty || ((tSec { state := .active, links := 8 } []).slot (j / 3) (j % 3)).state = .staging || ((tSec { state := .active, links := 8 } []).slot (j / 3) (j % 3)).links &&& (tSec { state := .active, links := 8 } []).onlineMask ≠ 0) = true)) ∧
    (((uSlot ((tSec {} []).wr .secUarg 0x03000000)) = 3)) ∧
    ((tSecOff.onlineMask = 0) ∧
    (uArg tSecOff ≤ 2 ^ 24 - 64)) ∧
    ((((tSec { state := .staging, man := tManif 1 [] } []).slot 0 2).state = .staging) ∧
    (missing ((tSec { state := .staging, man := tManif 1 [] } []).slot 0 2) ≠ []) ∧
    (uArg (tSec { state := .staging, man := tManif 1 [] } []) < manN ((tSec { state := .staging, man := tManif 1 [] } []).slot 0 2).man) ∧
    ((tSec { state := .staging, man := tManif 1 [] } []).pins.pfail = false) ∧
    ((tSec { state := .staging, man := tManif 1 [] } []).pwr.updHeld = false) ∧
    (partRead 0 ((tSec { state := .staging, man := tManif 1 [] } []).rd .secUaddr).toNat (billetLen ((tSec { state := .staging, man := tManif 1 [] } []).slot 0 2).man (uArg (tSec { state := .staging, man := tManif 1 [] } []))) (tSec { state := .staging, man := tManif 1 [] } []) = (.ok, [0], (tSec { state := .staging, man := tManif 1 [] } []))) ∧
    (sha256 [0] ≠ slice ((tSec { state := .staging, man := tManif 1 [] } []).slot 0 2).man (0x80 + 32 * uArg (tSec { state := .staging, man := tManif 1 [] } [])) 32)) ∧
    ((((tSec { state := .staging, man := tManif 0 [] } []).slot 0 2).state = .staging) ∧
    (missing ((tSec { state := .staging, man := tManif 0 [] } []).slot 0 2) = []) ∧
    (manN ((tSec { state := .staging, man := tManif 0 [] } []).slot 0 2).man ≤ uArg (tSec { state := .staging, man := tManif 0 [] } [])) ∧
    ((tSec { state := .staging, man := tManif 0 [] } []).onlineMask ≠ 0)) ∧
    ((uArg ({ tSec { state := .staging, man := tManif 1 [] } [] with pwr := { tUp.pwr with updHeld := true } } : State) < manN (({ tSec { state := .staging, man := tManif 1 [] } [] with pwr := { tUp.pwr with updHeld := true } } : State).slot 0 2).man) ∧
    (({ tSec { state := .staging, man := tManif 1 [] } [] with pwr := { tUp.pwr with updHeld := true } } : State).pwr.updHeld = true)) ∧
    ((partRead 0 ((tSec { state := .staging, man := tBillet } []).rd .secUaddr).toNat (billetLen ((tSec { state := .staging, man := tBillet } []).slot 0 2).man (uArg (tSec { state := .staging, man := tBillet } []))) (tSec { state := .staging, man := tBillet } []) = (.ok, [0], (tSec { state := .staging, man := tBillet } []))) ∧
    (sha256 [0] = slice ((tSec { state := .staging, man := tBillet } []).slot 0 2).man (0x80 + 32 * uArg (tSec { state := .staging, man := tBillet } [])) 32) ∧
    ((tSec { state := .staging, man := tBillet } []).onlineMask ≠ 0)) :=
  by and_intros <;> decide +kernel

/-- A manifest for slot 2 of component 0 that passes, and that names its component. -/
theorem test_meets_UpdateManifest : partRead 0 ((tSec {} (tCellsOf tManNil)).rd .secUaddr).toNat 0x80 (tSec {} (tCellsOf tManNil)) = (.ok, tManNil.take 128, tSec {} (tCellsOf tManNil)) ∧
    partRead 0 ((tSec {} (tCellsOf tManNil)).rd .secUaddr).toNat (0xC0 + 32 * min (manN (tManNil.take 128)) 3584) (tSec {} (tCellsOf tManNil)) =
      (.ok, tManNil, tSec {} (tCellsOf tManNil)) ∧
    manCheck (tSec {} (tCellsOf tManNil)) 0 tManNil = .ok ∧ manComp tManNil = 0 ∧ manComp tManNil ≠ 1 := by
  refine ⟨by decide +kernel, by decide +kernel, ?_, by decide +kernel, by decide +kernel⟩
  unfold manCheck edVerify
  generalize Config.edCofactor = b
  cases b <;> decide +kernel

/-- ACTIVATE at the earliest time and 1 ns late, compatible and not; CANCEL, CONFIRM and the instant in every case. -/
theorem test_meets_UpdateActivation :
    (((uSlot (tAct [(2, { state := .valid })] (none) (none) 0)) ≠ 3) ∧
    (((tAct [(2, { state := .valid })] (none) (none) 0).slot 0 2).state = .valid) ∧
    ((tAct [(2, { state := .valid })] (none) (none) 0).now + 1000000000 ≤ actTime (tAct [(2, { state := .valid })] (none) (none) 0)) ∧
    (trialSlot (tAct [(2, { state := .valid })] (none) (none) 0) = none) ∧
    ((tAct [(2, { state := .valid })] (none) (none) 0).sec.pend = none) ∧
    (bundleWaits (tAct [(2, { state := .valid })] (none) (none) 0) (uComp (tAct [(2, { state := .valid })] (none) (none) 0)) (uSlot (tAct [(2, { state := .valid })] (none) (none) 0)) = false) ∧
    (compatible (activeSet (tAct [(2, { state := .valid })] (none) (none) 0) (uComp (tAct [(2, { state := .valid })] (none) (none) 0)) (uSlot (tAct [(2, { state := .valid })] (none) (none) 0))) = true) ∧
    ((tAct [(2, { state := .valid })] (none) (none) 0).onlineMask ≠ 0)) ∧
    (((uSlot (tAct [(2, { state := .valid, man := tManOdd }), (3, { state := .active })] (none) (none) 0)) ≠ 3) ∧
    (((tAct [(2, { state := .valid, man := tManOdd }), (3, { state := .active })] (none) (none) 0).slot 0 2).state = .valid) ∧
    ((tAct [(2, { state := .valid, man := tManOdd }), (3, { state := .active })] (none) (none) 0).now + 1000000000 ≤ actTime (tAct [(2, { state := .valid, man := tManOdd }), (3, { state := .active })] (none) (none) 0)) ∧
    (trialSlot (tAct [(2, { state := .valid, man := tManOdd }), (3, { state := .active })] (none) (none) 0) = none) ∧
    ((tAct [(2, { state := .valid, man := tManOdd }), (3, { state := .active })] (none) (none) 0).sec.pend = none) ∧
    (bundleWaits (tAct [(2, { state := .valid, man := tManOdd }), (3, { state := .active })] (none) (none) 0) (uComp (tAct [(2, { state := .valid, man := tManOdd }), (3, { state := .active })] (none) (none) 0)) (uSlot (tAct [(2, { state := .valid, man := tManOdd }), (3, { state := .active })] (none) (none) 0)) = false) ∧
    (compatible (activeSet (tAct [(2, { state := .valid, man := tManOdd }), (3, { state := .active })] (none) (none) 0) (uComp (tAct [(2, { state := .valid, man := tManOdd }), (3, { state := .active })] (none) (none) 0)) (uSlot (tAct [(2, { state := .valid, man := tManOdd }), (3, { state := .active })] (none) (none) 0))) = false)) ∧
    ((actTime (tAct [] (none) (none) 1) < (tAct [] (none) (none) 1).now + 1000000000) ∧
    ((tAct [] (none) (none) 1).sec.pend = none) ∧
    (trialSlot (tAct [] (none) (none) 1) = none)) ∧
    (((tAct [(2, { state := .valid }), (1, { state := .active }), (0, { state := .fallback })] (some ⟨0, 2, 5⟩) (none) 5).sec.pend ≠ none) ∧
    ((tAct [(2, { state := .valid }), (1, { state := .active }), (0, { state := .fallback })] (some ⟨0, 2, 5⟩) (none) 5).sec.pend = some ⟨0, 2, 5⟩) ∧
    ((5 : Nat) ≤ (tAct [(2, { state := .valid }), (1, { state := .active }), (0, { state := .fallback })] (some ⟨0, 2, 5⟩) (none) 5).now) ∧
    ((tAct [(2, { state := .valid }), (1, { state := .active }), (0, { state := .fallback })] (some ⟨0, 2, 5⟩) (none) 5).pwr.state = .run) ∧
    (inReset (tAct [(2, { state := .valid }), (1, { state := .active }), (0, { state := .fallback })] (some ⟨0, 2, 5⟩) (none) 5) = false) ∧
    ((tAct [(2, { state := .valid }), (1, { state := .active }), (0, { state := .fallback })] (some ⟨0, 2, 5⟩) (none) 5).pwr.fatal = false) ∧
    ((tAct [(2, { state := .valid }), (1, { state := .active }), (0, { state := .fallback })] (some ⟨0, 2, 5⟩) (none) 5).pins.pfail = false) ∧
    (tbHeld (tAct [(2, { state := .valid }), (1, { state := .active }), (0, { state := .fallback })] (some ⟨0, 2, 5⟩) (none) 5) = false) ∧
    ((tAct [(2, { state := .valid }), (1, { state := .active }), (0, { state := .fallback })] (some ⟨0, 2, 5⟩) (none) 5).pwr.browned = false) ∧
    (tbSrc (tAct [(2, { state := .valid }), (1, { state := .active }), (0, { state := .fallback })] (some ⟨0, 2, 5⟩) (none) 5) = 0) ∧
    (((tAct [(2, { state := .valid }), (1, { state := .active }), (0, { state := .fallback })] (some ⟨0, 2, 5⟩) (none) 5).slot 0 2).state = .valid) ∧
    (compatible (activeSet (tAct [(2, { state := .valid }), (1, { state := .active }), (0, { state := .fallback })] (some ⟨0, 2, 5⟩) (none) 5) 0 2) = true) ∧
    ((tAct [(2, { state := .valid }), (1, { state := .active }), (0, { state := .fallback })] (some ⟨0, 2, 5⟩) (none) 5).pwr.flush = none)) ∧
    ((compatible (activeSet (tAct [(2, { state := .valid, man := tManOdd }), (3, { state := .active })] (some ⟨0, 2, 5⟩) (none) 5) 0 2) = false)) ∧
    (((tAct [] (some ⟨0, 2, 5⟩) (none) 4).now < 5)) ∧
    ((((tAct [] (some ⟨0, 2, 5⟩) none 5).wr .timTbstat 1).pins.pfail = false) ∧
    (tbSrc ((tAct [] (some ⟨0, 2, 5⟩) none 5).wr .timTbstat 1) ≠ 0)) ∧
    ((trialSlot (tAct [(2, { state := .trial }), (1, { state := .fallback })] (none) (some 9) 0) = some (0, 2)) ∧
    (manAdv ((tAct [(2, { state := .trial }), (1, { state := .fallback })] (none) (some 9) 0).slot 0 2).man = false) ∧
    ((tAct [(2, { state := .trial }), (1, { state := .fallback })] (none) (some 9) 0).sec.trial ≠ none) ∧
    ((tAct [(2, { state := .trial }), (1, { state := .fallback })] (none) (some 9) 0).pwr.flush = none) ∧
    ((tAct [(2, { state := .trial }), (1, { state := .fallback })] (none) (some 9) 0).pwr.fatal = false) ∧
    (tbHeld (tAct [(2, { state := .trial }), (1, { state := .fallback })] (none) (some 9) 0) = false) ∧
    ((tAct [(2, { state := .trial }), (1, { state := .fallback })] (none) (some 9) 0).pwr.browned = false)) ∧
    ((trialSlot (tAct [(2, { state := .trial, man := tManAdv })] (none) (some 9) 0) = some (0, 2)) ∧
    (manAdv ((tAct [(2, { state := .trial, man := tManAdv })] (none) (some 9) 0).slot 0 2).man = true) ∧
    ((tAct [(2, { state := .trial, man := tManAdv })] (none) (some 9) 0).sec.raise = []) ∧
    ((tAct [(2, { state := .trial, man := tManAdv })] (none) (some 9) 0).fuses.prog = none) ∧
    (raiseStep (tAct [(2, { state := .trial, man := tManAdv })] (none) (some 9) 0) 0 (manSvn ((tAct [(2, { state := .trial, man := tManAdv })] (none) (some 9) 0).slot 0 2).man) = some (64, 1))) ∧
    ((2 ^ 24 - 64 < uArg ((tSec {} []).wr .secUarg 0x02FFFFC1))) ∧
    (((tSec {} []).onlineMask ≠ 0) ∧
    (uArg (tSec {} []) ≤ 2 ^ 24 - 64) ∧
    (partRead 0 ((tSec {} []).rd .secUaddr).toNat (64 + uArg (tSec {} [])) (tSec {} []) = (.ok, List.replicate 64 0, (tSec {} [])))) :=
  by and_intros <;> decide +kernel

/-- Samples cool, at the warning, dead for the second time; KICK and watchdogs due and not, with the scheduler on and off. -/
theorem test_meets_Supervision :
    ((tbHeld tUp = false) ∧
    (tUp.pwr.state ≠ .pewter) ∧
    (tUp.pwr.state = .run) ∧
    (¬ ((tUp.sup.hotL = true ∧ atLeast (0x320 : BitVec 16) 135 = true) ∨ (tUp.sup.hotF = true ∧ atLeast (0x320 : BitVec 16) 135 = true))) ∧
    (tUp.pwr.fatal = false) ∧
    (tUp.schEn = false) ∧
    (fld (0x00010000 : Word) 0 16 = 0) ∧
    (fld (0x00010001 : Word) 16 8 ≠ 0) ∧
    (fld (0x00010001 : Word) 0 16 ≠ 0) ∧
    (tUp.sup.kto.isSome = false) ∧
    (tUp.sup.warn = false) ∧
    (atLeast 2000 (fld (tUp.rd .supTlim) 0 8) = true) ∧
    ((5 : Part) ≠ 0)) ∧
    (((tSup (fun x => { x with hotL := true, kto := some 5 })).sup.hotL = true) ∧
    (atLeast 1080 135 = true) ∧
    ((tSup (fun x => { x with hotL := true, kto := some 5 })).sup.kto.isSome = true) ∧
    ((tSup (fun x => { x with hotL := true, kto := some 5 })).pwr.fatal = false) ∧
    (inReset (tSup (fun x => { x with hotL := true, kto := some 5 })) = false) ∧
    ((tSup (fun x => { x with hotL := true, kto := some 5 })).pwr.flush = none) ∧
    (tbHeld (tSup (fun x => { x with hotL := true, kto := some 5 })) = false) ∧
    ((tSup (fun x => { x with hotL := true, kto := some 5 })).pwr.browned = false)) ∧
    ((((tSup (fun x => { x with misses := 3 })).wr .schCtl 1 |>.wr .supFwdg 0x30001).schEn = true) ∧
    (decide (fld (((tSup (fun x => { x with misses := 3 })).wr .schCtl 1 |>.wr .supFwdg 0x30001).rd .supFwdg) 16 8 ≤ ((tSup (fun x => { x with misses := 3 })).wr .schCtl 1 |>.wr .supFwdg 0x30001).sup.misses) = true)) ∧
    ((tbHeld State.reset = true)) ∧
    ((({ tUp with pwr := { tUp.pwr with state := .pewter } } : State).pwr.state = .pewter)) :=
  by and_intros <;> decide +kernel

/-- The MAC off, with nothing to send, with an entry of 14 bytes; a full ring, and one that takes a frame; MDIO and console. -/
theorem test_meets_Maintenance :
    ((mntOn tUp = false) ∧
    (tUp.sup.mdio = none) ∧
    (tUp.sup.utx.length < 16) ∧
    (tUp.sup.urx = [])) ∧
    ((mntOn (tMnt (tEntry 14)) = true) ∧
    ((((tMnt (tEntry 14)).rd .supMntTxhead).toNat % (2 ^ fld ((tMnt (tEntry 14)).rd .supMntCtl) 4 4)) ≠ (1 : Word).toNat % (2 ^ fld ((tMnt (tEntry 14)).rd .supMntCtl) 4 4)) ∧
    (((((tMnt (tEntry 14)).rd .supMntTxhead).toNat % (2 ^ fld ((tMnt (tEntry 14)).rd .supMntCtl) 4 4)) + 1) % (2 ^ fld ((tMnt (tEntry 14)).rd .supMntCtl) 4 4) = (1 : Word).toNat % (2 ^ fld ((tMnt (tEntry 14)).rd .supMntCtl) 4 4)) ∧
    (ringOk ((tMnt (tEntry 14)).wr .supMntTxtail 1) 0 (((tMnt (tEntry 14)).rd .supMntTxbase).toNat + 32 * (((tMnt (tEntry 14)).rd .supMntTxhead).toNat % (2 ^ fld ((tMnt (tEntry 14)).rd .supMntCtl) 4 4))) = true) ∧
    (partRead 0 (((tMnt (tEntry 14)).rd .supMntTxbase).toNat + 32 * (((tMnt (tEntry 14)).rd .supMntTxhead).toNat % (2 ^ fld ((tMnt (tEntry 14)).rd .supMntCtl) 4 4))) 8 ((tMnt (tEntry 14)).wr .supMntTxtail 1) = (.ok, [0, 0, 4, 0, 14, 0, 0, 0], ((tMnt (tEntry 14)).wr .supMntTxtail 1))) ∧
    (14 ≤ fld (entryWord [0, 0, 4, 0, 14, 0, 0, 0] 1) 0 16) ∧
    (fld (entryWord [0, 0, 4, 0, 14, 0, 0, 0] 1) 0 16 ≤ 1992) ∧
    (partRead 0 (entryWord [0, 0, 4, 0, 14, 0, 0, 0] 0).toNat 14 ((tMnt (tEntry 14)).wr .supMntTxtail 1) = (.ok, List.replicate 14 0, ((tMnt (tEntry 14)).wr .supMntTxtail 1))) ∧
    ((((tMnt (tEntry 14)).rd .supMntTxhead).toNat % (2 ^ fld ((tMnt (tEntry 14)).rd .supMntCtl) 4 4)) = (0 : Word).toNat % (2 ^ fld ((tMnt (tEntry 14)).rd .supMntCtl) 4 4))) ∧
    ((mntOn ((tMnt (tEntry 64)).wr .supMntRxtail 1) = true) ∧
    (((((tMnt (tEntry 64)).wr .supMntRxtail 1).rd .supMntRxhead).toNat % (2 ^ fld (((tMnt (tEntry 64)).wr .supMntRxtail 1).rd .supMntCtl) 8 4)) ≠ (((tMnt (tEntry 64)).wr .supMntRxtail 1).rd .supMntRxtail).toNat % (2 ^ fld (((tMnt (tEntry 64)).wr .supMntRxtail 1).rd .supMntCtl) 8 4)) ∧
    (entryRead 0 ((((tMnt (tEntry 64)).wr .supMntRxtail 1).rd .supMntRxbase).toNat + 32 * ((((tMnt (tEntry 64)).wr .supMntRxtail 1).rd .supMntRxhead).toNat % (2 ^ fld (((tMnt (tEntry 64)).wr .supMntRxtail 1).rd .supMntCtl) 8 4))) ((tMnt (tEntry 64)).wr .supMntRxtail 1) = (.ok, [0, 0, 4, 0, 64, 0, 0, 0] ++ List.replicate 8 0, ((tMnt (tEntry 64)).wr .supMntRxtail 1))) ∧
    ((List.replicate 64 (0 : Byte)).length ≤ fld (entryWord [0, 0, 4, 0, 64, 0, 0, 0] 1) 0 16) ∧
    ((partWrite 0 (entryWord [0, 0, 4, 0, 64, 0, 0, 0] 0).toNat (List.replicate 64 0) ((tMnt (tEntry 64)).wr .supMntRxtail 1)).1 = .ok)) ∧
    ((((((tMnt []).wr .supMntRxtail 0).rd .supMntRxhead).toNat % (2 ^ fld (((tMnt []).wr .supMntRxtail 0).rd .supMntCtl) 8 4)) = (((tMnt []).wr .supMntRxtail 0).rd .supMntRxtail).toNat % (2 ^ fld (((tMnt []).wr .supMntRxtail 0).rd .supMntCtl) 8 4))) ∧
    (((tSup (fun x => { x with mdio := some false })).sup.mdio = some false)) ∧
    (((tSup (fun x => { x with mdio := some true, utx := List.replicate 16 0, urx := [7] })).sup.mdio ≠ none) ∧
    ((tSup (fun x => { x with mdio := some true, utx := List.replicate 16 0, urx := [7] })).sup.mdio = some true) ∧
    (16 ≤ (tSup (fun x => { x with mdio := some true, utx := List.replicate 16 0, urx := [7] })).sup.utx.length) ∧
    ((tSup (fun x => { x with mdio := some true, utx := List.replicate 16 0, urx := [7] })).sup.urx = 7 :: [])) :=
  by and_intros <;> decide +kernel

/-- Entries past the last, of a kind with a partition, set, in use, of a wrong kind, of an S channel for class N. -/
theorem test_meets_PinOwnership :
    ((220 ≤ (220 : BitVec 8).toNat) ∧
    ((219 : BitVec 8).toNat < 220) ∧
    (fld (0x80001001 : Word) 12 2 ≠ 0) ∧
    (fld (0x80001001 : Word) 0 10 ≠ 0) ∧
    (fld (0x80000001 : Word) 12 2 = 0) ∧
    ((0 : Word).getLsbD 31 = false) ∧
    ((tUp.rd .supPinown 219).getLsbD 31 = false) ∧
    (kindOk 95 (fld (0x80001000 : Word) 12 2) = false) ∧
    (kindOk 96 (fld (0x80001000 : Word) 12 2) = true) ∧
    (fld (0x80001000 : Word) 12 2 ≠ 0) ∧
    (entryS tUp 0 = false)) ∧
    (((((tUp.wr .supPinown 0x80000005 95).wrA .dioDiCfgS 0x80000000 95).rd .supPinown 95).getLsbD 31 = true) ∧
    (entryBusy ((tUp.wr .supPinown 0x80000005 95).wrA .dioDiCfgS 0x80000000 95) 95 = true) ∧
    (((tUp.wr .supPinown 0x80000005 95).wrA .dioDiCfgS 0x80000000 95).rd .supPinown 95 = 0x80000005) ∧
    (((tUp.wr .supPinown 0x80000005 95).wrA .dioDiCfgS 0x80000000 95).rd .supPinown 95 ≠ 0x80000006)) ∧
    ((entryS ({ tUp with fuses := { shadow := [(0, 0x40000), (5, 1)] } } : State) 0 = true) ∧
    (pdCls (ctlA ({ tUp with fuses := { shadow := [(0, 0x40000), (5, 1)] } } : State) (fld (0x80000005 : Word) 0 10)) ≠ 1) ∧
    (fld (0x80000005 : Word) 12 2 = 0)) :=
  by and_intros <;> decide +kernel

/-- Each well-formedness check refuses a term: SHI of kind 5; bits in the register space, and an edge bit in II; a CAN frame with a wrong length, an identifier too wide; a legal word as an illegal one. -/
theorem test_wf_refuses :
    ((Instr.wf (.shi 0 1 2 5 3) = false) ∧
    (Instr.wf (.shi 0 1 2 4 3) = true) ∧
    (Instr.wf (.bld 0 (.direct 3 0 0)) = false) ∧
    (Instr.wf (.bldn 0 (.direct 3 0 0)) = false) ∧
    (Instr.wf (.band 0 (.direct 3 0 0)) = false) ∧
    (Instr.wf (.bandn 0 (.direct 3 0 0)) = false) ∧
    (Instr.wf (.bor 0 (.direct 3 0 0)) = false) ∧
    (Instr.wf (.born 0 (.direct 3 0 0)) = false) ∧
    (Instr.wf (.bxor 0 (.direct 3 0 0)) = false) ∧
    (Instr.wf (.bxorn 0 (.direct 3 0 0)) = false) ∧
    (Instr.wf (.bset 0 (.direct 3 0 0)) = false) ∧
    (Instr.wf (.bclr 0 (.direct 3 0 0)) = false) ∧
    (Instr.wf (.basg 0 (.direct 3 0 0)) = false)) ∧
    ((Instr.wf (.brise 0 (.direct 0 0 0)) = false) ∧
    (Instr.wf (.bfall 0 (.direct 1 0 0)) = false) ∧
    (Instr.wf (.brise 0 (.direct 2 0 0)) = true) ∧
    (Instr.wf (.canFrameReceive 0 { tCf with dlc := 7 }) = false) ∧
    (Instr.wf (.canFrameReceive 0 { tCf with id := 0x800 }) = false) ∧
    (Instr.wf (.canFrameReceive 0 tCf) = true) ∧
    (Instr.wf (.illegalInstruction 0 0x10000000) = false) ∧
    (Instr.wf (.illegalInstruction 0 0) = true)) :=
  by and_intros <;> decide +kernel

/-- The words of the two example programs of 06, as its tables give them, read and spelled. -/
theorem test_decode_examples :
    ((gleigDecode 5 0x40000000 = some (.bld 5 (.direct 0 0 0))) ∧
    (gleigDecode 5 0x18000041 = some (.gopenAnd 5)) ∧
    (gleigDecode 5 0x40000001 = some (.bld 5 (.direct 0 0 1))) ∧
    (gleigDecode 5 0x40900020 = some (.bor 5 (.direct 2 4 0))) ∧
    (gleigDecode 5 0x18000002 = some (.gclose 5)) ∧
    (gleigDecode 5 0x40600002 = some (.bandn 5 (.direct 0 0 2))) ∧
    (gleigDecode 5 0x41480015 = some (.basg 5 (.direct 1 2 5))) ∧
    (gleigDecode 5 0x74800002 = some (.movhi 5 4 2)) ∧
    (gleigDecode 5 0x68840040 = some (.ori 5 4 4 0x40)) ∧
    (gleigDecode 5 0x70A00005 = some (.movi 5 5 5)) ∧
    (gleigDecode 5 0x4000001E = some (.bld 5 (.direct 0 3 6))) ∧
    (gleigDecode 5 0x1C042801 = some (.tonMs 5 4 5)) ∧
    (gleigDecode 5 0x41500050 = some (.basg 5 (.direct 2 10 0)))) ∧
    ((gleigWord (.bld 5 (.direct 0 0 0)) = some 0x40000000) ∧
    (gleigWord (.gopenAnd 5) = some 0x18000041) ∧
    (gleigWord (.bld 5 (.direct 0 0 1)) = some 0x40000001) ∧
    (gleigWord (.bor 5 (.direct 2 4 0)) = some 0x40900020) ∧
    (gleigWord (.gclose 5) = some 0x18000002) ∧
    (gleigWord (.bandn 5 (.direct 0 0 2)) = some 0x40600002) ∧
    (gleigWord (.basg 5 (.direct 1 2 5)) = some 0x41480015) ∧
    (gleigWord (.movhi 5 4 2) = some 0x74800002) ∧
    (gleigWord (.ori 5 4 4 0x40) = some 0x68840040) ∧
    (gleigWord (.movi 5 5 5) = some 0x70A00005) ∧
    (gleigWord (.bld 5 (.direct 0 3 6)) = some 0x4000001E) ∧
    (gleigWord (.tonMs 5 4 5) = some 0x1C042801) ∧
    (gleigWord (.basg 5 (.direct 2 10 0)) = some 0x41500050)) :=
  by and_intros <;> decide +kernel

/-- A NOP with a bit in its unused field, and the word of all ones, decode to nothing (06 R133). -/
theorem test_decode_unused :
    (gleigDecode 0 0x10000040 = none) ∧
    (gleigDecode 0 0xFFFFFFFF = none) :=
  by decide +kernel

/-- The published check values of CRC-32 and CRC-32C over 123456789. -/
theorem test_crc_check :
    (crc32 tDigits = 0xCBF43926) ∧
    (crc32c tDigits = 0xE3069283) :=
  by decide +kernel

/-- FIPS 180-4: SHA-256 of abc. -/
theorem test_sha256_abc :
    (beNat (sha256 [0x61, 0x62, 0x63]) = 0xba7816bf8f01cfea414140de5dae2223b00361a396177a9cb410ff61f20015ad) :=
  by decide +kernel

/-- FIPS 180-4: SHA-512 of abc. -/
theorem test_sha512_abc :
    (beNat (sha512 [0x61, 0x62, 0x63]) = 0xddaf35a193617abacc417349ae20413112e6fa4e89a97ea20a9eeee64b55d39a2192992a274fc1a836ba3c23a3feebbd454d4423643ce80e2a9ac94fa54ca49f) :=
  by decide +kernel

/-- FIPS 197, appendix C.1 and C.3: both directions. -/
theorem test_aes :
    (beNat (aesEnc (beBytes 16 0x000102030405060708090a0b0c0d0e0f) (beBytes 16 0x00112233445566778899aabbccddeeff)) = 0x69c4e0d86a7b0430d8cdb78070b4c55a) ∧
    (beNat (aesDec (beBytes 32 0x000102030405060708090a0b0c0d0e0f101112131415161718191a1b1c1d1e1f) (beBytes 16 0x8ea2b7ca516745bfeafc49904b496089)) = 0x00112233445566778899aabbccddeeff) :=
  by decide +kernel

/-- RFC 4493, examples 1 and 2. -/
theorem test_cmac :
    (beNat (cmac (beBytes 16 0x2b7e151628aed2a6abf7158809cf4f3c) []) = 0xbb1d6929e95937287fa37d129b756746) ∧
    (beNat (cmac (beBytes 16 0x2b7e151628aed2a6abf7158809cf4f3c) (beBytes 16 0x6bc1bee22e409f96e93d7e117393172a)) = 0x070a16b46b4d4144f79bdd9dd04a287c) :=
  by decide +kernel

/-- RFC 3394, 4.6: 256 bits of key data under a 256-bit key. -/
theorem test_keyWrap :
    ((keyUnwrap (beBytes 32 0x000102030405060708090A0B0C0D0E0F101112131415161718191A1B1C1D1E1F) (beBytes 40 0x28C9F404C4B810F4CBCCB35CFB87F8263F5786E2D80ED326CBC7F0E71A99F43BFB988B9B7A02DD21)).map beNat = some 0x00112233445566778899AABBCCDDEEFF000102030405060708090A0B0C0D0E0F) :=
  by decide +kernel

/-- The stop line that 02 R49 gives as its example, with CR and LF. -/
theorem test_stopLine :
    (stopLine 6 .crc = [0x42, 0x4F, 0x4F, 0x54, 0x20, 0x53, 0x54, 0x4F, 0x50, 0x20, 0x53, 0x30, 0x36, 0x20, 0x53, 0x54, 0x30, 0x37, 0x0D, 0x0A]) :=
  by decide +kernel

/-- Commands run first in, first out; an empty queue is one tick of 4 ns from the fast source. -/
theorem test_step_takes_the_front :
    (tNext (step { tUp with pending := [.wakePin, .vfdiLow] }) (fun t => t.pending = [.vfdiLow] && t.rd .supWakesrc = 1) = true) ∧
    (tNext (step tUp) (fun t => t.tb.ns = 4 || t.tb.ns = 3) = true) :=
  by decide +kernel

/-- 06: 7 - 2 = 5; 7 / 2 = 3; the most negative number saturates; a shift by 31; MOVHI and a taken jump move PC. -/
theorem test_exec_alu :
    (tNext (exec (.sub 0 4 1 2) (tExe { w := [(1, 7), (2, 2), (3, 0x80000000)] })) (fun t => t.W 0 4 = 5) = true) ∧
    (tNext (exec (.div 0 4 1 2 5) (tExe { w := [(1, 7), (2, 2), (3, 0x80000000)] })) (fun t => t.W 0 4 = 3 && t.W 0 5 = 1) = true) ∧
    (tNext (exec (.subs 0 4 3 1) (tExe { w := [(1, 7), (2, 2), (3, 0x80000000)] })) (fun t => t.W 0 4 = 0x80000000) = true) ∧
    (tNext (exec (.shi 0 4 3 1 31) (tExe { w := [(1, 7), (2, 2), (3, 0x80000000)] })) (fun t => t.W 0 4 = 1) = true) ∧
    (tNext (exec (.movhi 0 4 2) (tExe { w := [(1, 7), (2, 2), (3, 0x80000000)] })) (fun t => t.W 0 4 = 0x20000 && (t.eng 0).pc = 0x40004) = true) ∧
    (tNext (exec (.j 0 4) (tExe { w := [(1, 7), (2, 2), (3, 0x80000000)] })) (fun t => (t.eng 0).pc = 0x40014 || (t.eng 0).pc = 0x40010) = true) :=
  by decide +kernel

/-- 06: a store is read back little-endian by narrower loads, signed and unsigned. -/
theorem test_exec_memory :
    (tNext (exec (.stw 0 5 1 0) (tExe { w := [(1, 0x40000), (5, 0xFFEEDDCC)] })) (fun u => tNext (exec (.ldb 0 6 1 3) u) (fun t => t.W 0 6 = 0xFFFFFFFF) && tNext (exec (.ldhu 0 6 1 2) u) (fun t => t.W 0 6 = 0xFFEE)) = true) :=
  by decide +kernel

/-- The door network of 05: AND into an OR block opens only with its bits; BASG writes LA. -/
theorem test_exec_network :
    (tNext (exec (.gopenAnd 0) (tExe { la := true })) (fun u => (u.eng 0).nest.length = 1 && tNext (exec (.gclose 0) u) (fun t => (t.eng 0).nest.length = 0)) = true) :=
  by decide +kernel

/-- One small step in other units: a raw edge, a pulse end, a semaphore, a console byte, a fatal halt, a register write that reads back. -/
theorem test_exec_units :
    (tNext (exec (.rawInputChange 3 true) tUp) (fun t => (t.di 3).raw && !(t.di 3).filt) = true) ∧
    (tNext (exec (.semaphoreTake 0 5 1) (tBrb {})) (fun t => t.brb.sem = some ⟨1, 5⟩) = true) ∧
    (tNext (exec (.uartTransmit (.part 0) 0x141) tUp) (fun t => t.sup.utx = [0x41]) = true) ∧
    (tNext (exec .fabricCheckDisagreement tUp) (fun t => t.pwr.fatal && faultLow t) = true) ∧
    (tNext (exec (.registerWrite (.part 0) 0x6000000004 .b4 7) State.reset) (fun t => t.rsp.st = .denied || t.rsp.st = .ok) = true) :=
  by decide +kernel

/-- Every constructor has its lemma of the family Shape; one of them, used. -/
theorem test_shape : Laws.Shape.Statement (.nop 0) := Laws.Shape.nop 0

end Sys2Proof.Tests
end

section
/-!
SUPPORT. What one access to the physical space does, case by case: the address decides between a register, an unassigned
offset, memory and no span at all (00 R5, R6, R8, R9, 18 R418); and what the commands that make such an access answer.
-/

namespace Sys2Proof.Machine

/-! ### Bytes stored little-endian (00 R6) -/

@[simp] theorem leBytes_length (n : Nat) : ∀ v : Nat, (leBytes n v).length = n := by
  induction n with
  | zero => intro v; rfl
  | succ n ih => intro v; simp [leBytes, ih]

/-- Byte k of a number, least significant first. -/
theorem leBytes_getD (n : Nat) : ∀ v k : Nat, k < n → (leBytes n v).getD k 0 = BitVec.ofNat 8 (v / 256 ^ k) := by
  induction n with
  | zero => intro v k h; omega
  | succ n ih =>
    intro v k h
    cases k with
    | zero => simp [leBytes]
    | succ k =>
      have hk := ih (v / 256) k (by omega)
      simpa [leBytes, Nat.div_div_eq_div_mul, Nat.pow_succ, Nat.mul_comm] using hk

/-- Bytes set from a are read there in order; every other byte reads as before. -/
theorem State.byte_setBytes (bs : List Byte) : ∀ (a : Nat) (s : State) (x : Nat),
    (State.setBytes a bs s).byte x = if a ≤ x ∧ x < a + bs.length then bs.getD (x - a) 0 else s.byte x := by
  induction bs with
  | nil =>
    intro a s x
    rw [State.setBytes, List.length_nil, if_neg (by omega)]
  | cons b bs ih =>
    intro a s x
    rw [State.setBytes, ih, State.byte_setByte, List.length_cons]
    rcases Nat.lt_trichotomy x a with h | rfl | h
    · rw [if_neg (by omega), if_neg (by omega), if_neg (by omega)]
    · rw [if_neg (by omega), if_pos rfl, if_pos (by omega), Nat.sub_self, List.getD_cons_zero]
    · rw [if_neg (Nat.ne_of_gt h), show x - a = x - (a + 1) + 1 by omega, List.getD_cons_succ]
      by_cases hx : x < a + 1 + bs.length
      · rw [if_pos (by omega), if_pos (by omega)]
      · rw [if_neg (by omega), if_neg (by omega)]

@[simp] theorem State.setBytes_regs (bs : List Byte) : ∀ (a : Nat) (s : State),
    (State.setBytes a bs s).regs = s.regs := by
  induction bs with
  | nil => intro a s; rfl
  | cons b bs ih => intro a s; exact ih _ _

/-- An aligned access lies in one line of 64 bytes. -/
theorem Size.inLine_of_aligned {sz : Size} {a : Nat} (h : a % sz.bytes = 0) : a % 64 + sz.bytes ≤ 64 := by
  cases sz <;> simp only [Size.bytes] at h ⊢ <;> omega

theorem linesOf_of_inLine {a n : Nat} (hn : 0 < n) (h : a % 64 + n ≤ 64) : linesOf a n = [a / 64] := by
  have hl : (a + n + 63) / 64 - a / 64 = 1 := by omega
  simp [linesOf, hl]

/-- A write of part of a sound line stores its bytes and nothing else (08 R195). -/
theorem lineWrite_of_sound (a : Nat) (bs : List Byte) (s : State) (hl : bs.length ≠ 64)
    (he : s.errAt (a / 64) = .none) (hp : s.poison.contains (a / 64) = false) :
    lineWrite a bs s = (.ok, s.setBytes a bs) := by
  simp only [lineWrite, if_neg hl, settleLine_of_sound _ s he, hp, Bool.false_eq_true, if_false]

/-- A write within one sound line, but not of the whole line, is OK and stores its bytes (08 R195). -/
theorem memWrite_of_sound (a : Nat) (bs : List Byte) (s : State) (hb : bs ≠ []) (hl : bs.length ≠ 64)
    (h : a % 64 + bs.length ≤ 64) (hs : s.sound a bs.length = true) : memWrite a bs s = (.ok, s.setBytes a bs) := by
  have hlen : 0 < bs.length := List.length_pos_iff.mpr hb
  simp only [State.sound, linesOf_of_inLine hlen h, List.all_cons, List.all_nil, Bool.and_true, Bool.and_eq_true,
    Bool.not_eq_true', decide_eq_true_eq] at hs
  have hline : lineWrite a (bs.take (64 - a % 64)) s = (.ok, s.setBytes a bs) := by
    rw [List.take_of_length_le (by omega)]
    exact lineWrite_of_sound a bs s hl hs.2 hs.1
  have hdrop : bs.drop (64 - a % 64) = [] := List.drop_of_length_le (by omega)
  cases bs with
  | nil => exact absurd rfl hb
  | cons b bs => simp only [memWrite, List.length_cons, memWriteN, hline, hdrop, if_true]

/-! ### Writes of the physical space (00 R5, R6, R8, R9) -/

section
variable {w : Who} {a : Nat} {sz : Size} {v : Word} {s : State}

/-- A write that answers another status than OK carries no debug step: it is the access alone. -/
theorem physWrite_of_reply {t : State} {st : Status} (h : busWrite w a sz v s = t.reply st) (hst : st ≠ .ok) :
    physWrite w a sz v s = t.reply st := by
  have hk : ∀ k, afterTdbg k v (t.reply st) = t.reply st := fun k => by
    simp [afterTdbg, State.reply, State.answer, hst]
  unfold physWrite
  rw [h]
  cases tdbgOf a with
  | none => rfl
  | some k => exact hk k

/-- A write of an address that is no TDBG register is the access alone. -/
theorem physWrite_of_no_tdbg (h : tdbgOf a = none) : physWrite w a sz v s = busWrite w a sz v s := by
  simp [physWrite, h]

/-- Every TDBG register lies in a unit span. -/
theorem spanOf_fabTdbg : ∀ t : Fin 32, (spanOf (Reg.fabTdbg.addr t.val 0)).isSome = true := by decide

theorem tdbgOf_of_no_span (h : spanOf a = none) : tdbgOf a = none := by
  refine List.find?_eq_none.mpr fun t _ ht => ?_
  have hs := spanOf_fabTdbg t
  rw [of_decide_eq_true ht, h] at hs
  exact Bool.false_ne_true hs

theorem busWrite_unassigned {b n : Nat} {u : Unt} {rs : List Reg} (hl : levelAdmits w a true s = true)
    (hs : spanOf a = some (b, n, u, rs)) (hr : regAt rs (a / 4 * 4) = none) :
    busWrite w a sz v s = unassigned w a s := by
  simp [busWrite, hl, hs, hr]

theorem busWrite_size {b n : Nat} {u : Unt} {rs : List Reg} {r : Reg} {i j : Nat} {act : Bool}
    (hl : levelAdmits w a true s = true) (hs : spanOf a = some (b, n, u, rs))
    (hr : regAt rs (a / 4 * 4) = some (r, i, j, act)) (hz : sz ≠ .b4 ∨ a % 4 ≠ 0) :
    busWrite w a sz v s = s.reply .size := by
  simp [busWrite, hl, hs, hr, hz]

theorem busWrite_register {b n : Nat} {u : Unt} {rs : List Reg} {r : Reg} {i j : Nat} {act : Bool}
    (hl : levelAdmits w a true s = true) (hs : spanOf a = some (b, n, u, rs))
    (hr : regAt rs (a / 4 * 4) = some (r, i, j, act)) (hz : sz = .b4) (ha : a % 4 = 0) :
    busWrite w a sz v s = regWrite u w r i j act v s := by
  simp [busWrite, hl, hs, hr, hz, ha]

theorem busWrite_outsideSpan (hl : levelAdmits w a true s = true) (hs : spanOf a = none) (hk : isRack a = false)
    (hm : isMem a sz.bytes = false) : busWrite w a sz v s = outsideSpan w a s := by
  simp [busWrite, hl, hs, hk, hm]

/-- An aligned write of sound memory stores the bytes of the value little-endian (00 R6, 08 R195). -/
theorem busWrite_memory (hl : levelAdmits w a true s = true) (hs : spanOf a = none) (hk : isRack a = false)
    (hm : isMem a sz.bytes = true) (h8 : sz ≠ .b8) (ha : a % sz.bytes = 0) (hd : s.sound a sz.bytes = true) :
    busWrite w a sz v s = (s.setBytes a (leBytes sz.bytes v.toNat)).reply .ok := by
  have hlen : 0 < sz.bytes ∧ sz.bytes ≠ 64 := by cases sz <;> decide
  have hw : memWrite a (leBytes sz.bytes v.toNat) s = (.ok, s.setBytes a (leBytes sz.bytes v.toNat)) :=
    memWrite_of_sound a _ s (List.length_pos_iff.mp (by simpa using hlen.1)) (by simpa using hlen.2)
      (by simpa using Size.inLine_of_aligned ha) (by simpa using hd)
  simp [busWrite, hl, hs, hk, hm, h8, hw]

/-- An active copy ignores a write of the foundry partition, which answers OK (00 R9). -/
theorem regWrite_active {u : Unt} {r : Reg} {i j : Nat} (hd : linkDown u s = false) :
    regWrite u (.part 0) r i j true v s = s.reply .ok := by
  simp [regWrite, hd, asFnd]

/-- A register without a rule of its own takes the foundry partition's write by its bit classes (00 R8). -/
theorem regWrite_plain {u : Unt} {r : Reg} {i j : Nat} (hd : linkDown u s = false)
    (hu : unitWrite u (.part 0) r i j v s = none) :
    regWrite u (.part 0) r i j false v s = (s.put r v i j).reply .ok := by
  simp only [regWrite, hd, hu, asFnd, Bool.false_eq_true, if_false, if_true]

/-- A register without a rule of its own is the foundry partition's alone (00 R8). -/
theorem regWrite_denied {u : Unt} {r : Reg} {i j : Nat} {p : Part} (hd : linkDown u s = false)
    (hu : unitWrite u (.part p) r i j v s = none) (hp : p ≠ 0) :
    regWrite u (.part p) r i j false v s = s.reply .denied := by
  simp only [regWrite, hd, hu, asFnd, if_neg hp, Bool.false_eq_true, if_false]

end

/-! ### Posted writes of the pewter domain (03 R61) -/

/-- The first register of the pewter domain at the address of one of them is that register. -/
theorem pewterRegs_find {r : Reg} (h : r ∈ pewterRegs) :
    pewterRegs.find? (fun q => q.row.base = r.row.base) = some r := by
  revert r; decide

theorem pewterRegs_ne_pwrstat {r : Reg} (h : r ∈ pewterRegs) : r.row.base ≠ Reg.supPwrstat.row.base := by
  revert r; decide

theorem pewterArrive_of_mem {r : Reg} (h : r ∈ pewterRegs) (v : Word) (s : State) :
    pewterArrive r.row.base v s = s.put r v := by
  simp [pewterArrive, pewterRegs_ne_pwrstat h, pewterRegs_find h]

/-! ### Reads of the physical space by the debug port (00 R5, R6, R9, 18 R418) -/

section
variable {w : Who} {req a : Nat} {sz : Size} {s : State}

theorem busRead_refused (hl : levelAdmits w a false s = false) : busRead w req a sz s = refuseDebug s := by
  simp [busRead, hl]

theorem busRead_unassigned {b n : Nat} {u : Unt} {rs : List Reg} (hl : levelAdmits w a false s = true)
    (hs : spanOf a = some (b, n, u, rs)) (hr : regAt rs (a / 4 * 4) = none) :
    busRead w req a sz s = unassigned w a s := by
  simp [busRead, hl, hs, hr]

theorem busRead_size {b n : Nat} {u : Unt} {rs : List Reg} {r : Reg} {i j : Nat} {act : Bool}
    (hl : levelAdmits w a false s = true) (hs : spanOf a = some (b, n, u, rs))
    (hr : regAt rs (a / 4 * 4) = some (r, i, j, act)) (hz : sz ≠ .b4 ∨ a % 4 ≠ 0) :
    busRead w req a sz s = s.reply .size := by
  simp [busRead, hl, hs, hr, hz]

theorem busRead_register {b n : Nat} {u : Unt} {rs : List Reg} {r : Reg} {i j : Nat} {act : Bool}
    (hl : levelAdmits w a false s = true) (hs : spanOf a = some (b, n, u, rs))
    (hr : regAt rs (a / 4 * 4) = some (r, i, j, act)) (hz : sz = .b4) (ha : a % 4 = 0) :
    busRead w req a sz s = regRead u w r i j act s := by
  simp [busRead, hl, hs, hr, hz, ha]

theorem busRead_outsideSpan (hl : levelAdmits w a false s = true) (hs : spanOf a = none) (hk : isRack a = false)
    (hm : isMem a sz.bytes = false) : busRead w req a sz s = outsideSpan w a s := by
  simp [busRead, hl, hs, hk, hm]

/-- A read of sound memory gives its bytes little-endian and changes nothing but the response (00 R6, 08 R195). -/
theorem busRead_memory (hl : levelAdmits w a false s = true) (hs : spanOf a = none) (hk : isRack a = false)
    (hm : isMem a sz.bytes = true) (h8 : sz ≠ .b8) (hd : s.sound a sz.bytes = true) :
    busRead w req a sz s = s.answer .ok (wd (leNat (s.bytes a sz.bytes))) := by
  simp [busRead, hl, hs, hk, hm, h8, memRead_of_sound a _ s hd]

/-- A register without a read rule of its own gives the debug port its shadow, at its active address the value in force
(00 R9). -/
theorem regRead_plain {u : Unt} {r : Reg} {i j : Nat} {act : Bool} (hd : linkDown u s = false)
    (hu : unitRead u .dbg r i j act s = none) (hr : debugReads s r.row.base = true) :
    regRead u .dbg r i j act s = s.answer .ok (if act then s.rdA r i j else s.rd r i j) := by
  simp [regRead, hd, hu, asReader, hr]

/-- A register of a lane in service answers its value (04 R97). -/
theorem laneRead_inService {t : Fin 32} {e : Nat} (r : LaneReg) (hr : debugReads s Reg.fabTdbg.row.base = true)
    (hl : debugLevel s ≠ 2) (he : dbgLaneExec s t false = some e) :
    laneRead t r s = s.answer .ok (laneRegOf (s.eng e) r) := by
  simp [laneRead, hr, hl, he]

end

/-! ### The commands -/

section
variable {addr : BitVec 40} {sz : Size} {s t : State}

/-- A write whose access answers another status than OK is that access. -/
theorem exec_registerWrite_of_reply {w : Who} {v : Word} {st : Status}
    (h : busWrite w addr.toNat sz v s = t.reply st) (hst : st ≠ .ok) :
    exec (.registerWrite w addr sz v) s = .next (t.reply st) :=
  congrArg _ (physWrite_of_reply h hst)

/-- A write of an address that is no TDBG register is its access. -/
theorem exec_registerWrite_of_no_tdbg {w : Who} {v : Word} (ht : tdbgOf addr.toNat = none)
    (h : busWrite w addr.toNat sz v s = t) : exec (.registerWrite w addr sz v) s = .next t :=
  congrArg _ ((physWrite_of_no_tdbg ht).trans h)

theorem exec_debugAccess_of_busRead (h : busRead .dbg 0x89 addr.toNat sz s = t) :
    exec (.debugAccess (.bus addr) sz none) s = .next t := congrArg _ h

theorem exec_debugAccess_of_laneRead {n : Fin 32} {r : LaneReg} (h : laneRead n r s = t) :
    exec (.debugAccess (.lane n r) sz none) s = .next t := congrArg _ h

end

theorem exec_pewterWriteArrival_nil {s : State} (h : s.clk.pewQ = []) : exec .pewterWriteArrival s = .next s := by
  change execPewterWriteArrival s = _
  rw [execPewterWriteArrival, h]

theorem exec_pewterWriteArrival_cons {s : State} {a : Nat} {x : Word} {q : List (Nat × Word)}
    (h : s.clk.pewQ = (a, x) :: q) :
    exec .pewterWriteArrival s = .next (pewterArrive a x (s.setClk { s.clk with pewQ := q })) := by
  change execPewterWriteArrival s = _
  rw [execPewterWriteArrival, h]

end Sys2Proof.Machine
end

section
/-!
CERTIFICATE. The statements about the step's order and about accesses to the physical space, settled.
-/

namespace Sys2Proof.Machine

/-- Settles O30: a queue with a command in front selects the step's branch that runs it. -/
theorem stepRunsFrontCommand : Obligations.StepRunsFrontCommand := by
  unfold Obligations.StepRunsFrontCommand
  intro s c rest h
  rw [step, h]

/-- Settles O33, clause by clause with the case of the address. A debug step, the one thing that a write does beside its
access, is left out by a status other than OK or by an address that is no TDBG. -/
theorem registerWritesByAddress : Obligations.RegisterWritesByAddress := by
  unfold Obligations.RegisterWritesByAddress
  intro s w addr sz v
  refine ⟨rfl, fun hl => ⟨fun b n u rs hs => ⟨fun hr => ?unassigned, fun r i j act hr hd =>
    ⟨fun hz => ?size, ?foundry, ?other⟩⟩, fun hs hk hm => ?outside, fun hs hk hm h8 ha hd => ?memory⟩,
    exec_pewterWriteArrival_nil, fun r x q hr hq => ?arrival⟩
  case unassigned => exact exec_registerWrite_of_reply (busWrite_unassigned hl hs hr) (by decide)
  case size => exact exec_registerWrite_of_reply (busWrite_size hl hs hr hz) (by decide)
  case foundry =>
    rintro hz ha rfl ht
    have hw := busWrite_register (v := v) hl hs hr hz ha
    refine ⟨?active, ?plain⟩
    case active =>
      rintro rfl
      exact exec_registerWrite_of_no_tdbg ht (hw.trans (regWrite_active hd))
    case plain =>
      rintro rfl hu
      exact exec_registerWrite_of_no_tdbg ht (hw.trans (regWrite_plain hd hu))
  case other =>
    rintro p hz ha rfl hp rfl hu
    exact exec_registerWrite_of_reply ((busWrite_register hl hs hr hz ha).trans (regWrite_denied hd hu hp)) (by decide)
  case outside => exact exec_registerWrite_of_reply (busWrite_outsideSpan hl hs hk hm) (by decide)
  case memory =>
    refine ⟨_, exec_registerWrite_of_no_tdbg (tdbgOf_of_no_span hs) (busWrite_memory hl hs hk hm h8 ha hd), rfl,
      State.setBytes_regs _ _ _, fun x => ?_⟩
    rw [State.reply_byte_id, State.byte_setBytes, leBytes_length]
    split
    next hx => exact leBytes_getD _ _ _ (by omega)
    next => rfl
  case arrival =>
    rw [exec_pewterWriteArrival_cons hq, pewterArrive_of_mem hr]
    rfl

/-- Settles O34, clause by clause with the case of the address. -/
theorem registerReadsByAddress : Obligations.RegisterReadsByAddress := by
  unfold Obligations.RegisterReadsByAddress
  intro s addr sz t r
  refine ⟨fun hl => ?refused, fun hl => ⟨fun b n u rs hs => ⟨fun hr => ?unassigned, fun q i j act hr hd =>
    ⟨fun hz => ?size, fun hz ha hu hq => ?register⟩⟩, fun hs hk hm => ?outside, fun hs hk hm h8 hd => ?memory⟩,
    fun e hl h2 he => ?lane⟩
  case refused => exact exec_debugAccess_of_busRead (busRead_refused hl)
  case unassigned => exact exec_debugAccess_of_busRead (busRead_unassigned hl hs hr)
  case size => exact exec_debugAccess_of_busRead (busRead_size hl hs hr hz)
  case register =>
    exact exec_debugAccess_of_busRead ((busRead_register (w := .dbg) hl hs hr hz ha).trans (regRead_plain hd hu hq))
  case outside => exact exec_debugAccess_of_busRead (busRead_outsideSpan hl hs hk hm)
  case memory => exact exec_debugAccess_of_busRead (busRead_memory hl hs hk hm h8 hd)
  case lane => exact exec_debugAccess_of_laneRead (laneRead_inService r hl h2 he)

end Sys2Proof.Machine
end

section
/-!
SUPPORT. What a reset reaches and what it leaves alone (02 R44), and the equation of each supply and power-failure command
in each of its cases (02 R29 to R34, R423, R424).
-/

namespace Sys2Proof.Machine

/-! ### Registers that a reset leaves alone -/

/-- An entry of a table of which only the keys that satisfy p are left. -/
theorem Tab.get_filter {α : Type} (p : Nat → Bool) (d : α) (t : Tab α) (i : Nat) :
    Tab.get d (t.filter (fun e => p e.1)) i = if p i then Tab.get d t i else d := by
  induction t with
  | nil => simp [Tab.get]
  | cons e t ih =>
    obtain ⟨k, v⟩ := e
    by_cases hi : i = k
    · subst hi
      cases hp : p i <;> simp [hp, ih, Tab.get]
    · cases hk : p k <;> simp [hk, hi, ih, Tab.get]

theorem Keep.over_powerUp (k : Keep) : k.over .powerUp = false := by cases k <;> rfl

/-- VPEW power-up leaves no register alone. -/
theorem keyKept_powerUp (key : Nat) : keyKept .powerUp key = false := by
  simp [keyKept, Keep.over_powerUp]

theorem supRstcause_mem_keptRegs : Reg.supRstcause ∈ keptRegs := by
  simp [keptRegs, regsSup, Reg.row]

/-- RSTCAUSE survives every reset but VPEW power-up. -/
theorem keyKept_supRstcause {k : ResetKind} (h : k ≠ .powerUp) : keyKept k (Reg.supRstcause.addr 0 0) = true := by
  refine List.any_eq_true.mpr ⟨.supRstcause, supRstcause_mem_keptRegs, ?_⟩
  cases k with
  | powerUp => exact absurd rfl h
  | porst | brownOut | cold | warm => rfl

/-- The enable of the Stolnet controller survives no reset. -/
theorem keyKept_stnCtlS (k : ResetKind) : keyKept k (Reg.stnCtlS.addr 0 0 + Reg.stnCtlS.row.aoff) = false := by
  cases k <;> decide

/-! ### What the last operations of a reset can change -/

/-- Two states differ at most in the free values spent, registers, the timebase and the field die. -/
def ResetTail (s t : State) : Prop := t = { s with free := t.free, regs := t.regs, tb := t.tb, dio := t.dio }

namespace ResetTail
variable {s t u : State}

theorem refl (s : State) : ResetTail s s := rfl

theorem trans (h : ResetTail s t) (g : ResetTail t u) : ResetTail s u := by
  unfold ResetTail at *; rw [g, h]

theorem pwr_eq (h : ResetTail s t) : t.pwr = s.pwr := by rw [h]
theorem pins_eq (h : ResetTail s t) : t.pins = s.pins := by rw [h]
theorem mem_eq (h : ResetTail s t) : t.mem = s.mem := by rw [h]
theorem engs_eq (h : ResetTail s t) : t.engs = s.engs := by rw [h]
theorem parts_eq (h : ResetTail s t) : t.parts = s.parts := by rw [h]
theorem fuses_eq (h : ResetTail s t) : t.fuses = s.fuses := by rw [h]

end ResetTail

/-- Two states differ at most in the field die. -/
def FieldOnly (s t : State) : Prop := t = { s with dio := t.dio }

namespace FieldOnly
variable {s t u : State}

theorem refl (s : State) : FieldOnly s s := rfl

theorem trans (h : FieldOnly s t) (g : FieldOnly t u) : FieldOnly s u := by
  unfold FieldOnly at *; rw [g, h]

theorem regs_eq (h : FieldOnly s t) : t.regs = s.regs := by rw [h]
theorem tb_eq (h : FieldOnly s t) : t.tb = s.tb := by rw [h]
theorem tail (h : FieldOnly s t) : ResetTail s t := by rw [ResetTail, h]

end FieldOnly

theorem deadTime_fieldOnly (l : Nat) (s0 s : State) : FieldOnly s (deadTime l s0 s) := by
  unfold deadTime; split <;> rfl

theorem deadTimes_fieldOnly (ls : List Nat) (s0 s : State) : FieldOnly s (deadTimes ls s0 s) :=
  List.foldlRecOn ls _ (.refl s) fun t h l _ => h.trans (deadTime_fieldOnly l s0 t)

theorem keepCounts_of_ne_warm {k : ResetKind} (h : k ≠ .warm) (old s : State) : keepCounts k old s = s := if_pos h

theorem keepCounts_tail (k : ResetKind) (old s : State) : ResetTail s (keepCounts k old s) := by
  unfold keepCounts
  split
  · rfl
  · exact List.foldlRecOn _ _ (.refl s) fun t h i _ => h.trans rfl

/-- The write counts of key slots are no other register's. -/
theorem keepCounts_get {key : Nat} (h : ∀ i, i < 32 → key ≠ Reg.sheKsStat.addr i 0) (k : ResetKind) (old s : State)
    (d : Word) : Tab.get d (keepCounts k old s).regs key = Tab.get d s.regs key := by
  unfold keepCounts
  split
  · rfl
  · refine List.foldlRecOn (motive := fun t : State => Tab.get d t.regs key = Tab.get d s.regs key) _ _ rfl
      fun t ht i hi => ?_
    exact (Tab.get_set_ne _ _ _ _ (h i (List.mem_range.mp hi))).trans ht

/-! ### The hand-over of the timebase in a reset -/

theorem stnSourceLost_of_off {s : State} (h : stnEn s = false) : stnSourceLost s = s := by
  simp [stnSourceLost, h]

/-- TBSTAT is no other register's. -/
theorem setSrc_get {key : Nat} (h : key ≠ Reg.timTbstat.addr 0 0) (v : Nat) (s : State) (d : Word) :
    Tab.get d (setSrc v s).regs key = Tab.get d s.regs key := Tab.get_set_ne _ _ _ _ h

theorem stnEn_setSrc (v : Nat) (s : State) : stnEn (setSrc v s) = stnEn s :=
  congrArg (·.getLsbD 31) (setSrc_get (by decide) v s _)

/-- With the Stolnet controller disabled, the timebase changes its source and its value alone. -/
theorem handTo_of_stn_off {s : State} (h : stnEn s = false) (v : Nat) :
    ResetTail s (handTo v s) ∧ ∀ key d, key ≠ Reg.timTbstat.addr 0 0 →
      Tab.get d (handTo v s).regs key = Tab.get d s.regs key := by
  unfold handTo
  split
  · exact ⟨rfl, fun _ _ _ => rfl⟩
  · dsimp only
    generalize hx : (if tbSrc s = 0 || v = 0 then _ else s : State) = x
    have hs : ResetTail s x ∧ x.regs = s.regs := by subst hx; split <;> exact ⟨rfl, rfl⟩
    have hen : stnEn x = stnEn s := by simp only [stnEn, State.rdA, hs.2]
    rw [stnSourceLost_of_off (by rw [stnEn_setSrc, hen, h]), ite_self]
    exact ⟨hs.1.trans rfl, fun key d hk => by rw [setSrc_get hk, hs.2]⟩

/-! ### What a reset reaches (02 R44) -/

/-- How resetCore ends, from the state x in which the units are reset: write counts kept, dead times of turned outputs, and
the timebase handed to its pewter source. -/
def resetEnd (k : ResetKind) (s0 x : State) : State :=
  let s2 := deadTimes (List.range 64) s0 (keepCounts k s0 x)
  if decide (k = .powerUp ∨ k = .porst) then s2 else handTo (pewSrc s2) s2

theorem resetEnd_tail (k : ResetKind) (s0 : State) {x : State} (h : stnEn x = false) :
    ResetTail x (resetEnd k s0 x) ∧ ∀ key d, key ≠ Reg.timTbstat.addr 0 0 →
      (∀ i, i < 32 → key ≠ Reg.sheKsStat.addr i 0) →
      Tab.get d (resetEnd k s0 x).regs key = Tab.get d x.regs key := by
  have hd := deadTimes_fieldOnly (List.range 64) s0 (keepCounts k s0 x)
  have ht := (keepCounts_tail k s0 x).trans hd.tail
  have hg : ∀ key d, (∀ i, i < 32 → key ≠ Reg.sheKsStat.addr i 0) →
      Tab.get d (deadTimes (List.range 64) s0 (keepCounts k s0 x)).regs key = Tab.get d x.regs key :=
    fun key d hk => by rw [hd.regs_eq, keepCounts_get hk]
  unfold resetEnd
  dsimp only
  split
  · exact ⟨ht, fun key d _ hk => hg key d hk⟩
  · have hen : stnEn (deadTimes (List.range 64) s0 (keepCounts k s0 x)) = false := by
      rw [stnEn, State.rdA, hg _ _ (by decide)]
      exact h
    obtain ⟨hh, hr⟩ := handTo_of_stn_off hen (pewSrc (deadTimes (List.range 64) s0 (keepCounts k s0 x)))
    exact ⟨ht.trans hh, fun key d h1 h2 => (hr key d h1).trans (hg key d h2)⟩

theorem stnEn_of_filtered {x s : State} {k : ResetKind} (h : x.regs = s.regs.filter (fun e => keyKept k e.1)) :
    stnEn x = false := by
  rw [stnEn, State.rdA, h, Tab.get_filter, if_neg (by rw [keyKept_stnCtlS]; decide)]
  rfl

theorem finishFuse_only (s : State) : finishFuse s = { s with fuses := (finishFuse s).fuses } := by
  unfold finishFuse; split <;> rfl

@[simp] theorem finishFuse_pwr (s : State) : (finishFuse s).pwr = s.pwr := by rw [finishFuse_only]
@[simp] theorem finishFuse_pins (s : State) : (finishFuse s).pins = s.pins := by rw [finishFuse_only]
@[simp] theorem finishFuse_regs (s : State) : (finishFuse s).regs = s.regs := by rw [finishFuse_only]

section
variable (k : ResetKind) (s : State)

theorem resetCore_pwr : (resetCore k s).pwr = s.pwr :=
  (resetEnd_tail k (finishFuse s) (stnEn_of_filtered rfl)).1.pwr_eq.trans (finishFuse_pwr s)

theorem resetCore_pins : (resetCore k s).pins = { s.pins with rstout := false, brst := false } := by
  rw [← finishFuse_pins s]
  exact (resetEnd_tail k (finishFuse s) (stnEn_of_filtered rfl)).1.pins_eq

theorem resetCore_engs : (resetCore k s).engs = [] :=
  (resetEnd_tail k (finishFuse s) (stnEn_of_filtered rfl)).1.engs_eq

theorem resetCore_parts : (resetCore k s).parts = [] :=
  (resetEnd_tail k (finishFuse s) (stnEn_of_filtered rfl)).1.parts_eq

/-- A register at an address of its own is left alone where the R44 table says so, and else at its reset value. -/
theorem resetCore_rd (r : Reg) (i j : Nat) (ht : r.addr i j ≠ Reg.timTbstat.addr 0 0)
    (hs : ∀ n, n < 32 → r.addr i j ≠ Reg.sheKsStat.addr n 0) :
    (resetCore k s).rd r i j = if keyKept k (r.addr i j) then s.rd r i j else r.resetAt i :=
  calc
    _ = Tab.get (r.resetAt i) ((finishFuse s).regs.filter (fun e => keyKept k e.1)) (r.addr i j) :=
      (resetEnd_tail k (finishFuse s) (stnEn_of_filtered rfl)).2 _ _ ht hs
    _ = _ := by rw [Tab.get_filter, finishFuse_regs]; rfl

variable {k}

/-- Only a warm and a cold reset keep memory. -/
theorem resetCore_mem_lost (h : ¬ (k = .warm ∨ k = .cold)) : (resetCore k s).mem = [] :=
  (resetEnd_tail k (finishFuse s) (stnEn_of_filtered rfl)).1.mem_eq.trans (if_neg h)

theorem resetCore_fuses_shadow (h : k = .powerUp ∨ k = .porst) : (resetCore k s).fuses.shadow = [] :=
  (congrArg (·.shadow) (resetEnd_tail k (finishFuse s) (stnEn_of_filtered rfl)).1.fuses_eq).trans
    (if_pos (decide_eq_true h))

theorem resetEnd_tb (h : k = .powerUp ∨ k = .porst) (s0 x : State) : (resetEnd k s0 x).tb = x.tb := by
  have hk : k ≠ .warm := by rcases h with rfl | rfl <;> decide
  rw [resetEnd, if_pos (decide_eq_true h), (deadTimes_fieldOnly _ _ _).tb_eq, keepCounts_of_ne_warm hk]

/-- A reset of the pewter domain clears the timebase. -/
theorem resetCore_tb (h : k = .powerUp ∨ k = .porst) : (resetCore k s).tb = {} :=
  (resetEnd_tb h (finishFuse s) _).trans (if_pos (decide_eq_true h))

theorem resetCore_rstcause (h : k ≠ .powerUp) : (resetCore k s).rd .supRstcause = s.rd .supRstcause := by
  rw [resetCore_rd k s _ _ _ (by decide) (by decide), if_pos (keyKept_supRstcause h)]

theorem resetCore_powerUp_rstcause : (resetCore .powerUp s).rd .supRstcause = 1 := by
  rw [resetCore_rd .powerUp s _ _ _ (by decide) (by decide), if_neg (by rw [keyKept_powerUp]; decide)]
  rfl

end

/-! ### Supplies (02 R29, R34, R424) -/

/-- VPEW_POWER_UP and the loss of VPEW reset everything but the switches of VCORE and a PFAIL that waits. -/
theorem doReset_powerUp (s : State) :
    let t := doReset .powerUp s
    t.pwr = { vpewOk := s.pwr.vpewOk, vcaOn := s.pwr.vcaOn, vcbOn := s.pwr.vcbOn, pfailDue := s.pwr.pfailDue } ∧
      t.now = 0 ∧ t.engs = [] ∧ t.parts = [] ∧ t.mem = [] ∧ t.fuses.shadow = [] ∧ t.pins.rstout = false ∧
      t.rd .supRstcause = 1 :=
  ⟨rfl, congrArg (·.ns) (resetCore_tb s (.inl rfl)), resetCore_engs _ s, resetCore_parts _ s,
    resetCore_mem_lost s (by decide), resetCore_fuses_shadow s (.inl rfl), congrArg (·.rstout) (resetCore_pins _ s),
    resetCore_powerUp_rstcause s⟩

theorem doReset_brownOut (s : State) :
    let t := doReset .brownOut s
    t.pwr = { pwrReset s.pwr with browned := true } ∧ t.rd .supRstcause = s.rd .supRstcause ∧ t.mem = [] ∧
      t.engs = [] ∧ t.parts = [] :=
  ⟨congrArg (fun p => { pwrReset p with browned := true }) (resetCore_pwr _ s), resetCore_rstcause s (by decide),
    resetCore_mem_lost s (by decide), resetCore_engs _ s, resetCore_parts _ s⟩

section
variable {s : State}

theorem vpewUp_of_down (h : s.pwr.vpewOk = false) :
    vpewUp s = (doReset .powerUp (s.setPwr { s.pwr with vpewOk := true })).setPwr
      { vcaOn := s.pwr.vcaOn, vcbOn := s.pwr.vcbOn, pfailDue := s.pwr.pfailDue } := by
  rw [vpewUp, if_neg (by simp [h])]
  rfl

theorem vpewDown_of_up (h : s.pwr.vpewOk = true) :
    vpewDown s = doReset .powerUp (s.setPwr { s.pwr with vpewOk := false }) := by
  rw [vpewDown, if_neg (by simp [h])]

theorem bootFrom_one (h : s.pins.wrst = true) :
    bootFrom 1 s = s.setPwr { s.pwr with wrstHold := none, boot := .step 1 } := by
  rw [bootFrom, if_neg (by simp [h])]
  rfl

theorem bootFrom_two (h : s.pins.wrst = true) :
    bootFrom 2 s = startStep2 (s.setPwr { s.pwr with wrstHold := none }) := by
  rw [bootFrom, if_neg (by simp [h])]
  rfl

/-- Monitors that can be armed are armed; TEST_EN decides between the fatal halt and the boot. -/
theorem monitorArm_of_ready (ht : tbHeld s = false) (ha : s.pwr.armed = false) (hf : s.pwr.fatal = false)
    (hv : vcoreOn s = true) :
    monitorArm s = if s.pins.testEn then fatalHalt 1 (s.setPwr { s.pwr with armed := true })
      else bootFrom 1 (s.setPwr { s.pwr with armed := true }) := by
  rw [monitorArm, if_neg (by simp [ht, ha, hf, hv])]
  rfl

/-- The switch of a VCORE group opens, and the level of its power-good ball is a free value (DESIGN CHOICE log 50). -/
def vcoreOff (b : Bool) (s : State) : State :=
  State.spend (if b then
    { s with pwr := { s.pwr with vcbOn := false }, pins := { s.pins with vcbPg := Config.pgLevel s.free } }
  else { s with pwr := { s.pwr with vcaOn := false }, pins := { s.pins with vcaPg := Config.pgLevel s.free } })

/-- The alarm and the record of a group that is off, unless a reset holds the logic. -/
def vcoreTold (b : Bool) (s : State) : State :=
  if s.pwr.boot = .held then s else alarmRec .sup .vcoreLost [wd b.toNat] s

theorem vcoreTold_pwr (b : Bool) (s : State) : (vcoreTold b s).pwr = s.pwr := by
  unfold vcoreTold
  split
  · rfl
  · rw [alarmRec_only]

theorem vcoreOn_vcoreTold_vcoreOff (b : Bool) (s : State) :
    vcoreOn (vcoreTold b (vcoreOff b s)) = if b then s.pwr.vcaOn else s.pwr.vcbOn := by
  rw [vcoreOn, vcoreTold_pwr]
  cases b with
  | false => exact Bool.false_or _
  | true => exact Bool.or_false _

/-- A group that is on is switched off and told of; the brown-out follows unless the other group is on. -/
theorem vcoreDisconnect_of_on {b : Bool} (h : (if b then s.pwr.vcbOn else s.pwr.vcaOn) = true) :
    vcoreDisconnect b s = if (if b then s.pwr.vcaOn else s.pwr.vcbOn) then vcoreTold b (vcoreOff b s)
      else brownOut (vcoreTold b (vcoreOff b s)) := by
  rw [← vcoreOn_vcoreTold_vcoreOff, vcoreDisconnect, h]
  cases b <;> rfl

theorem brownOut_of_armed (ha : s.pwr.armed = true) (hb : s.pwr.browned = false) :
    brownOut s = doReset .brownOut (s.setBits .supRstcause 4) := by
  rw [brownOut, if_neg (by simp [ha, hb])]
  rfl

theorem brownRecovery_of_browned (hb : s.pwr.browned = true) (hv : vcoreOn s = true) (hf : s.pwr.fatal = false) :
    brownRecovery s = bootFrom 2 (s.setPwr { s.pwr with browned := false }) := by
  rw [brownRecovery, if_neg (by simp [hb, hv])]
  exact if_neg (by rw [Bool.not_eq_true]; exact hf)

/-! ### Power failure (02 R32, R33, R423) -/

/-- PFAIL is high and latched in PFLAT. -/
def pfailSeen (s : State) : State :=
  { s with pins := { s.pins with pfail := true }, pwr := { s.pwr with pflat := true } }

/-- PFAIL that rises out of the resets of the pewter domain is latched; in Run out of reset its timeline starts, or a flush
that runs goes on. -/
theorem pfailRise_of_low (hp : s.pins.pfail = false) (ht : tbHeld s = false) :
    pfailRise s = if inReset s || s.pwr.state ≠ .run then (pfailSeen s).setPwr { (pfailSeen s).pwr with pfailDue := true }
      else if s.pwr.flush.isSome then record .powerFail 0 [lo32 s.now, hi32 s.now] (pfailSeen s)
      else pfailTimeline (pfailSeen s) := by
  rw [pfailRise, if_neg (by simp [hp])]
  exact if_neg (by rw [Bool.not_eq_true]; exact ht)

theorem flushComplete_of_flush (h : s.pwr.flush ≠ none) : flushComplete s =
    ((flushEnd s).setPwr { (flushEnd s).pwr with flush := none }).setBits .supPwrstat 1 := by
  rw [flushComplete, if_neg (by simpa using h)]

end

end Sys2Proof.Machine
end

section
/-!
CERTIFICATE. The statement about supplies, monitors and PFAIL, settled.
-/

namespace Sys2Proof.Machine

/-- Settles O35, clause by clause: each command in the case that its conditions name. -/
theorem suppliesAndPowerFail : Obligations.SuppliesAndPowerFail := by
  unfold Obligations.SuppliesAndPowerFail
  intro s
  refine ⟨fun h => ?vpewUp, fun h => ?vpewDown, fun h => congrArg Host.Outcome.next (if_pos h),
    fun ht ha hf hv => ?arm, rfl, rfl, fun b h => ?disconnect, fun ha hb => ?brownOut,
    fun hb hv hf hw => ?recovery, fun hp ht => ?pfail,
    fun h => congrArg Host.Outcome.next (flushComplete_of_flush h), rfl⟩
  case vpewUp =>
    obtain ⟨-, hn, he, hp, hm, hs, -, hr⟩ := doReset_powerUp (s.setPwr { s.pwr with vpewOk := true })
    exact ⟨_, congrArg Host.Outcome.next (vpewUp_of_down h), rfl, hn, he, hp, hm, hs, hr⟩
  case vpewDown =>
    obtain ⟨hw, hn, he, hp, hm, -, ho, -⟩ := doReset_powerUp (s.setPwr { s.pwr with vpewOk := false })
    exact ⟨_, congrArg Host.Outcome.next (vpewDown_of_up h), hw, hn, he, hp, hm, ho⟩
  case arm =>
    have hm := monitorArm_of_ready ht ha hf hv
    exact ⟨fun h => congrArg Host.Outcome.next (hm.trans (if_pos h)),
      fun h hw => congrArg Host.Outcome.next ((hm.trans (if_neg (by simp [h]))).trans (bootFrom_one hw))⟩
  case disconnect =>
    have hd := vcoreDisconnect_of_on h
    have hs : vcoreTold b (vcoreOff b s) = if s.pwr.boot = .held then vcoreOff b s
        else alarmRec .sup .vcoreLost [wd b.toNat] (vcoreOff b s) := by cases b <;> rfl
    rw [hs] at hd
    exact ⟨fun ho => congrArg Host.Outcome.next (hd.trans (if_pos ho)),
      fun ho => congrArg Host.Outcome.next (hd.trans (if_neg (by simp [ho])))⟩
  case brownOut =>
    obtain ⟨hw, hr, hm, he, hp⟩ := doReset_brownOut (s.setBits .supRstcause 4)
    exact ⟨_, congrArg Host.Outcome.next (brownOut_of_armed ha hb), congrArg (·.browned) hw, congrArg (·.boot) hw,
      congrArg (·.fatal) hw, hr.trans (State.wr_rd _ _ _ _ _), hm, he, hp⟩
  case recovery =>
    exact congrArg Host.Outcome.next ((brownRecovery_of_browned hb hv hf).trans (bootFrom_two hw))
  case pfail =>
    have hr := pfailRise_of_low hp ht
    refine ⟨fun h => congrArg Host.Outcome.next (hr.trans (if_pos (by simpa using h))), fun hi hs => ?_⟩
    rw [if_neg (by simp [hi, hs])] at hr
    exact ⟨fun hf => congrArg Host.Outcome.next (hr.trans (if_pos (Option.isSome_iff_ne_none.mpr hf))),
      fun hf => congrArg Host.Outcome.next (hr.trans (if_neg (by simp [hf])))⟩

end Sys2Proof.Machine
end

section
/-!
SUPPORT. The words of 06 R137, format by format: the fields that the decoder reads in a word that is put together, and a
word put together again from its own fields.
-/

namespace Sys2Proof

/-! ### The fields of a word that is put together -/

section
variable (m : BitVec 6) (d a b c : BitVec 5) (f : BitVec 6)

@[simp] theorem wordR_d : (wordR m d a b c f).extractLsb' 21 5 = d := by
  change (m ++ d ++ a ++ b ++ c ++ f).extractLsb' 21 5 = d
  iterate 4 rw [BitVec.extractLsb'_append_eq_of_le (by decide)]
  exact BitVec.extractLsb'_append_eq_right

@[simp] theorem wordR_a : (wordR m d a b c f).extractLsb' 16 5 = a := by
  change (m ++ d ++ a ++ b ++ c ++ f).extractLsb' 16 5 = a
  iterate 3 rw [BitVec.extractLsb'_append_eq_of_le (by decide)]
  exact BitVec.extractLsb'_append_eq_right

@[simp] theorem wordR_b : (wordR m d a b c f).extractLsb' 11 5 = b := by
  change (m ++ d ++ a ++ b ++ c ++ f).extractLsb' 11 5 = b
  iterate 2 rw [BitVec.extractLsb'_append_eq_of_le (by decide)]
  exact BitVec.extractLsb'_append_eq_right

@[simp] theorem wordR_c : (wordR m d a b c f).extractLsb' 6 5 = c := by
  change (m ++ d ++ a ++ b ++ c ++ f).extractLsb' 6 5 = c
  rw [BitVec.extractLsb'_append_eq_of_le (by decide)]
  exact BitVec.extractLsb'_append_eq_right

@[simp] theorem wordR_func : (wordR m d a b c f).extractLsb' 0 6 = f := BitVec.extractLsb'_append_eq_right

end

section
variable (m : BitVec 6) (d a : BitVec 5) (imm : BitVec 16)

@[simp] theorem wordI_d : (wordI m d a imm).extractLsb' 21 5 = d := by
  change (m ++ d ++ a ++ imm).extractLsb' 21 5 = d
  iterate 2 rw [BitVec.extractLsb'_append_eq_of_le (by decide)]
  exact BitVec.extractLsb'_append_eq_right

@[simp] theorem wordI_a : (wordI m d a imm).extractLsb' 16 5 = a := by
  change (m ++ d ++ a ++ imm).extractLsb' 16 5 = a
  rw [BitVec.extractLsb'_append_eq_of_le (by decide)]
  exact BitVec.extractLsb'_append_eq_right

@[simp] theorem wordI_imm : (wordI m d a imm).extractLsb' 0 16 = imm := BitVec.extractLsb'_append_eq_right

end

theorem jump_off (m : BitVec 6) (off : BitVec 26) : (m ++ off : BitVec 32).extractLsb' 0 26 = off :=
  BitVec.extractLsb'_append_eq_right

theorem svc_zeros (n : BitVec 12) : (5#6 ++ 0#14 ++ n : BitVec 32).extractLsb' 12 14 = 0 := by
  rw [BitVec.extractLsb'_append_eq_of_le (by decide)]
  exact BitVec.extractLsb'_append_eq_right

theorem wordBit_direct_fields (op : BitVec 5) (sp : BitVec 2) (y : BitVec 16) (k : BitVec 3) :
    let w := wordBit op (.direct sp y k)
    w.extractLsb' 26 6 = 0x10#6 ∧ w.extractLsb' 21 5 = op ∧ w.extractLsb' 19 2 = sp ∧ w.extractLsb' 3 16 = y ∧
      w.extractLsb' 0 3 = k := by
  intro w
  have hw : w = 0x10#6 ++ op ++ sp ++ y ++ k := rfl
  rw [hw]
  refine ⟨?_, ?_, ?_, ?_, BitVec.extractLsb'_append_eq_right⟩ <;>
    repeat rw [BitVec.extractLsb'_append_eq_of_le (by decide)]
  · exact BitVec.extractLsb'_eq_self
  all_goals exact BitVec.extractLsb'_append_eq_right

theorem wordBit_indirect_fields (op : BitVec 5) (sp : BitVec 2) (a b : WReg) :
    let w := wordBit op (.indirect sp a b)
    w.extractLsb' 26 6 = 0x11#6 ∧ w.extractLsb' 21 5 = op ∧ w.extractLsb' 19 2 = sp ∧ w.extractLsb' 14 5 = a ∧
      w.extractLsb' 9 5 = b ∧ w.extractLsb' 0 9 = 0 := by
  intro w
  have hw : w = 0x11#6 ++ op ++ sp ++ a ++ b ++ 0#9 := rfl
  rw [hw]
  refine ⟨?_, ?_, ?_, ?_, ?_, BitVec.extractLsb'_append_eq_right⟩ <;>
    repeat rw [BitVec.extractLsb'_append_eq_of_le (by decide)]
  · exact BitVec.extractLsb'_eq_self
  all_goals exact BitVec.extractLsb'_append_eq_right

/-- The immediate of SHI holds the kind and the count under five zeros (06 R144). -/
theorem shi_fields (kind : BitVec 3) (cnt : BitVec 8) :
    let imm := 0#5 ++ kind ++ cnt
    imm.extractLsb' 11 5 = 0 ∧ imm.extractLsb' 8 3 = kind ∧ imm.extractLsb' 0 8 = cnt := by
  refine ⟨?_, ?_, BitVec.extractLsb'_append_eq_right⟩ <;>
    repeat rw [BitVec.extractLsb'_append_eq_of_le (by decide)]
  · exact BitVec.extractLsb'_eq_self
  · exact BitVec.extractLsb'_append_eq_right

/-- A float register's field has bit 4 clear, and names that register. -/
@[simp] theorem isF_fieldF (r : FReg) : isF (fieldF r) = true := by
  have h : (0#1 ++ r).extractLsb' 4 1 = 0#1 := BitVec.extractLsb'_append_eq_left
  exact decide_eq_true h

@[simp] theorem regF_fieldF (r : FReg) : regF (fieldF r) = r := BitVec.extractLsb'_append_eq_right

/-! ### A word put together from its own fields -/

theorem wordR_of_fields (w : Word) :
    wordR (w.extractLsb' 26 6) (w.extractLsb' 21 5) (w.extractLsb' 16 5) (w.extractLsb' 11 5) (w.extractLsb' 6 5)
      (w.extractLsb' 0 6) = w := by
  unfold wordR
  repeat rw [BitVec.extractLsb'_append_extractLsb'_eq_extractLsb' (by decide)]
  exact BitVec.extractLsb'_eq_self

theorem wordI_of_fields (w : Word) :
    wordI (w.extractLsb' 26 6) (w.extractLsb' 21 5) (w.extractLsb' 16 5) (w.extractLsb' 0 16) = w := by
  unfold wordI
  repeat rw [BitVec.extractLsb'_append_extractLsb'_eq_extractLsb' (by decide)]
  exact BitVec.extractLsb'_eq_self

theorem jump_of_fields (w : Word) : (w.extractLsb' 26 6 ++ w.extractLsb' 0 26 : BitVec 32) = w := by
  rw [BitVec.extractLsb'_append_extractLsb'_eq_extractLsb' (by decide)]
  exact BitVec.extractLsb'_eq_self

theorem svc_of_fields (w : Word) :
    (w.extractLsb' 26 6 ++ w.extractLsb' 12 14 ++ w.extractLsb' 0 12 : BitVec 32) = w := by
  repeat rw [BitVec.extractLsb'_append_extractLsb'_eq_extractLsb' (by decide)]
  exact BitVec.extractLsb'_eq_self

theorem wordBit_direct_of_fields (w : Word) (h : w.extractLsb' 26 6 = 0x10#6) :
    wordBit (w.extractLsb' 21 5) (.direct (w.extractLsb' 19 2) (w.extractLsb' 3 16) (w.extractLsb' 0 3)) = w := by
  rw [wordBit, ← h]
  repeat rw [BitVec.extractLsb'_append_extractLsb'_eq_extractLsb' (by decide)]
  exact BitVec.extractLsb'_eq_self

theorem wordBit_indirect_of_fields (w : Word) (h : w.extractLsb' 26 6 = 0x11#6) (hz : w.extractLsb' 0 9 = 0#9) :
    wordBit (w.extractLsb' 21 5) (.indirect (w.extractLsb' 19 2) (w.extractLsb' 14 5) (w.extractLsb' 9 5)) = w := by
  rw [wordBit, ← h, ← hz]
  repeat rw [BitVec.extractLsb'_append_extractLsb'_eq_extractLsb' (by decide)]
  exact BitVec.extractLsb'_eq_self

theorem shi_of_fields {imm : BitVec 16} (h : imm.extractLsb' 11 5 = 0#5) :
    0#5 ++ imm.extractLsb' 8 3 ++ imm.extractLsb' 0 8 = imm := by
  rw [← h]
  repeat rw [BitVec.extractLsb'_append_extractLsb'_eq_extractLsb' (by decide)]
  exact BitVec.extractLsb'_eq_self

/-- A field that names a float register is that register's field. -/
theorem fieldF_regF {x : BitVec 5} (h : isF x = true) : fieldF (regF x) = x := by
  have hz : x.extractLsb' 4 1 = 0#1 := of_decide_eq_true h
  unfold fieldF regF
  rw [← hz, BitVec.extractLsb'_append_extractLsb'_eq_extractLsb' (by decide)]
  exact BitVec.extractLsb'_eq_self

end Sys2Proof
end

section
/-!
SUPPORT. Which part of the decoder reads the words of each format and major value (06 R137, R139), and what a part that
reads a word has read.
-/

namespace Sys2Proof

/-! ### The decoder on the words of each format -/

section
variable (e : Exe) (d a b c : BitVec 5) (f : BitVec 6)

theorem gleigDecode_alu : gleigDecode e (wordR 1 d a b c f) = decodeAlu e f.toNat d a b c := by
  simp [gleigDecode, Laws.wordR_major]

theorem gleigDecode_fpu : gleigDecode e (wordR 2 d a b c f) = decodeFpu e f.toNat d a b c := by
  simp [gleigDecode, Laws.wordR_major]

theorem gleigDecode_cmp : gleigDecode e (wordR 3 d a b c f) = decodeCmp e f.toNat d a b c := by
  simp [gleigDecode, Laws.wordR_major]

theorem gleigDecode_sys : gleigDecode e (wordR 4 d a b c f) = decodeSys e f.toNat d a b c := by
  simp [gleigDecode, Laws.wordR_major]

theorem gleigDecode_logic : gleigDecode e (wordR 6 d a b c f) = decodeLogic e f.toNat d a b c := by
  simp [gleigDecode, Laws.wordR_major]

theorem gleigDecode_tmr : gleigDecode e (wordR 7 d a b c f) = decodeTmr e f.toNat d a b c := by
  simp [gleigDecode, Laws.wordR_major]

theorem gleigDecode_atom : gleigDecode e (wordR 8 d a b c f) = decodeAtom e f.toNat d a b c := by
  simp [gleigDecode, Laws.wordR_major]

end

/-- Majors 24 to 47 are those of the immediates, loads and stores. -/
theorem gleigDecode_imm (e : Exe) (m : BitVec 6) (d a : BitVec 5) (imm : BitVec 16) (h : 24 ≤ m.toNat ∧ m.toNat < 48) :
    gleigDecode e (wordI m d a imm) = decodeImm e m.toNat d a imm := by
  simp only [gleigDecode, Laws.wordI_major, wordI_d, wordI_a, wordI_imm]
  split <;> first | omega | rfl

theorem gleigDecode_svc (e : Exe) (n : BitVec 12) : gleigDecode e (5#6 ++ 0#14 ++ n : BitVec 32) = some (.svc e n) := by
  have hn : (5#6 ++ 0#14 ++ n : BitVec 32).extractLsb' 0 12 = n := BitVec.extractLsb'_append_eq_right
  simp only [gleigDecode, Laws.svc_major, svc_zeros, hn]
  rfl

/-- The operand of a bit instruction stands in the fields of its format, the op value in the field of d. -/
theorem gleigDecode_bit (e : Exe) (op : BitVec 5) (o : BitOpd) :
    gleigDecode e (wordBit op o) = decodeBitOp e op.toNat o := by
  cases o with
  | direct sp y k =>
    obtain ⟨hm, hop, hsp, hy, hk⟩ := wordBit_direct_fields op sp y k
    simp only [gleigDecode, hm, hop, hsp, hy, hk]
    rfl
  | indirect sp a b =>
    obtain ⟨hm, hop, hsp, ha, hb, hz⟩ := wordBit_indirect_fields op sp a b
    simp only [gleigDecode, hm, hop, hsp, ha, hb, hz]
    rfl

section
variable (e : Exe) (off : BitVec 26)

theorem gleigDecode_j : gleigDecode e (48#6 ++ off : BitVec 32) = some (.j e off) := by
  simp [gleigDecode, Laws.jump_major, jump_off]

theorem gleigDecode_call : gleigDecode e (49#6 ++ off : BitVec 32) = some (.call e off) := by
  simp [gleigDecode, Laws.jump_major, jump_off]

theorem gleigDecode_jc : gleigDecode e (50#6 ++ off : BitVec 32) = some (.jc e off) := by
  simp [gleigDecode, Laws.jump_major, jump_off]

theorem gleigDecode_jcn : gleigDecode e (51#6 ++ off : BitVec 32) = some (.jcn e off) := by
  simp [gleigDecode, Laws.jump_major, jump_off]

end

/-- A field that must be zero is. -/
theorem need_eq_some {b : Bool} {x i : Instr} (h : need b x = some i) : b = true ∧ x = i := by
  cases b with
  | false => exact absurd h nofun
  | true => exact ⟨rfl, Option.some.inj h⟩

end Sys2Proof
end

section
/-!
SUPPORT. The encoder and the decoder undo each other: the word of a well-formed instruction is read as that instruction,
and the word that an instruction is read in is its word.
-/

namespace Sys2Proof

/-! ### The decoder reads what the encoder writes -/

theorem need_true {b : Bool} {i : Instr} (h : b = true) : need b i = some i := if_pos h

/-- The word of a well-formed instruction is read as that instruction, group by group of 06 R139. -/
theorem gleigDecode_gleigWord {i : Instr} {w : Word} (h : gleigWord i = some w) (hw : i.wf = true) :
    ∃ e, gleigDecode e w = some i := by
  cases i
  case add | sub | adds | subs | neg | mul | muls | div | divu | and | or | xor | not | shl | shr | sar | rol | ror | mov =>
    cases h
    exact ⟨_, gleigDecode_alu _ _ _ _ _ _⟩
  case addf e _ _ _ | subf e _ _ _ | mulf e _ _ _ | divf e _ _ _ | sqrtf e _ _ | absf e _ _ | negf e _ _ | movf e _ _ |
      cvtfw e _ _ | cvtwf e _ _ | movfw e _ _ | movwf e _ _ =>
    cases h
    exact ⟨e, (gleigDecode_fpu _ _ _ _ _ _).trans (by simp [decodeFpu, need_true])⟩
  case cmpEq | cmpNe | cmpLt | cmpLe | cmpGt | cmpGe | cmpLtu | cmpLeu | cmpGtu | cmpGeu =>
    cases h
    exact ⟨_, gleigDecode_cmp _ _ _ _ _ _⟩
  case fcmpEq e _ _ | fcmpNe e _ _ | fcmpLt e _ _ | fcmpLe e _ _ | fcmpGt e _ _ | fcmpGe e _ _ =>
    cases h
    exact ⟨e, (gleigDecode_cmp _ _ _ _ _ _).trans (by simp [decodeCmp, need_true])⟩
  case nop | fence | cyend | eret | mfsw | mtsw | jr | callr =>
    cases h
    exact ⟨_, gleigDecode_sys _ _ _ _ _ _⟩
  case svc =>
    cases h
    exact ⟨_, gleigDecode_svc _ _⟩
  case laNot | gopenLd | gopenAnd | gopenOr | gopenXor | gopenAndn | gopenOrn | gopenXorn | gclose | rdla | wrla =>
    cases h
    exact ⟨_, gleigDecode_logic _ _ _ _ _ _⟩
  case tonUs | tonMs | tofUs | tofMs | tpUs | tpMs | ctu | ctd | crst | cld =>
    cases h
    exact ⟨_, gleigDecode_tmr _ _ _ _ _ _⟩
  case swap | cas | fadd =>
    cases h
    exact ⟨_, gleigDecode_atom _ _ _ _ _ _⟩
  case bld | bldn | band | bandn | bor | born | bxor | bxorn | bset | bclr | basg | brise | bfall =>
    cases h
    exact ⟨_, (gleigDecode_bit _ _ _).trans (need_true hw)⟩
  case addi | andi | ori | xori | movi | movhi | ldw | ldh | ldhu | ldb | ldbu | stw | sth | stb =>
    cases h
    exact ⟨_, gleigDecode_imm _ _ _ _ _ (by decide)⟩
  case ldf e _ _ _ | stf e _ _ _ =>
    cases h
    exact ⟨e, (gleigDecode_imm _ _ _ _ _ (by decide)).trans (by simp [decodeImm, need_true])⟩
  case shi e d a kind cnt =>
    cases h
    obtain ⟨hz, hk, hc⟩ := shi_fields kind cnt
    refine ⟨e, (gleigDecode_imm _ _ _ _ _ (by decide)).trans ?_⟩
    have hn : decodeImm e 30 d a (0#5 ++ kind ++ cnt) = need (decide (kind ≤ 4)) (.shi e d a kind cnt) := by
      simp only [decodeImm, hz, hk, hc, decide_true, Bool.true_and]
    exact hn.trans (need_true hw)
  case j =>
    cases h
    exact ⟨_, gleigDecode_j _ _⟩
  case call =>
    cases h
    exact ⟨_, gleigDecode_call _ _⟩
  case jc =>
    cases h
    exact ⟨_, gleigDecode_jc _ _⟩
  case jcn =>
    cases h
    exact ⟨_, gleigDecode_jcn _ _⟩
  all_goals exact absurd h nofun

/-! ### The encoder writes what the decoder reads -/

/-- Instruction i is well formed and its word is w. -/
def SpelledBy (w : Word) (i : Instr) : Prop := gleigWord i = some w ∧ i.wf = true

/-- An instruction read under a condition is spelled by a word if the condition makes it so. -/
theorem SpelledBy.of_need {b : Bool} {x i : Instr} {w : Word} (h : need b x = some i)
    (hx : b = true → SpelledBy w x) : SpelledBy w i := by
  obtain ⟨hb, rfl⟩ := need_eq_some h
  exact hx hb

theorem SpelledBy.of_some {x i : Instr} {w : Word} (h : some x = some i) (hx : SpelledBy w x) : SpelledBy w i :=
  Option.some.inj h ▸ hx

section
variable {e : Exe} {n : Nat} {d a b c : BitVec 5} {i : Instr}

/-- The ALU group (06 R142). -/
theorem spelledBy_of_decodeAlu (h : decodeAlu e n d a b c = some i) : SpelledBy (wordR 1 d a b c (BitVec.ofNat 6 n)) i := by
  unfold decodeAlu at h
  split at h
  case h_8 | h_9 => exact .of_some h ⟨rfl, rfl⟩
  case h_20 => cases h
  all_goals
    refine .of_need h fun hz => ?_
    simp only [Bool.and_eq_true, decide_eq_true_eq] at hz
    simp [SpelledBy, gleigWord, Instr.wf, hz]

/-- The FPU group (06 R147). -/
theorem spelledBy_of_decodeFpu (h : decodeFpu e n d a b c = some i) : SpelledBy (wordR 2 d a b c (BitVec.ofNat 6 n)) i := by
  unfold decodeFpu at h
  split at h
  case h_13 => cases h
  all_goals
    refine .of_need h fun hz => ?_
    simp only [Bool.and_eq_true, decide_eq_true_eq] at hz
    simp [SpelledBy, gleigWord, Instr.wf, fieldF_regF, hz]

/-- The CMP group (06 R146). -/
theorem spelledBy_of_decodeCmp (h : decodeCmp e n d a b c = some i) : SpelledBy (wordR 3 d a b c (BitVec.ofNat 6 n)) i := by
  unfold decodeCmp at h
  split at h
  case h_17 => cases h
  all_goals
    refine .of_need h fun hz => ?_
    simp only [Bool.and_eq_true, decide_eq_true_eq] at hz
    simp [SpelledBy, gleigWord, Instr.wf, fieldF_regF, hz]

/-- The SYS group (06 R153). -/
theorem spelledBy_of_decodeSys (h : decodeSys e n d a b c = some i) : SpelledBy (wordR 4 d a b c (BitVec.ofNat 6 n)) i := by
  unfold decodeSys at h
  split at h
  case h_9 => cases h
  all_goals
    refine .of_need h fun hz => ?_
    simp only [Bool.and_eq_true, decide_eq_true_eq] at hz
    simp [SpelledBy, gleigWord, Instr.wf, hz]

/-- A bracket open: the operation is the field of c (06 R149). -/
theorem spelledBy_of_decodeOpen (h : decodeOpen e c = some i) : SpelledBy (wordR 6 0 0 0 c 1) i := by
  have hv : c = BitVec.ofNat 5 c.toNat := by simp
  unfold decodeOpen at h
  split at h
  case h_8 => cases h
  all_goals
    rename_i hc
    rw [hv, hc]
    exact .of_some h ⟨rfl, rfl⟩

/-- The LOGIC group (06 R149). -/
theorem spelledBy_of_decodeLogic (h : decodeLogic e n d a b c = some i) :
    SpelledBy (wordR 6 d a b c (BitVec.ofNat 6 n)) i := by
  unfold decodeLogic at h
  split at h
  case h_2 =>
    split at h
    case isTrue hz =>
      simp only [Bool.and_eq_true, decide_eq_true_eq] at hz
      simp only [hz]
      exact spelledBy_of_decodeOpen h
    case isFalse => cases h
  case h_6 => cases h
  all_goals
    refine .of_need h fun hz => ?_
    simp only [Bool.and_eq_true, decide_eq_true_eq] at hz
    simp [SpelledBy, gleigWord, Instr.wf, hz]

/-- The TMR group (06 R150). -/
theorem spelledBy_of_decodeTmr (h : decodeTmr e n d a b c = some i) : SpelledBy (wordR 7 d a b c (BitVec.ofNat 6 n)) i := by
  unfold decodeTmr at h
  split at h
  case h_11 => cases h
  all_goals
    refine .of_need h fun hz => ?_
    simp only [Bool.and_eq_true, decide_eq_true_eq] at hz
    simp [SpelledBy, gleigWord, Instr.wf, hz]

/-- The ATOM group (06 R152). -/
theorem spelledBy_of_decodeAtom (h : decodeAtom e n d a b c = some i) : SpelledBy (wordR 8 d a b c (BitVec.ofNat 6 n)) i := by
  unfold decodeAtom at h
  split at h
  case h_2 => exact .of_some h ⟨rfl, rfl⟩
  case h_4 => cases h
  all_goals
    refine .of_need h fun hz => ?_
    simp only [decide_eq_true_eq] at hz
    simp [SpelledBy, gleigWord, Instr.wf, hz]

/-- Immediates, loads and stores (06 R144, R145). -/
theorem spelledBy_of_decodeImm {imm : BitVec 16} (h : decodeImm e n d a imm = some i) :
    SpelledBy (wordI (BitVec.ofNat 6 n) d a imm) i := by
  unfold decodeImm at h
  split at h
  case h_7 =>
    refine .of_need h fun hz => ?_
    simp only [Bool.and_eq_true, decide_eq_true_eq] at hz
    obtain ⟨hz, hk⟩ := hz
    exact ⟨congrArg (fun x => some (wordI 30 d a x)) (shi_of_fields hz), decide_eq_true hk⟩
  case h_5 | h_6 =>
    refine .of_need h fun hz => ?_
    simp only [decide_eq_true_eq] at hz
    simp [SpelledBy, gleigWord, Instr.wf, hz]
  case h_13 | h_17 => exact .of_need h fun hz => ⟨by rw [gleigWord, fieldF_regF hz]; rfl, rfl⟩
  case h_18 => cases h
  all_goals exact .of_some h ⟨rfl, rfl⟩

/-- The bit instructions, by their op value (06 R148). -/
theorem spelledBy_of_decodeBitOp {op : BitVec 5} {o : BitOpd} (h : decodeBitOp e op.toNat o = some i) :
    SpelledBy (wordBit op o) i := by
  have hv : op = BitVec.ofNat 5 op.toNat := by simp
  unfold decodeBitOp at h
  split at h
  case h_14 => cases h
  all_goals
    rename_i hop
    rw [hv, hop]
    exact .of_need h fun ho => ⟨rfl, ho⟩

end

/-! ### A word that decodes -/

section
variable {w : Word} {i : Instr} {m : Nat}

theorem major_eq_ofNat (hm : (w.extractLsb' 26 6).toNat = m) : BitVec.ofNat 6 m = w.extractLsb' 26 6 := by
  rw [← hm, BitVec.ofNat_toNat, BitVec.setWidth_eq]

theorem SpelledBy.of_fieldsR (hm : (w.extractLsb' 26 6).toNat = m)
    (h : SpelledBy (wordR (BitVec.ofNat 6 m) (w.extractLsb' 21 5) (w.extractLsb' 16 5) (w.extractLsb' 11 5)
      (w.extractLsb' 6 5) (BitVec.ofNat 6 (w.extractLsb' 0 6).toNat)) i) : SpelledBy w i := by
  rwa [major_eq_ofNat hm, BitVec.ofNat_toNat, BitVec.setWidth_eq, wordR_of_fields] at h

theorem SpelledBy.of_fieldsI
    (h : SpelledBy (wordI (BitVec.ofNat 6 (w.extractLsb' 26 6).toNat) (w.extractLsb' 21 5) (w.extractLsb' 16 5)
      (w.extractLsb' 0 16)) i) : SpelledBy w i := by
  rwa [major_eq_ofNat rfl, wordI_of_fields] at h

theorem SpelledBy.of_jump (hm : (w.extractLsb' 26 6).toNat = m)
    (h : SpelledBy (BitVec.ofNat 6 m ++ w.extractLsb' 0 26) i) : SpelledBy w i := by
  rwa [major_eq_ofNat hm, jump_of_fields] at h

end

/-- A word that decodes is the word of the instruction it decodes to, which is well formed: by the major value. -/
theorem spelledBy_of_gleigDecode {e : Exe} {w : Word} {i : Instr} (h : gleigDecode e w = some i) : SpelledBy w i := by
  simp only [gleigDecode] at h
  split at h
  case h_1 hm => exact .of_fieldsR hm (spelledBy_of_decodeAlu h)
  case h_2 hm => exact .of_fieldsR hm (spelledBy_of_decodeFpu h)
  case h_3 hm => exact .of_fieldsR hm (spelledBy_of_decodeCmp h)
  case h_4 hm => exact .of_fieldsR hm (spelledBy_of_decodeSys h)
  case h_5 hm =>
    refine .of_need h fun hz => ⟨?_, rfl⟩
    have hw := svc_of_fields w
    rw [of_decide_eq_true hz, ← major_eq_ofNat hm] at hw
    exact congrArg some hw
  case h_6 hm => exact .of_fieldsR hm (spelledBy_of_decodeLogic h)
  case h_7 hm => exact .of_fieldsR hm (spelledBy_of_decodeTmr h)
  case h_8 hm => exact .of_fieldsR hm (spelledBy_of_decodeAtom h)
  case h_9 hm =>
    rw [← wordBit_direct_of_fields w (major_eq_ofNat hm).symm]
    exact spelledBy_of_decodeBitOp h
  case h_10 hm =>
    split at h
    case isTrue hz =>
      rw [← wordBit_indirect_of_fields w (major_eq_ofNat hm).symm hz]
      exact spelledBy_of_decodeBitOp h
    case isFalse => cases h
  case h_11 hm | h_12 hm | h_13 hm | h_14 hm => exact .of_jump hm (.of_some h ⟨rfl, rfl⟩)
  case h_15 => exact .of_fieldsI (spelledBy_of_decodeImm h)

end Sys2Proof
end

section
/-!
CERTIFICATE. The statements about the words of instructions, settled.
-/

namespace Sys2Proof

/-- Settles O27: the executor is the instruction's own. -/
theorem gleigDecodesWhatItEncodes : Obligations.GleigDecodesWhatItEncodes := by
  unfold Obligations.GleigDecodesWhatItEncodes
  exact fun _ _ h hw => gleigDecode_gleigWord h hw

/-- Settles O28: the word is put together again from the fields that the decoder took it apart into. -/
theorem everyLegalWordHasOneMeaning : Obligations.EveryLegalWordHasOneMeaning := by
  unfold Obligations.EveryLegalWordHasOneMeaning
  exact fun _ _ _ h => spelledBy_of_gleigDecode h

/-- Settles O29: each word is put together from its fields. -/
theorem writtenOutWords : Obligations.WrittenOutWords := by
  unfold Obligations.WrittenOutWords
  intro e
  refine ⟨rfl, rfl, rfl, rfl, rfl, rfl, rfl, rfl, rfl, rfl, rfl, rfl, rfl, rfl⟩

end Sys2Proof
end

section
/-!
SUPPORT. Instructions that change only their executor, completed: divisions, compares, float operations, jumps.
-/

namespace Sys2Proof.Machine

/-! ### Flags, traps and quotients (05 R115 to R119) -/

/-- With TDZ and TV masked off no word operation traps (05 R118). -/
theorem Alu.trap_of_masked (r : Alu) {sw : Word} (hz : sw.getLsbD 3 = false) (hv : sw.getLsbD 4 = false) :
    r.trap sw = none := by
  simp only [Alu.trap, hz, hv, Bool.and_false, Bool.false_eq_true, if_false]

/-- With TFINV, TFDZ and TFOVF masked off no float operation traps (05 R119). -/
theorem floatTrap_of_masked (f : FFlags) {sw : Word} (hi : sw.getLsbD 5 = false) (hz : sw.getLsbD 6 = false)
    (ho : sw.getLsbD 7 = false) : floatTrap f sw = none := by
  simp only [floatTrap, hi, hz, ho, Bool.and_false, Bool.false_eq_true, if_false]

theorem fitsWord_toInt (x : Word) : fitsWord x.toInt = true := by
  have hl := x.le_toInt
  have hu := x.toInt_lt
  simp only [fitsWord, Bool.and_eq_true, decide_eq_true_eq]
  omega

/-- A signed quotient fits the word but for 8000_0000h over FFFF_FFFFh (05 R116). -/
theorem fitsWord_tdiv {x y : Word} (h : ¬(x = 0x80000000 ∧ y = 0xFFFFFFFF)) :
    fitsWord (x.toInt.tdiv y.toInt) = true := by
  have hd : (x.sdiv y).toInt = x.toInt.tdiv y.toInt :=
    BitVec.toInt_sdiv_of_ne_or_ne x y (Classical.not_and_iff_not_or_not.mp h)
  rw [← hd]
  exact fitsWord_toInt _

/-! ### Completion -/

section
variable {s : State} {e : Exe}

theorem complete_eq_did {f : Engine → Engine} (hf : (f (s.eng e.val)).pc = s.PC e) : complete e.val f s = did s e f := by
  rw [complete, Engine.next, hf]
  rfl

variable (h : issues s e = true)
include h

/-- An operation on the executor's own registers that keeps PC completes. -/
theorem plainOp_eq_did {f : Engine → Engine} (hf : (f (s.eng e.val)).pc = s.PC e) : plainOp e.val f s = did s e f :=
  (onExec_of_issues s e _ h).trans (complete_eq_did hf)

/-- A compare loads LA and changes nothing else but PC (06 R146). -/
theorem plainOp_la {f : Engine → Bool} {r : Bool} (hr : f (s.eng e.val) = r) :
    plainOp e.val (fun g => { g with la := f g }) s = did s e (fun g => { g with la := r }) := by
  subst hr
  exact plainOp_eq_did h rfl

/-- A division that does not trap writes the quotient, then the remainder, and FL (06 R143). -/
theorem divOp_of_no_trap {d a b c : WReg} {f : Word → Word → Alu} {g : Word → Word → Word} {q r : Word} {v z : Bool}
    (hf : f (s.W e a) (s.W e b) = { val := q, c := some false, v := some v, dz := some z })
    (hg : g (s.W e a) (s.W e b) = r) (hz : (s.eng e.val).sw.getLsbD 3 = false) (hv : (s.eng e.val).sw.getLsbD 4 = false) :
    divOp e.val d a b c f g s =
      did s e (fun g => { (g.setW d q).setW c r with fl := flWord q false v z }) := by
  subst hg
  rw [divOp, onExec_of_issues s e _ h]
  simp only [hf, Alu.trap_of_masked _ hz hv]
  rfl

section
variable (hi : (s.eng e.val).sw.getLsbD 5 = false) (hz : (s.eng e.val).sw.getLsbD 6 = false)
  (ho : (s.eng e.val).sw.getLsbD 7 = false)
include hi hz ho

/-- A float operation with its traps masked off writes its destination and the sticky flags (06 R147, 05 R119). -/
theorem onExec_floatEnd (put : Word → Engine → Engine) (r : State → FRes) :
    onExec e.val (fun s => floatEnd e.val put (r s) s) s =
      did s e (fun g => { put (r s).1 g with sw := stick (r s).2 g.sw }) := by
  rw [onExec_of_issues s e _ h]
  simp only [floatEnd, floatTrap_of_masked _ hi hz ho]
  rfl

theorem floatOp_of_masked (d a b : FReg) (f : Word → Word → FRes) :
    floatOp e.val d a b f s =
      did s e (fun g => { g.setF d (f (s.F e a) (s.F e b)).1 with sw := stick (f (s.F e a) (s.F e b)).2 g.sw }) :=
  onExec_floatEnd h hi hz ho _ _

theorem floatOp1_of_masked (d a : FReg) (f : Word → FRes) :
    floatOp1 e.val d a f s =
      did s e (fun g => { g.setF d (f (s.F e a)).1 with sw := stick (f (s.F e a)).2 g.sw }) :=
  onExec_floatEnd h hi hz ho _ _

end

end

/-! ### Compares by value (06 R146, 05 R120) -/

theorem beq_eq_decide_toInt (x y : Word) : (x == y) = decide (x.toInt = y.toInt) := by
  simp only [BitVec.toInt_inj]
  rfl

theorem bne_eq_decide_toInt (x y : Word) : (x != y) = decide (x.toInt ≠ y.toInt) := by
  rw [bne, beq_eq_decide_toInt, decide_not]

/-- A relation that a NaN operand makes false. -/
theorem cmpF_ordered (rel : Int → Int → Bool) (u v : Word) :
    cmpF rel false u v = (!(isNaN u || isNaN v) && rel (fVal u) (fVal v)) := by
  unfold cmpF
  cases isNaN u || isNaN v <;> rfl

/-- A relation that a NaN operand makes true. -/
theorem cmpF_unordered (rel : Int → Int → Bool) (u v : Word) :
    cmpF rel true u v = (isNaN u || isNaN v || rel (fVal u) (fVal v)) := by
  unfold cmpF
  cases isNaN u || isNaN v <;> rfl

/-! ### Jump targets (06 R151) -/

theorem jumpTarget_eq (pc : Word) (off : BitVec 26) : jumpTarget pc off = pc + off.signExtend 32 * 4 := by
  have ho : (off ++ 0#2).signExtend 32 = off.signExtend 32 * 4 := by
    refine BitVec.eq_of_toInt_eq ?_
    have hl := off.le_toInt
    have hu := off.toInt_lt
    rw [BitVec.toInt_mul, BitVec.toInt_signExtend_of_le (by decide), BitVec.toInt_signExtend_of_le (by decide),
      BitVec.toInt_append_zero, show (4 : Word).toInt = 4 by decide, Int.bmod_eq_of_le] <;> omega
  rw [jumpTarget, ho]

section
variable {s : State} {e : Exe} (h : issues s e = true)
include h

/-- A jump to an aligned register target goes there (06 R151). -/
theorem jumpReg_of_aligned {a : WReg} {f : Engine → Engine} (ht : (s.W e a).toNat % 4 = 0) :
    jumpReg e.val a f s = s.setEng e.val { f (s.eng e.val) with pc := s.W e a } :=
  (onExec_of_issues s e _ h).trans (if_neg (not_not_intro ht))

/-- A jump to a misaligned register target raises ALIGN; that the target is the address concerned is the model's reading (06 R151,
log 128). -/
theorem jumpReg_of_misaligned {a : WReg} {f : Engine → Engine} (ht : (s.W e a).toNat % 4 ≠ 0) :
    jumpReg e.val a f s = raise e.val 2 .ok (s.W e a) (s.PC e) s :=
  (onExec_of_issues s e _ h).trans (if_pos ht)

end

end Sys2Proof.Machine
end

section
/-!
CERTIFICATE. The statements about divisions, compares, float operations and jumps, settled.
-/

namespace Sys2Proof

open Machine

/-- Settles O5: by a zero divisor, the one quotient out of range, and the rest. -/
theorem divisionResults : Obligations.DivisionResults := by
  unfold Obligations.DivisionResults
  intro s e d a b c h hz hv x y done
  refine ⟨fun hy => ⟨?divZero, ?divuZero⟩, fun hy => ?divu, fun hx hy => ?overflow, fun hy hxy => ?div⟩
  case divZero =>
    have hq : aluDiv x y = { val := 0, c := some false, v := some false, dz := some (decide (y = 0)) } := by
      rw [aluDiv, if_pos hy, decide_eq_true hy]
    have hr : remDiv x y = x := if_pos hy
    exact congrArg _ (divOp_of_no_trap h hq hr hz hv)
  case divuZero =>
    have hq : aluDivu x y = { val := 0, c := some false, v := some false, dz := some (decide (y = 0)) } := by
      rw [aluDivu, if_pos hy, decide_eq_true hy]
    have hr : remDivu x y = x := if_pos hy
    exact congrArg _ (divOp_of_no_trap h hq hr hz hv)
  case divu =>
    have hq : aluDivu x y = { val := x / y, c := some false, v := some false, dz := some (decide (y = 0)) } := by
      rw [aluDivu, if_neg hy, BitVec.udiv_def, decide_eq_false hy]
    have hr : remDivu x y = x % y := by rw [remDivu, if_neg hy, BitVec.umod_def]
    exact congrArg _ (divOp_of_no_trap h hq hr hz hv)
  case overflow =>
    have hq : aluDiv x y = { val := 0x80000000, c := some false, v := some true, dz := some (decide (y = 0)) } := by
      rw [hx, hy]; decide
    have hr : remDiv x y = 0 := by rw [hx, hy]; decide
    exact congrArg _ (divOp_of_no_trap h hq hr hz hv)
  case div =>
    have hq : aluDiv x y = { val := BitVec.ofInt 32 (x.toInt.tdiv y.toInt), c := some false, v := some false,
                             dz := some (decide (y = 0)) } := by
      rw [aluDiv, if_neg hy, fitsWord_tdiv hxy, decide_eq_false hy, Bool.not_true]
    have hr : remDiv x y = BitVec.ofInt 32 (x.toInt.tmod y.toInt) := if_neg hy
    exact congrArg _ (divOp_of_no_trap h hq hr hz hv)

/-- Settles O8: each compare is the relation of its operands' values. -/
theorem compares : Obligations.Compares := by
  unfold Obligations.Compares
  intro s e a b p q h x y u v nan la
  have hla : ∀ (f : Engine → Bool) (r : Bool), f (s.eng e.val) = r →
      .next (plainOp e.val (fun g => { g with la := f g }) s) = la r := fun f r hr => congrArg _ (plainOp_la h hr)
  exact ⟨hla _ _ (beq_eq_decide_toInt x y), hla _ _ (bne_eq_decide_toInt x y), hla _ _ rfl, hla _ _ rfl, hla _ _ rfl,
    hla _ _ rfl, hla _ _ rfl, hla _ _ rfl, hla _ _ rfl, hla _ _ rfl, hla _ _ (cmpF_ordered _ u v),
    hla _ _ (cmpF_unordered _ u v), hla _ _ (cmpF_ordered _ u v), hla _ _ (cmpF_ordered _ u v),
    hla _ _ (cmpF_ordered _ u v), hla _ _ (cmpF_ordered _ u v)⟩

/-- Settles O9: a masked float operation completes, and a move is a plain operation. -/
theorem floatCompletes : Obligations.FloatCompletes := by
  unfold Obligations.FloatCompletes
  intro s e d a b w h hi hz ho x y fdone
  have h2 : ∀ f, Host.Outcome.next (floatOp e.val d a b f s) = fdone (f x y) := fun f =>
    congrArg _ (floatOp_of_masked h hi hz ho d a b f)
  have h1 : ∀ f, Host.Outcome.next (floatOp1 e.val d a f s) = fdone (f x) := fun f =>
    congrArg _ (floatOp1_of_masked h hi hz ho d a f)
  have hm : ∀ f : Engine → Engine, (f (s.eng e.val)).pc = s.PC e →
      Host.Outcome.next (plainOp e.val f s) = (.next (did s e f) : Host.Outcome State Fault Refusal) :=
    fun _ hp => congrArg _ (plainOp_eq_did h hp)
  exact ⟨h2 addF, h2 subF, h2 mulF, h2 divF, h1 sqrtF, h1 absF, h1 negF,
    congrArg _ (onExec_floatEnd h hi hz ho (fun v g => g.setF d v) fun s => cvtWF (s.W e w)),
    congrArg _ (onExec_floatEnd h hi hz ho (fun v g => g.setW w v) fun s => cvtFW (s.F e a)),
    hm _ rfl, hm _ rfl, hm _ rfl⟩

/-- Settles O20: a relative jump sets PC alone, a jump by register asks whether its target is aligned. -/
theorem jumpTargets : Obligations.JumpTargets := by
  unfold Obligations.JumpTargets
  intro s e a off h pc tgt t goto link
  have hj : jumpTarget pc off = tgt := jumpTarget_eq pc off
  have hx : ∀ f, jumpOp e.val f s = s.setEng e.val (f (s.eng e.val)) := fun _ => onExec_of_issues s e _ h
  refine ⟨?j, ?call, ?jc, ?jcn, fun ht => ?aligned, fun ht => ?misaligned⟩
  case j => exact hj ▸ congrArg Host.Outcome.next (hx _)
  case call => exact hj ▸ congrArg Host.Outcome.next (hx _)
  case jc => exact hj ▸ congrArg Host.Outcome.next (hx _)
  case jcn => exact hj ▸ congrArg Host.Outcome.next (hx _)
  case aligned =>
    exact ⟨congrArg Host.Outcome.next (jumpReg_of_aligned h ht), congrArg Host.Outcome.next (jumpReg_of_aligned h ht)⟩
  case misaligned =>
    exact ⟨congrArg Host.Outcome.next (jumpReg_of_misaligned h ht),
      congrArg Host.Outcome.next (jumpReg_of_misaligned h ht)⟩

end Sys2Proof
end

section
/-!
SUPPORT. Instructions that reach beyond their executor's registers: SVC, the loads and stores of memory behind the region
table, the re-issue of an access, and the cut-off of a transfer.
-/

namespace Sys2Proof.Machine

/-! ### Setting an entry of a table twice -/

section
variable {α : Type}

theorem Tab.erase_absent {t : Tab α} {i : Nat} (h : ∀ p ∈ t, p.1 ≠ i) : Tab.erase t i = t := by
  induction t with
  | nil => rfl
  | cons p t ih =>
    obtain ⟨hp, ht⟩ := List.forall_mem_cons.mp h
    rw [Tab.erase, if_neg hp.symm, ih ht]

theorem Tab.erase_insert {t : Tab α} {i : Nat} {v : α} (h : ∀ p ∈ t, p.1 ≠ i) :
    Tab.erase (Tab.insert t i v) i = t := by
  induction t with
  | nil => simp [Tab.insert, Tab.erase]
  | cons p t ih =>
    obtain ⟨hp, ht⟩ := List.forall_mem_cons.mp h
    rw [Tab.insert]
    split
    · rw [Tab.erase, if_pos rfl, Tab.erase_absent h]
    · rw [Tab.erase, if_neg hp.symm, ih ht]

/-- Of two settings of one key the second stands. -/
theorem Tab.set_set [DecidableEq α] (d : α) (t : Tab α) (i : Nat) (v w : α) :
    Tab.set d (Tab.set d t i v) i w = Tab.set d t i w := by
  have he : Tab.erase (Tab.set d t i v) i = Tab.erase t i := by
    rw [Tab.set]
    split
    · exact Tab.erase_absent (Tab.erase_keys t i)
    · exact Tab.erase_insert (Tab.erase_keys t i)
  rw [Tab.set, he]
  rfl

end

@[simp] theorem State.setEng_setEng (s : State) (e : Nat) (x y : Engine) : (s.setEng e x).setEng e y = s.setEng e y := by
  simp [State.setEng, Tab.set_set]

/-! ### SVC (05 R129) -/

section
variable {s : State} {n : Nat} (num : BitVec 12) (args : List Word)

theorem svcPlace_foundry : svcPlace 0 num args s = (.denied, 0, s) := rfl

theorem svcPlace_full (hn : n ≠ 0) (hl : 4 ≤ (s.part n).svc.length) : svcPlace n num args s = (.full, 0, s) := by
  rw [svcPlace, if_neg hn]
  exact if_pos hl

theorem svcPlace_placed (hn : n ≠ 0) (hl : (s.part n).svc.length < 4) :
    let p := s.part n
    svcPlace n num args s = (.ok, p.svcSeq,
      { s.setPart n { p with
          svc := p.svc ++ [{ num := num, seq := p.svcSeq, args := args, ord := s.sch.ord }]
          svcSeq := if p.svcSeq = 0xFFFFFFFF then 1 else p.svcSeq + 1 } with
        sch := { s.sch with ord := s.sch.ord + 1 } }) := by
  intro p
  rw [svcPlace, if_neg hn]
  exact if_neg (Nat.not_le.mpr hl)

end

/-- SVC on an executor that issues: what its placing answers, in W1 and, on OK, W2. -/
theorem svcOp_of_issues {s : State} {e : Exe} (h : issues s e = true) (num : BitVec 12) {st : Status} {q : Word} {t : State}
    (hp : svcPlace (s.jobOf e.val) num [s.W e 1, s.W e 2, s.W e 3, s.W e 4, s.W e 5, s.W e 6] s = (st, q, t)) :
    svcOp e.val num s = complete e.val (fun g =>
      if st = .ok then (g.setW 1 (wd st.code)).setW 2 q else g.setW 1 (wd st.code)) t := by
  rw [svcOp, onExec_of_issues s e _ h]
  have ha : (List.range 6).map (fun i => (s.eng e.val).getW (BitVec.ofNat 5 (i + 1))) =
      [s.W e 1, s.W e 2, s.W e 3, s.W e 4, s.W e 5, s.W e 6] := rfl
  simp only [ha, hp]

/-! ### Parts of a sound word of memory (08 R188, R195) -/

section
variable {s : State} {a m n : Nat}

theorem isMem_of_le (h : isMem a n = true) (h0 : 0 < m) (hm : m ≤ n) : isMem a m = true := by
  simp only [isMem, isDram, isCycle, Bool.or_eq_true, Bool.and_eq_true, decide_eq_true_eq] at h ⊢
  omega

theorem sound_of_le (h : s.sound a n = true) (hm : m ≤ n) : s.sound a m = true := by
  simp only [State.sound, List.all_eq_true, linesOf, List.mem_map, List.mem_range] at h ⊢
  rintro l ⟨k, hk, rfl⟩
  exact h _ ⟨k, by omega, rfl⟩

end

/-- Setting bytes changes memory alone. -/
theorem State.setBytes_only (bs : List Byte) : ∀ (a : Nat) (s : State),
    State.setBytes a bs s = { s with mem := (State.setBytes a bs s).mem } := by
  induction bs with
  | nil => intro a s; rfl
  | cons b bs ih => intro a s; rw [State.setBytes, ih]; rfl

theorem Size.bytes_pos (sz : Size) : 0 < sz.bytes := by cases sz <;> decide

/-! ### Loads and stores through the region table (05 R110, R133, 08 R194) -/

section
variable {s : State} {e : Nat} {sz : Size} {va pa : Nat}

/-- A load from sound memory reads the bytes as the executor sees them. -/
theorem vLoad_of_sound {sh : Bool} (hv : 0x40000 ≤ va) (hx : s.xlate (s.jobOf e) .load va = some (pa, sh))
    (hm : isMem pa sz.bytes = true) (hs : s.sound pa sz.bytes = true) (ht : (s.eng e).stale = []) :
    vLoad e sz va s = (.ok, wd (leNat (overlay (s.eng e).dirty pa (s.bytes pa sz.bytes))), s) := by
  simp only [vLoad, if_neg (Nat.not_lt.mpr hv), hx, hm, if_true, memLoad_of_sound e pa _ s hs ht]

/-- A store to unshared sound memory stays in the executor's lines. -/
theorem vStore_unshared (hv : 0x40000 ≤ va) (hx : s.xlate (s.jobOf e) .store va = some (pa, false))
    (hm : isMem pa sz.bytes = true) (hs : s.sound pa sz.bytes = true) (v : Word) :
    vStore e sz va v s = (.ok, s.setEng e { s.eng e with
      dirty := dirtyPut pa (leBytes sz.bytes v.toNat) (s.eng e).dirty }) := by
  have hp := privStore_of_sound e pa (leBytes sz.bytes v.toNat) s (by rwa [leBytes_length])
  simp only [vStore, if_neg (Nat.not_lt.mpr hv), hx, hm, if_true, Bool.false_eq_true, if_false, hp]

/-- An aligned store to shared sound memory stores its bytes and drops the executor's own dirty bytes there (the model's
choice, log 108). -/
theorem vStore_shared (hv : 0x40000 ≤ va) (hx : s.xlate (s.jobOf e) .store va = some (pa, true))
    (hm : isMem pa sz.bytes = true) (hl : pa % sz.bytes = 0) (hs : s.sound pa sz.bytes = true) (v : Word) :
    vStore e sz va v s =
      (.ok, (s.setBytes pa (leBytes sz.bytes v.toNat)).setEng e { s.eng e with
        dirty := dirtyDrop pa sz.bytes (s.eng e).dirty }) := by
  have hw : memWrite pa (leBytes sz.bytes v.toNat) s = (.ok, s.setBytes pa (leBytes sz.bytes v.toNat)) := by
    refine memWrite_of_sound pa _ s (List.length_pos_iff.mp ?_) ?_ ?_ ?_ <;> rw [leBytes_length]
    · exact Size.bytes_pos sz
    · cases sz <;> decide
    · exact Size.inLine_of_aligned hl
    · exact hs
  have he : (s.setBytes pa (leBytes sz.bytes v.toNat)).eng e = s.eng e := by rw [State.setBytes_only]; rfl
  simp only [vStore, if_neg (Nat.not_lt.mpr hv), hx, hm, if_true, sharedStore, hw, he, leBytes_length]

end

/-! ### An access of an executor (06 R145, R154) -/

section
variable {s t : State} {e : Nat} {r : Retry}

/-- An aligned load that answers OK and leaves its executor as it was writes its destination. -/
theorem doAccess_load {v : Word} (hs : r.store = false) (ha : r.ea.toNat % r.sz.bytes = 0)
    (hv : vLoad e r.sz r.ea.toNat s = (.ok, v, t)) (he : t.eng e = s.eng e) :
    doAccess e r s = complete e (loadDest r v) t := by
  simp [doAccess, ha, hs, hv, sameJob, he, accessEnd]

/-- An aligned store that answers OK and leaves its executor as it was but for its lines steps PC. -/
theorem doAccess_store {d : List Host.Cell} (hs : r.store = true) (ha : r.ea.toNat % r.sz.bytes = 0)
    (hv : vStore e r.sz r.ea.toNat (storeValue r (s.eng e)) s = (.ok, t.setEng e { s.eng e with dirty := d })) :
    doAccess e r s = t.setEng e { s.eng e with dirty := d, pc := (s.eng e).pc + 4 } := by
  simp [doAccess, ha, hs, hv, sameJob, accessEnd, complete, Engine.next]

end

theorem loadDest_pc (r : Retry) (v : Word) (g : Engine) : (loadDest r v g).pc = g.pc := by
  unfold loadDest
  split <;> rfl

/-- The register field of LDF and STF names its float register. -/
theorem fieldF_setWidth (f : FReg) : (0#1 ++ f).setWidth 4 = f := BitVec.setWidth_append_eq_right

/-- An instruction's access in the state it issues in, with its effective address. -/
def accessOf (s : State) (e : Exe) (store float signed : Bool) (sz : Size) (reg : BitVec 5) (a : WReg) (imm : BitVec 16) :
    Retry :=
  { store := store, reg := reg, float := float, signed := signed, sz := sz, ea := (s.eng e.val).ea a imm }

section
variable {s : State} {e : Exe} {a : WReg} {imm : BitVec 16} {pa : Nat} {sz : Size} (float signed : Bool) (reg : BitVec 5)
  (h : issues s e = true) (hv : 0x40000 ≤ ((s.eng e.val).ea a imm).toNat)
  (ha : ((s.eng e.val).ea a imm).toNat % sz.bytes = 0) (hm : isMem pa sz.bytes = true)
  (hs : s.sound pa sz.bytes = true)
include h hv ha hm hs

/-- A load instruction on sound memory writes the bytes as the executor sees them (06 R145). -/
theorem memOp_load {sh : Bool}
    (hx : s.xlate (s.jobOf e.val) .load ((s.eng e.val).ea a imm).toNat = some (pa, sh))
    (ht : (s.eng e.val).stale = []) :
    memOp e.val false float signed sz reg a imm s =
      did s e (loadDest (accessOf s e false float signed sz reg a imm)
        (wd (leNat (overlay (s.eng e.val).dirty pa (s.bytes pa sz.bytes))))) := by
  rw [memOp, onExec_of_issues s e _ h]
  exact (doAccess_load (r := accessOf s e false float signed sz reg a imm) rfl ha (vLoad_of_sound hv hx hm hs ht) rfl).trans
    (complete_eq_did (loadDest_pc _ _ _))

/-- A store instruction on unshared sound memory changes only the executor's lines (06 R145, 05 R134). -/
theorem memOp_unshared
    (hx : s.xlate (s.jobOf e.val) .store ((s.eng e.val).ea a imm).toNat = some (pa, false)) :
    memOp e.val true float signed sz reg a imm s =
      did s e (fun g => { g with dirty := dirtyPut pa (leBytes sz.bytes
        (storeValue (accessOf s e true float signed sz reg a imm) (s.eng e.val)).toNat) g.dirty }) := by
  rw [memOp, onExec_of_issues s e _ h]
  exact doAccess_store (r := accessOf s e true float signed sz reg a imm) rfl ha (vStore_unshared hv hx hm hs _)

/-- A store instruction on shared sound memory stores its bytes and drops the executor's own dirty bytes there (06 R145,
05 R133, log 108). -/
theorem memOp_shared (hp : pa % sz.bytes = 0)
    (hx : s.xlate (s.jobOf e.val) .store ((s.eng e.val).ea a imm).toNat = some (pa, true)) :
    memOp e.val true float signed sz reg a imm s =
      (s.setBytes pa (leBytes sz.bytes (storeValue (accessOf s e true float signed sz reg a imm) (s.eng e.val)).toNat)).setEng
        e.val { s.eng e.val with pc := s.PC e + 4, dirty := dirtyDrop pa sz.bytes (s.eng e.val).dirty } := by
  rw [memOp, onExec_of_issues s e _ h]
  exact doAccess_store (r := accessOf s e true float signed sz reg a imm) rfl ha (vStore_shared hv hx hm hp hs _)

end

/-! ### Values of loads narrower than a word (06 R145) -/

theorem leNat_lt (bs : List Byte) : leNat bs < 256 ^ bs.length := by
  induction bs with
  | nil => decide
  | cons b bs ih =>
    have hb := b.isLt
    rw [leNat, List.length_cons, Nat.pow_succ]
    omega

theorem overlay_length (d : List Host.Cell) (bs : List Byte) : ∀ a, (overlay d a bs).length = bs.length := by
  induction bs with
  | nil => intro a; rfl
  | cons b bs ih => intro a; rw [overlay, List.length_cons, ih, List.length_cons]

theorem State.bytes_length (s : State) (n : Nat) : ∀ a, (s.bytes a n).length = n := by
  induction n with
  | zero => intro a; rfl
  | succ n ih => intro a; rw [State.bytes, List.length_cons, ih]

/-- A number of w bits is the same as a word and as w bits extended with zeros. -/
theorem setWidth_ofNat_of_lt {w n : Nat} (h : n < 2 ^ w) : (BitVec.ofNat w n).setWidth 32 = wd n := by
  refine BitVec.eq_of_toNat_eq ?_
  rw [BitVec.toNat_setWidth, BitVec.toNat_ofNat, BitVec.toNat_ofNat, Nat.mod_eq_of_lt h]

/-! ### The cut-off of a transfer (08 R202) -/

/-- A transfer longer than its band's limit, of a requester that is neither an executor nor a shared engine, loses its
target; the cut-off is counted, noted and alarmed. -/
theorem cutOff_of_other {s : State} {tgt : Nat} {t : Transfer} (hh : (s.target tgt).holder = some t)
    (hl : holdLimit s t.band ≠ 0) (hr : 0x82 ≤ t.req) :
    cutOff tgt s = alarm .arb ((((s.setTarget tgt { s.target tgt with holder := none }).count .arbCutcnt 1).setBits
      .arbStat 1).wr .arbLastcut (wd (tgt * 2 ^ 24 + t.req * 65536 + t.part.toNat))) := by
  have hshared : (decide (0x66 ≤ t.req) && decide (t.req < 0x82)) = false := by simp; omega
  have hexec : decide (t.req < 96) = false := decide_eq_false (by omega)
  simp only [cutOff, cutGrant, hh, if_neg hl, hshared, hexec, Bool.false_and, Bool.false_eq_true, if_false]

end Sys2Proof.Machine
end

section
/-!
CERTIFICATE. The statements about loads and stores, system instructions, illegal words, re-issues and cut-offs, settled.
-/

namespace Sys2Proof

open Machine

/-- Settles O11: each load is its access, with the bytes of its width read as one number. -/
theorem loadsReadLittleEndian : Obligations.LoadsReadLittleEndian := by
  unfold Obligations.LoadsReadLittleEndian
  intro s e d a f imm pa sh h ea val hv hx hm hs ht
  have hval : ∀ n, val n < 256 ^ n := fun n => by
    simpa only [overlay_length, State.bytes_length] using leNat_lt (overlay (s.eng e.val).dirty pa (s.bytes pa n))
  have hload : ∀ (sz : Size) (float signed : Bool) (reg : BitVec 5), ea.toNat % sz.bytes = 0 → sz.bytes ≤ 4 →
      memOp e.val false float signed sz reg a imm s =
        did s e (loadDest (accessOf s e false float signed sz reg a imm) (wd (val sz.bytes))) :=
    fun sz float signed reg ha hn =>
      memOp_load float signed reg h hv ha (isMem_of_le hm (Size.bytes_pos sz) hn) (sound_of_le hs hn) hx ht
  refine ⟨fun ha => ⟨?ldw, ?ldf⟩, fun ha => ⟨?ldh, ?ldhu⟩, ?ldb, ?ldbu⟩
  case ldw => exact congrArg Host.Outcome.next (hload .b4 false false d ha (by decide))
  case ldf =>
    have hf : (0#1 ++ f).setWidth 4 = f := fieldF_setWidth f
    exact congrArg Host.Outcome.next ((hload .b4 true false (0#1 ++ f) ha (by decide)).trans
      (congrArg (fun r => did s e (fun g => g.setF r (wd (val 4)))) hf))
  case ldh =>
    have hn : (wd (val 2)).setWidth 16 = BitVec.ofNat 16 (val 2) := BitVec.setWidth_ofNat_of_le (by decide) _
    exact congrArg Host.Outcome.next ((hload .b2 false true d ha (by decide)).trans
      (congrArg (fun x : BitVec 16 => did s e (fun g => g.setW d (x.signExtend 32))) hn))
  case ldhu =>
    exact congrArg Host.Outcome.next ((hload .b2 false false d ha (by decide)).trans
      (congrArg (fun x => did s e (fun g => g.setW d x)) (setWidth_ofNat_of_lt (hval 2)).symm))
  case ldb =>
    have hn : (wd (val 1)).setWidth 8 = BitVec.ofNat 8 (val 1) := BitVec.setWidth_ofNat_of_le (by decide) _
    exact congrArg Host.Outcome.next ((hload .b1 false true d (Nat.mod_one _) (by decide)).trans
      (congrArg (fun x : BitVec 8 => did s e (fun g => g.setW d (x.signExtend 32))) hn))
  case ldbu =>
    exact congrArg Host.Outcome.next ((hload .b1 false false d (Nat.mod_one _) (by decide)).trans
      (congrArg (fun x => did s e (fun g => g.setW d x)) (setWidth_ofNat_of_lt (hval 1)).symm))

/-- Settles O12: each store is its access, whose bytes stay in the executor's lines. -/
theorem privateStores : Obligations.PrivateStores := by
  unfold Obligations.PrivateStores
  intro s e d a f imm pa h ea put hv hx hm hs
  have hstore : ∀ (sz : Size) (float : Bool) (reg : BitVec 5) (v : Word), ea.toNat % sz.bytes = 0 → sz.bytes ≤ 4 →
      storeValue (accessOf s e true float false sz reg a imm) (s.eng e.val) = v →
      .next (memOp e.val true float false sz reg a imm s) = put (leBytes sz.bytes v.toNat) := by
    rintro sz float reg v ha hn rfl
    exact congrArg _
      (memOp_unshared float false reg h hv ha (isMem_of_le hm (Size.bytes_pos sz) hn) (sound_of_le hs hn) hx)
  refine ⟨fun ha => ⟨?stw, ?stf⟩, fun ha => ?sth, ?stb⟩
  case stw => exact hstore .b4 false d _ ha (by decide) rfl
  case stf => exact hstore .b4 true (0#1 ++ f) _ ha (by decide) (congrArg (s.eng e.val).getF (fieldF_setWidth f))
  case sth => exact hstore .b2 false d _ ha (by decide) rfl
  case stb => exact hstore .b1 false d _ (Nat.mod_one _) (by decide) rfl

/-- Settles O13: the store's state is memory with the four bytes set, and the executor with its own bytes there dropped. -/
theorem sharedStores : Obligations.SharedStores := by
  unfold Obligations.SharedStores
  intro s e d a imm pa h ea hv ha hx hm hp hs
  have ht := memOp_shared (sz := .b4) false false d h hv ha hm hs hp hx
  refine ⟨_, congrArg Host.Outcome.next ht, fun k hk => ?stored, fun x hx => ?others, ?executor, ?_⟩
  case stored =>
    have hb := State.byte_setBytes (leBytes 4 (s.W e d).toNat) pa s (pa + k)
    rw [leBytes_length, if_pos (by omega), Nat.add_sub_cancel_left, leBytes_getD 4 _ k hk] at hb
    exact hb
  case others =>
    have hb := State.byte_setBytes (leBytes 4 (s.W e d).toNat) pa s x
    rw [leBytes_length, if_neg (by omega)] at hb
    exact hb
  case executor => exact (State.setEng_eng _ _ _ _).trans (if_pos rfl)
  · rw [State.setBytes_only]
    exact ⟨rfl, rfl, rfl, rfl, rfl, rfl⟩

/-- Settles O21: SVC by what its placing answers, the others as operations on the executor's own registers. -/
theorem systemInstructions : Obligations.SystemInstructions := by
  unfold Obligations.SystemInstructions
  intro s e d a num h n p sw
  have hplain : ∀ f : Engine → Engine, (f (s.eng e.val)).pc = s.PC e →
      Host.Outcome.next (plainOp e.val f s) = (.next (did s e f) : Host.Outcome State Fault Refusal) :=
    fun _ hp => congrArg _ (plainOp_eq_did h hp)
  refine ⟨hplain id rfl, fun hw => ?fence, hplain _ rfl, hplain _ rfl, fun hn => ?foundry, fun hn hl => ?full,
    fun hn hl => ?placed⟩
  case fence =>
    have hf : fenced e.val (complete e.val id) s = complete e.val id s := if_neg (by simp [hw])
    exact congrArg Host.Outcome.next ((onExec_of_issues s e _ h).trans (hf.trans (complete_eq_did rfl)))
  case foundry =>
    have hp := svcPlace_foundry (s := s) num [s.W e 1, s.W e 2, s.W e 3, s.W e 4, s.W e 5, s.W e 6]
    rw [← hn] at hp
    exact congrArg Host.Outcome.next ((svcOp_of_issues h num hp).trans (complete_eq_did rfl))
  case full =>
    exact congrArg Host.Outcome.next ((svcOp_of_issues h num (svcPlace_full num _ hn hl)).trans (complete_eq_did rfl))
  case placed =>
    exact congrArg Host.Outcome.next ((svcOp_of_issues h num (svcPlace_placed num _ hn hl)).trans (complete_eq_did rfl))

/-- Settles O25: an illegal word, the re-issue of a load, and the cut-off. -/
theorem illegalRetryAndCutoff : Obligations.IllegalRetryAndCutoff := by
  unfold Obligations.IllegalRetryAndCutoff
  intro s e
  refine ⟨fun iw h hd => ?illegal, ?reissue,
    fun tgt t hh hl hr => congrArg Host.Outcome.next (cutOff_of_other hh hl hr)⟩
  case illegal =>
    have hi : execIllegalInstruction e iw s = .next (illegalOp e.val s) :=
      congrArg Host.Outcome.next (if_pos (Option.isNone_iff_eq_none.mpr hd))
    exact hi.trans (congrArg Host.Outcome.next (onExec_of_issues s e _ h))
  case reissue =>
    intro r v u hx hh hr hst ha s1 hv hu
    have hre : reissue e.val s = doAccess e.val r s1 := by
      simp only [reissue, hr, hx, hh, Bool.not_true, Bool.false_eq_true, if_false]
      rfl
    have hpc : (u.eng e.val).pc + 4 = s.PC e + 4 := by rw [hu, State.setEng_eng, if_pos rfl]
    refine congrArg Host.Outcome.next (hre.trans ((doAccess_load hst ha hv hu).trans ?_))
    rw [complete, Engine.next, loadDest_pc, hpc, hu]

end Sys2Proof
end

section
/-!
SUPPORT. What the switch does with a frame at a port that is up, arriving and leaving, and what a write of a channel's
registers does (09 R215 to R222, R226, R240). Counting a frame changes no setting that the frame's way depends on.
-/

namespace Sys2Proof.Machine

/-! ### Registers at other keys -/

/-- Setting a register leaves every active copy at another key as it was. -/
theorem State.wr_rdA_ne (s : State) {r q : Reg} (v : Word) {i j k l : Nat} (h : q.addr k l + q.row.aoff ≠ r.addr i j) :
    (s.wr r v i j).rdA q k l = s.rdA q k l := Tab.get_set_ne _ _ _ _ h

/-- Setting an active copy leaves every other one as it was. -/
theorem State.wrA_rdA_ne (s : State) {r q : Reg} (v : Word) {i j k l : Nat}
    (h : q.addr k l + q.row.aoff ≠ r.addr i j + r.row.aoff) : (s.wrA r v i j).rdA q k l = s.rdA q k l :=
  Tab.get_set_ne _ _ _ _ h

/-- A bank that has just been set reads the value set. -/
@[simp] theorem State.wrB_rdB (s : State) (b : Nat) (r : Reg) (v : Word) (i : Nat) : (s.wrB b r v i).rdB b r i = v := by
  simp [State.wrB, State.rdB, Tab.get_set]

/-- Setting one register of a bank leaves the bank's others as they were. -/
theorem State.wrB_rdB_ne (s : State) (b : Nat) {r q : Reg} (v : Word) {i k : Nat} (h : q.addr k 0 ≠ r.addr i 0) :
    (s.wrB b r v i).rdB b q k = s.rdB b q k :=
  Tab.get_set_ne _ _ _ _ fun hk => h (Nat.add_left_cancel hk)

/-- A banked register lies above every active copy in the physical space. -/
theorem State.wrB_rdA (s : State) (b : Nat) {r q : Reg} (v : Word) {i k l : Nat} (h : q.addr k l + q.row.aoff < 2 ^ 40) :
    (s.wrB b r v i).rdA q k l = s.rdA q k l :=
  Tab.get_set_ne _ _ _ _ (by unfold bankKey; omega)

theorem fld_lt (w : Word) (lo n : Nat) : fld w lo n < 2 ^ n := Nat.mod_lt _ (Nat.two_pow_pos n)

/-- Two low bits that read 1. -/
theorem low_bits_of_fld_one {w : Word} (h : fld w 0 2 = 1) : w.getLsbD 0 = true ∧ w.getLsbD 1 = false := by
  simp only [fld, Nat.shiftRight_zero] at h
  constructor
  · rw [BitVec.getLsbD, Nat.testBit_zero, decide_eq_true_eq]
    omega
  · rw [BitVec.getLsbD, Nat.testBit_succ, Nat.testBit_zero, decide_eq_false_iff_not]
    omega

/-! ### Settings that counting a frame leaves alone -/

/-- The pair of a port is a matter of the pairs' settings alone. -/
theorem pairOf_congr {s t : State} (h : ∀ k, t.rdA .ethPrCfgS k = s.rdA .ethPrCfgS k) : pairOf t = pairOf s := by
  have hv : pairValid t = pairValid s := funext fun k => by rw [pairValid, h, pairValid]
  have ha : pairA t = pairA s := funext fun k => by rw [pairA, h, pairA]
  have hb : pairB t = pairB s := funext fun k => by rw [pairB, h, pairB]
  funext p
  rw [pairOf, hv, ha, hb, pairOf]

/-- A key of the file is that of a counter of one of the 14 ports. -/
def PortCounter (key : Nat) : Prop := ∃ p j, p < 14 ∧ j < 8 ∧ key = Reg.ethPcnt.addr p j

theorem not_portCounter_of_le {key : Nat} (h : 0x6000502000 ≤ key) : ¬ PortCounter key := by
  rintro ⟨p, j, hp, hj, rfl⟩
  simp only [Reg.addr, Reg.row] at h
  omega

/-- No port's state register is a counter. -/
theorem not_portCounter_pstat (p : Nat) : ¬ PortCounter (Reg.ethPstat.addr p 0) := by
  rintro ⟨q, j, hq, hj, h⟩
  simp only [Reg.addr, Reg.row] at h
  omega

/-- Two states hold the same words outside the port counters, and the same pairs. -/
structure SameSettings (s t : State) : Prop where
  get : ∀ key d, ¬ PortCounter key → Tab.get d t.regs key = Tab.get d s.regs key
  pairs : t.eth.pair = s.eth.pair

/-- Counting a frame at a port is no change of a setting. -/
theorem sameSettings_count (s : State) (p : Fin 14) {j : Nat} (hj : j < 8) : SameSettings s (s.count .ethPcnt 1 p j) where
  get _ _ h := Tab.get_set_ne _ _ _ _ fun hk => h ⟨p, j, p.isLt, hj, hk⟩
  pairs := rfl

namespace SameSettings
variable {s t : State}

/-- An active copy above the port registers reads the same. -/
theorem rdA_eq (h : SameSettings s t) (r : Reg) (i j : Nat) (hr : 0x6000502000 ≤ r.row.base + r.row.aoff) :
    t.rdA r i j = s.rdA r i j :=
  h.get _ _ (not_portCounter_of_le (by unfold Reg.addr; omega))

theorem rdBA_eq (h : SameSettings s t) (b : Nat) (r : Reg) (i : Nat) : t.rdBA b r i = s.rdBA b r i :=
  h.get _ _ (not_portCounter_of_le (by unfold bankKey; omega))

theorem ethVlan_eq (h : SameSettings s t) : ethVlan t = ethVlan s := by
  funext vid
  simp only [ethVlan, h.rdBA_eq]

theorem ethMember_eq (h : SameSettings s t) : ethMember t = ethMember s := by
  funext vid p
  rw [ethMember, h.ethVlan_eq]
  rfl

theorem portUp_eq (h : SameSettings s t) : portUp t = portUp s := by
  funext p
  have hs : t.rd .ethPstat p = s.rd .ethPstat p := h.get _ _ (not_portCounter_pstat p)
  rw [portUp, h.rdA_eq _ _ _ (by decide), hs]
  rfl

theorem pairCfg_eq (h : SameSettings s t) (k : Nat) : t.rdA .ethPrCfgS k = s.rdA .ethPrCfgS k :=
  h.rdA_eq _ _ _ (by decide)

theorem pairOf_eq (h : SameSettings s t) : pairOf t = pairOf s := pairOf_congr h.pairCfg_eq

theorem logUp_eq (h : SameSettings s t) : logUp t = logUp s := by
  funext p
  have hp : ∀ k, t.pair k = s.pair k := fun k => by rw [State.pair, h.pairs, State.pair]
  simp only [logUp, h.pairOf_eq, h.portUp_eq, hp, pairA, pairB, h.pairCfg_eq]

theorem ptpAt_eq (h : SameSettings s t) : ptpAt t = ptpAt s := by
  funext f
  simp only [ptpAt, h.rdA_eq .ethPtpctlS 0 0 (by decide)]

theorem ptpChan_eq (h : SameSettings s t) : ptpChan t = ptpChan s := by
  simp only [ptpChan, h.rdA_eq .ethPtpchS 0 0 (by decide)]

theorem pcpQueue_eq (h : SameSettings s t) : pcpQueue t = pcpQueue s := by
  funext pcp
  simp only [pcpQueue, h.rdA_eq .ethPcpmapS 0 0 (by decide)]

end SameSettings

/-! ### Frames arriving (09 R216 to R218) -/

section
variable {s : State} {p : Nat} {f : Frame} {e : Fdb}

theorem onPair_of_unpaired (h : pairOf s p = none) (g : Nat → Bool → State → State) : onPair p g s = s := by
  rw [onPair, h]

theorem logPort_of_unpaired (h : pairOf s p = none) : logPort s p = p := by
  rw [logPort, h]

theorem portCarries_of_unpaired (h : pairOf s p = none) : portCarries s p = true := by
  rw [portCarries, h]

/-- A check frame of this device changes nothing. -/
theorem checkSeen_own (h : beNat (slice f.payload 2 6) = devid s) : checkSeen p f s = s := if_pos h

/-- A check frame of another device makes a port outside every pair path-good, and no more (09 R231). -/
theorem checkSeen_unpaired (hp : pairOf (s.setBits .ethPstat (bit 2) p) p = none)
    (h : beNat (slice f.payload 2 6) ≠ devid s) : checkSeen p f s = s.setBits .ethPstat (bit 2) p :=
  (if_neg h).trans (onPair_of_unpaired hp _)

/-- The state of a port is no setting of a pair. -/
theorem pairOf_setBits_pstat (s : State) (m : Word) (p : Fin 14) (q : Nat) :
    pairOf (s.setBits .ethPstat m p) q = pairOf s q := by
  have hk : ∀ k, (s.setBits .ethPstat m p).rdA .ethPrCfgS k = s.rdA .ethPrCfgS k := fun k =>
    State.wr_rdA_ne s _ (by simp only [Reg.addr, Reg.row]; omega)
  rw [pairOf_congr hk]

theorem ethLearn_of_off (h : (s.rdA .ethCtlS).getLsbD 1 = false) (vid inp : Nat) (mac : BitVec 48) :
    ethLearn vid inp mac s = s := by
  rw [ethLearn, h]
  rfl

/-- A unicast frame to a learned port of its VLAN goes there alone (09 R217, R218). -/
theorem ethTargets_learned {vid inp : Nat} {dst : BitVec 48} (hg : isGroup dst = false)
    (he : s.eth.fdb.find? (fun y => y.vid.toNat = vid && y.mac = dst) = some e) (hm : ethMember s vid e.port = true)
    (hi : e.port ≠ inp) : ethTargets s vid inp dst = [e.port] := by
  simp [ethTargets, hg, he, hm, hi]

/-- A frame for which both limits leave room is queued (09 R218). -/
theorem ethEnqueue_of_room {q : Nat} {x : QFrame} (hq : qBytes (ethQ s p q) + frameLen x.f ≤ (s.rdA .ethQlimS).toNat)
    (hb : bufBytes s + frameLen x.f ≤ 4194304) :
    ethEnqueue p q x s = (true, setEthQ (8 * p + q) (ethQ s p q ++ [x]) s) :=
  if_neg (by omega)

/-- A frame for one port that is up is queued there in the queue of its PCP. -/
theorem ethSpread_one {x : QFrame} (h : logUp s p = true) :
    (ethSpread [p] x s).2.2 = (ethEnqueue p (pcpQueue s x.pcp.toNat) x s).2 := by
  simp [ethSpread, h]

/-- An untagged frame of port p as it is queued: with the port's VID and PCP (09 R217). -/
def portTagged (s : State) (p : Nat) (f : Frame) (st : Nat) : QFrame :=
  let c := s.rdA .ethPcfgS p
  { f := f, vid := BitVec.ofNat 12 (fld c 0 12), pcp := BitVec.ofNat 3 (fld c 24 3), inp := p, stamp := st, chan := none
    direct := false }

/-- The queue that untagged frames of port p are put into at every port. -/
def portQueue (s : State) (p : Nat) : Nat := pcpQueue s (fld (s.rdA .ethPcfgS p) 24 3)

/-- An untagged unicast frame that port p, outside every pair, forwards to the learned port of e, which is up and has
room for it; nothing is filtered and nothing learned. -/
structure ToLearned (s : State) (p : Nat) (f : Frame) (e : Fdb) : Prop where
  untagged : f.tag = none
  unicast : isGroup f.dst = false
  unpaired : pairOf s p = none
  learnsNone : (s.rdA .ethCtlS).getLsbD 1 = false
  filtersNone : (s.rdA .ethPcfgS p).getLsbD 30 = false
  learned : s.eth.fdb.find? (fun y => y.vid.toNat = fld (s.rdA .ethPcfgS p) 0 12 && y.mac = f.dst) = some e
  outer : e.port < 14
  other : e.port ≠ p
  member : ethMember s (fld (s.rdA .ethPcfgS p) 0 12) e.port = true
  up : logUp s e.port = true
  queueRoom : qBytes (ethQ s e.port (portQueue s p)) + frameLen f ≤ (s.rdA .ethQlimS).toNat
  bufferRoom : bufBytes s + frameLen f ≤ 4194304

theorem portQueue_of_sameSettings {t : State} (h : SameSettings s t) (p : Nat) : portQueue t p = portQueue s p := by
  rw [portQueue, h.pcpQueue_eq, h.rdA_eq .ethPcfgS p 0 (by decide), portQueue]

theorem portTagged_of_sameSettings {t : State} (h : SameSettings s t) (p : Nat) (f : Frame) (st : Nat) :
    portTagged t p f st = portTagged s p f st := by
  simp only [portTagged, h.rdA_eq .ethPcfgS p 0 (by decide)]

/-- The way of a frame depends on settings, the forwarding table and the queues alone. -/
theorem ToLearned.of_sameSettings {t : State} (w : ToLearned s p f e) (h : SameSettings s t) (he : t.eth = s.eth) :
    ToLearned t p f e := by
  have hc := h.rdA_eq .ethPcfgS p 0 (by decide)
  exact
    { untagged := w.untagged
      unicast := w.unicast
      unpaired := by rw [h.pairOf_eq]; exact w.unpaired
      learnsNone := by rw [h.rdA_eq .ethCtlS 0 0 (by decide)]; exact w.learnsNone
      filtersNone := by rw [hc]; exact w.filtersNone
      learned := by rw [hc, he]; exact w.learned
      outer := w.outer
      other := w.other
      member := by rw [hc, h.ethMember_eq]; exact w.member
      up := by rw [h.logUp_eq]; exact w.up
      queueRoom := by rw [portQueue_of_sameSettings h, ethQ, he, h.rdA_eq .ethQlimS 0 0 (by decide)]; exact w.queueRoom
      bufferRoom := by rw [bufBytes, he]; exact w.bufferRoom }

/-- Such a frame is queued once at the learned port and changes nothing else (09 R217, R218). -/
theorem ethForward_learned (w : ToLearned s p f e) (st : Nat) (got : Option Nat) :
    ethForward p f st got s =
      setEthQ (8 * e.port + portQueue s p) (ethQ s e.port (portQueue s p) ++ [portTagged s p f st]) s := by
  have hf : { f with tag := none } = f := congrArg (fun g => { f with tag := g }) w.untagged.symm
  have hmatch := List.find?_some w.learned
  have hknown : s.eth.fdb.any (fun y => y.vid.toNat = fld (s.rdA .ethPcfgS p) 0 12 && y.mac = f.dst) = true :=
    List.any_eq_true.mpr ⟨e, List.mem_of_find?_eq_some w.learned, hmatch⟩
  have h14 : e.port ≠ 14 := Nat.ne_of_lt w.outer
  have ht := ethTargets_learned w.unicast w.learned w.member w.other
  have hpcp : (portTagged s p f st).pcp.toNat = fld (s.rdA .ethPcfgS p) 24 3 := Nat.mod_eq_of_lt (fld_lt _ _ _)
  have hq : (ethSpread [e.port] (portTagged s p f st) s).2.2 =
      setEthQ (8 * e.port + portQueue s p) (ethQ s e.port (portQueue s p) ++ [portTagged s p f st]) s := by
    rw [ethSpread_one w.up, hpcp]
    exact congrArg Prod.snd (ethEnqueue_of_room (x := portTagged s p f st) w.queueRoom w.bufferRoom)
  rw [← hq]
  simp [-BitVec.getLsbD_eq_getElem, ethForward, logPort_of_unpaired w.unpaired, w.untagged, w.filtersNone, w.unicast,
    hknown, ethLearn_of_off w.learnsNone, ht, hf, portTagged, h14, h14.symm]

/-- An accepted frame that is no PTP message, at a port outside every pair, is stamped and forwarded (09 R218). -/
theorem ethAccept_unpaired (hp : pairOf s p = none) (ht : ptpAt s f = none) (hc : ptpChan s = none) (hd : f.dst ≠ asAddr)
    (hf : (s.rdA .ethCtlS).getLsbD 0 = true) :
    ethAccept p f s = ethForward p f (ethStamp true p (ptpEvent s f).isSome s).1 none s.spend := by
  have hc' : ptpChan s.spend = none := hc
  have hcar : portCarries s.spend p = true := portCarries_of_unpaired hp
  have hear : pairHears p s.spend = s.spend := onPair_of_unpaired (s := s.spend) hp _
  have hkept : ptpKept s.spend f = false := by
    have ht' : ptpAt s.spend f = none := ht
    simp [ptpKept, ht', hd]
  have hst : (ethStamp true p (ptpEvent s f).isSome s).2 = s.spend := rfl
  have hfwd : (s.spend.rdA .ethCtlS).getLsbD 0 = true := hf
  simp only [ethAccept, hst, hc', hcar, hear, ite_self, hkept, hfwd, Bool.not_true, Bool.or_self, Bool.false_eq_true,
    if_false]

end

section
variable {s : State} {p : Fin 14} {f : Frame}

theorem frameReceive_of_down (h : portUp s p = false) : frameReceive p f s = s := by
  simp [frameReceive, h]

theorem frameReceive_of_bad_fcs (h : portUp s p = true) (hf : f.fcsOk = false) :
    frameReceive p f s = s.count .ethPcnt 1 p 1 := by
  simp [frameReceive, h, hf]

theorem frameReceive_of_bad_length (h : portUp s p = true) (hf : f.fcsOk = true)
    (hl : frameLen f < 64 ∨ 2000 < frameLen f) : frameReceive p f s = s.count .ethPcnt 1 p 2 := by
  simp [frameReceive, h, hf, hl]

/-- A frame that passes the checks of its port: MAC control is dropped, the rest counted and seen as a check frame or
accepted. -/
theorem frameReceive_of_good (h : portUp s p = true) (hf : f.fcsOk = true) (h64 : 64 ≤ frameLen f)
    (h2000 : frameLen f ≤ 2000) : frameReceive p f s = if f.etype = 0x8808 then s else
      if f.etype = 0x88B5 && slice f.payload 0 2 = [0, 1] then checkSeen p f (s.count .ethPcnt 1 p 0)
      else ethAccept p f (s.count .ethPcnt 1 p 0) := by
  have hl : ¬ (frameLen f < 64 ∨ 2000 < frameLen f) := by omega
  simp [frameReceive, h, hf, hl]

/-- A counted frame to a learned port that is no PTP message is queued there once; a free value stamps it. -/
theorem ethAccept_counted {e : Fdb} (w : ToLearned s p f e) (ht : ptpAt s f = none) (hc : ptpChan s = none)
    (hd : f.dst ≠ asAddr) (hf : (s.rdA .ethCtlS).getLsbD 0 = true) :
    ∃ st, ethAccept p f (s.count .ethPcnt 1 p 0) = setEthQ (8 * e.port + portQueue s p)
      (ethQ s e.port (portQueue s p) ++ [portTagged s p f st]) (s.count .ethPcnt 1 p 0).spend := by
  have hset := sameSettings_count s p (j := 0) (by decide)
  have hset' : SameSettings s (s.count .ethPcnt 1 p 0).spend := ⟨hset.get, hset.pairs⟩
  have hacc := ethAccept_unpaired (by rw [hset.pairOf_eq]; exact w.unpaired) (by rw [hset.ptpAt_eq, ht])
    (by rw [hset.ptpChan_eq, hc]) hd (by rw [hset.rdA_eq .ethCtlS 0 0 (by decide), hf])
  rw [hacc, ethForward_learned (w.of_sameSettings hset' rfl), portQueue_of_sameSettings hset',
    portTagged_of_sameSettings hset']
  exact ⟨_, rfl⟩

end

/-! ### Frames leaving (09 R218, R226) -/

theorem frameTransmit_of_down {s : State} {p : Fin 14} (h : portUp s p = false) : frameTransmit p s = s := by
  simp [frameTransmit, h]

theorem frameTransmit_of_idle {s : State} {p : Fin 14} (h : portUp s p = true) (hn : serveFrom s p 8 = none) :
    frameTransmit p s = s := by
  simp [frameTransmit, h, hn]

/-- With the transparent clock off a frame leaves as it is. -/
theorem tcApply_of_off {s : State} (h : (s.rdA .ethPtpctlS).getLsbD 0 = false) (p : Nat) (x : QFrame) (out : Nat) :
    tcApply p x out s = (some x.f, s) := by
  rw [tcApply, h]
  rfl

@[simp] theorem takeTokens_regs (p q len : Nat) (s : State) : (takeTokens p q len s).regs = s.regs := by
  unfold takeTokens; split <;> rfl

@[simp] theorem takeTokens_mem (p q len : Nat) (s : State) : (takeTokens p q len s).mem = s.mem := by
  unfold takeTokens; split <;> rfl

@[simp] theorem takeTokens_queues (p q len : Nat) (s : State) : (takeTokens p q len s).eth.q = s.eth.q := by
  unfold takeTokens; split <;> rfl

@[simp] theorem takeTokens_fdb (p q len : Nat) (s : State) : (takeTokens p q len s).eth.fdb = s.eth.fdb := by
  unfold takeTokens; split <;> rfl

/-- The state with the frame x taken from the queue of key k, a free value spent on its stamp, and its length charged to
the rate limit of queue q. -/
def frameSent (s : State) (p q k : Nat) (x : QFrame) : State :=
  takeTokens p q (frameLen (egressFrame s p x x.f)) (setEthQ k ((Tab.get [] s.eth.q k).erase x) s).spend

/-- A frame that completes no channel entry leaves, with the transparent clock off, as its port sends it, and is
counted. -/
theorem frameTransmit_ordinary {s : State} {p : Fin 14} {q k : Nat} {x : QFrame} (h : portUp s p = true)
    (hs : serveFrom s p 8 = some (q, k, x)) (hx : x.chan = none) (ht : (s.rdA .ethPtpctlS).getLsbD 0 = false) :
    let u := (frameSent s p q k x).count .ethPcnt 1 p 4
    frameTransmit p s = { u with eth := { u.eth with tx := some (p.val, egressFrame s p x x.f) } } := by
  have htc : ∀ out, tcApply p x out (setEthQ k ((Tab.get [] s.eth.q k).erase x) s).spend =
      (some x.f, (setEthQ k ((Tab.get [] s.eth.q k).erase x) s).spend) := fun out =>
    tcApply_of_off (s := (setEthQ k _ s).spend) ht _ _ _
  have hst : ∀ ev u, (ethStamp false p ev u).2 = u.spend := fun _ _ => rfl
  simp only [frameTransmit, h, hs, hst, htc, hx]
  rfl

/-! ### Follow-ups (09 R226) -/

theorem followUpExpiry_some {s : State} {p : Fin 14} {e : FollowUp}
    (h : s.eth.fup.find? (fun y => y.port = p.val) = some e) :
    followUpExpiry p s = { s with eth := { s.eth with fup := s.eth.fup.erase e } } := by
  rw [followUpExpiry, h]

theorem followUpExpiry_none {s : State} {p : Fin 14} (h : s.eth.fup.find? (fun y => y.port = p.val) = none) :
    followUpExpiry p s = s := by
  rw [followUpExpiry, h]

/-! ### Channels (09 R221, R222, R240) -/

section
variable {s : State} {n : Part}

theorem asChan_of_enabled (h : chEn s n.toNat = true) (f : Nat → State → State) : asChan (.part n) s f = f n.toNat s :=
  if_pos h

theorem asChan_of_disabled (h : chEn s n.toNat = false) (f : Nat → State → State) :
    asChan (.part n) s f = s.reply .denied :=
  if_neg (by rw [h]; exact Bool.false_ne_true)

theorem chTxN_le (s : State) (m : Nat) : chTxN s m ≤ 2 ^ 15 :=
  Nat.pow_le_pow_right (by decide) (Nat.le_of_lt_succ (fld_lt _ 0 4))

/-- A banked write of a channel register changes no size of a ring. -/
theorem chTxN_wrB (s : State) (n : Part) (b : Nat) (r : Reg) (v : Word) :
    chTxN (s.wrB b r v) n.toNat = chTxN s n.toNat := by
  have hn := n.isLt
  rw [chTxN, State.wrB_rdA s b v (by simp only [Reg.addr, Reg.row]; omega), chTxN]

/-- TXHEAD at the limit: no entry is taken. -/
theorem txTakeTo_at_limit {m lim : Nat} (h : (s.rdB m .ethTxhead).toNat = lim) (k : Nat) : txTakeTo m lim k s = s := by
  cases k with
  | zero => rfl
  | succ k => exact if_pos h

/-- The limit one entry past TXHEAD: that entry is taken, and TXHEAD is the limit (09 R222). -/
theorem txRun_one {m lim : Nat} (h : (s.rdB m .ethTxhead).toNat ≠ lim)
    (hn : ((s.rdB m .ethTxhead).toNat + 1) % chTxN s m = lim) :
    txRun m lim s = (txTake m (s.rdB m .ethTxhead).toNat s).wrB m .ethTxhead (wd lim) := by
  have hpos : 0 < chTxN s m := Nat.two_pow_pos _
  have hlim : lim < 2 ^ 32 := by
    have hle := chTxN_le s m
    have hlt := Nat.mod_lt ((s.rdB m .ethTxhead).toNat + 1) hpos
    omega
  obtain ⟨k, hk⟩ := Nat.exists_eq_succ_of_ne_zero (Nat.ne_of_gt hpos)
  have hstep : txTakeTo m lim (k + 1) s =
      txTakeTo m lim k ((txTake m (s.rdB m .ethTxhead).toNat s).wrB m .ethTxhead (wd lim)) := by
    simp only [txTakeTo, if_neg h, hn]
  rw [txRun, hk, hstep]
  refine txTakeTo_at_limit ?_ k
  rw [State.wrB_rdB]
  exact Nat.mod_eq_of_lt hlim

/-- A write of TXTAIL takes it modulo the ring, and without TXCOMMIT every entry up to it. -/
theorem txtailWrite_of_enabled (h : chEn s n.toNat = true) (v : Word) : txtailWrite (.part n) v s =
    (if txCommitOn s n.toNat then s.wrB n.toNat .ethTxtail (wd (v.toNat % chTxN s n.toNat))
      else txRun n.toNat (v.toNat % chTxN s n.toNat)
        (s.wrB n.toNat .ethTxtail (wd (v.toNat % chTxN s n.toNat)))).reply .ok :=
  asChan_of_enabled h _

end

/-- With TXCOMMIT, or with TXHEAD there already, a write of TXTAIL sets it and takes no entry (09 R222). -/
theorem txtailWrite_takes_none {s : State} {n : Part} {v : Word} (h : chEn s n.toNat = true)
    (hq : txCommitOn s n.toNat = true ∨ (s.rdB n.toNat .ethTxhead).toNat = v.toNat % chTxN s n.toNat) :
    txtailWrite (.part n) v s = (s.wrB n.toNat .ethTxtail (wd (v.toNat % chTxN s n.toNat))).reply .ok := by
  refine (txtailWrite_of_enabled h v).trans (congrArg (State.reply .ok) ?_)
  split
  · rfl
  · next hoff =>
    refine txTakeTo_at_limit ?_ _
    rw [State.wrB_rdB_ne s _ _ (by decide)]
    exact hq.resolve_left hoff

/-- Without TXCOMMIT a write of TXTAIL one entry past TXHEAD takes that entry (09 R222). -/
theorem txtailWrite_takes_one {s : State} {n : Part} {v : Word} (h : chEn s n.toNat = true)
    (hq : txCommitOn s n.toNat = false) (hne : (s.rdB n.toNat .ethTxhead).toNat ≠ v.toNat % chTxN s n.toNat)
    (hone : ((s.rdB n.toNat .ethTxhead).toNat + 1) % chTxN s n.toNat = v.toNat % chTxN s n.toNat) :
    txtailWrite (.part n) v s = ((txTake n.toNat (s.rdB n.toNat .ethTxhead).toNat
      (s.wrB n.toNat .ethTxtail (wd (v.toNat % chTxN s n.toNat)))).wrB n.toNat .ethTxhead
        (wd (v.toNat % chTxN s n.toNat))).reply .ok := by
  have hhead : ∀ x, (s.wrB n.toNat .ethTxtail x).rdB n.toNat .ethTxhead = s.rdB n.toNat .ethTxhead :=
    fun x => State.wrB_rdB_ne s _ x (by decide)
  rw [txtailWrite_of_enabled h, hq, if_neg Bool.false_ne_true, txRun_one (by rw [hhead]; exact hne)
    (by rw [hhead, chTxN_wrB]; exact hone), hhead]

/-- Where no pair's setting changed, every pair stays as it is. -/
theorem pairsRenew_of_same {old s : State} (h : ∀ k, k < 7 → old.rdA .ethPrCfgS k = s.rdA .ethPrCfgS k) :
    pairsRenew old s = s :=
  List.foldlRecOn (motive := fun t => t = s) _ _ rfl fun t ht k hk => by
    rw [ht, if_pos (h k (List.mem_range.mp hk))]

/-- The setting of a channel is no setting of a pair. -/
theorem pairsRenew_wrA_chCtl (s : State) (n : Part) (v : Word) :
    pairsRenew s (s.wrA .ethChCtlS v n.toNat) = s.wrA .ethChCtlS v n.toNat :=
  pairsRenew_of_same fun k hk => (State.wrA_rdA_ne s v (by simp only [Reg.addr, Reg.row]; omega)).symm

theorem chCtlWrite_of_bad {s : State} {m : Nat} {v : Word} (h : chBad s m v = true) :
    chCtlWrite (.part 0) m v s = s.reply .denied := if_pos h

/-- A good write of a channel's CTL sets its shadow, and while the scheduler is disabled its active copy (09 R236). -/
theorem chCtlWrite_of_good {s : State} {n : Part} {v : Word} (h : chBad s n.toNat v = false) :
    let s1 := s.put .ethChCtlS v n.toNat
    chCtlWrite (.part 0) n.toNat v s =
      (if s.schEn then s1 else s1.wrA .ethChCtlS (s1.rd .ethChCtlS n.toNat) n.toNat).reply .ok := by
  have hput : chCtlWrite (.part 0) n.toNat v s = ethPutS .ethChCtlS n.toNat 0 v s :=
    if_neg (by rw [h]; exact Bool.false_ne_true)
  rw [hput, ethPutS, pairsRenew_wrA_chCtl]

end Sys2Proof.Machine
end

section
/-!
CERTIFICATE. The statement about frames, the tables of the switch and a partition's channel, settled.
-/

namespace Sys2Proof.Machine

/-- Settles O49, clause by clause: each command in the case that its conditions name. Counting the frame, which every way
of a good frame begins with, keeps the conditions that the way is chosen by. -/
theorem ethernetFramesAndChannels : Obligations.EthernetFramesAndChannels := by
  unfold Obligations.EthernetFramesAndChannels
  intro s p f vid mac n v rx m
  have hrx : ∀ {t}, frameReceive p f s = t → rx = .next t := fun h => congrArg Host.Outcome.next h
  have htx : ∀ {t}, frameTransmit p s = t → exec (.frameTransmit p) s = .next t := fun h => congrArg Host.Outcome.next h
  have htail : ∀ {t}, txtailWrite (.part n) v s = t → exec (.txtailWrite (.part n) v) s = .next t :=
    fun h => congrArg Host.Outcome.next h
  have hctl : ∀ {t}, chCtlWrite (.part 0) m v s = t → exec (.channelEnable (.part 0) n v) s = .next t :=
    fun h => congrArg Host.Outcome.next h
  refine ⟨fun h => ⟨hrx (frameReceive_of_down h), htx (frameTransmit_of_down h)⟩, fun h =>
      ⟨fun hf => hrx (frameReceive_of_bad_fcs h hf), fun hf hl => hrx (frameReceive_of_bad_length h hf hl), ?good,
        fun hn => htx (frameTransmit_of_idle h hn), ?sent⟩,
    fun e he => congrArg Host.Outcome.next (followUpExpiry_some he),
    fun he => congrArg Host.Outcome.next (followUpExpiry_none he),
    fun ha => congrArg Host.Outcome.next (if_pos ha), fun ha => congrArg Host.Outcome.next (if_neg ha),
    fun hc => ⟨congrArg Host.Outcome.next (asChan_of_disabled hc _), htail (asChan_of_disabled hc _)⟩,
    fun hc => ⟨congrArg Host.Outcome.next (asChan_of_enabled hc _), fun hq => htail (txtailWrite_takes_none hc hq),
      fun hq hne hone => htail (txtailWrite_takes_one hc hq hne hone)⟩,
    fun hb => hctl (chCtlWrite_of_bad hb), fun hb => ?enable⟩
  case good =>
    intro hf h64 h2000
    have hgood := frameReceive_of_good h hf h64 h2000
    refine ⟨fun hmc => hrx (hgood.trans (if_pos hmc)), fun hck hty hp => ?check, ?forward⟩
    case check =>
      have hway : frameReceive p f s = checkSeen p f (s.count .ethPcnt 1 p 0) := by
        rw [hgood, if_neg (by rw [hck]; decide), if_pos (by simp [hck, hty])]
      refine ⟨fun hd => hrx (hway.trans (checkSeen_own hd)), fun hd => hrx (hway.trans (checkSeen_unpaired ?_ hd))⟩
      rw [pairOf_setBits_pstat, (sameSettings_count s p (by decide)).pairOf_eq, hp]
    case forward =>
      intro e hmc hck htag has hgr hptp hch hp hfl hadm c q he h14 hne hmem hup hroom hbuf
      obtain ⟨hfwd, hlearn⟩ := low_bits_of_fld_one hfl
      have hway : frameReceive p f s = ethAccept p f (s.count .ethPcnt 1 p 0) := by
        rw [hgood, if_neg hmc, if_neg (by simpa using hck)]
      obtain ⟨st, hst⟩ := ethAccept_counted ⟨htag, hgr, hp, hlearn, hadm, he, h14, hne, hmem, hup, hroom, hbuf⟩
        hptp hch has hfwd
      exact ⟨_, st, hrx (hway.trans hst), rfl, rfl, rfl, rfl⟩
  case sent =>
    intro q k x hs hx ht
    refine ⟨_, htx (frameTransmit_ordinary h hs hx ht), rfl, takeTokens_queues _ _ _ _, ?registers,
      takeTokens_fdb _ _ _ _, takeTokens_mem _ _ _ _⟩
    simp only [State.count, State.wr, State.rd, frameSent, takeTokens_regs]
    rfl
  case enable =>
    have hput := chCtlWrite_of_good hb
    exact ⟨fun hs => hctl (hput.trans (by rw [hs, if_pos rfl])),
      fun hs => hctl (hput.trans (by rw [hs, if_neg Bool.false_ne_true]))⟩

end Sys2Proof.Machine
end
